-- ==== Sys2Proof/Word.lean ====
section
/-! DEFINITION. The byte of a frame, and a table of a fixed number of like records.
The manual treats frames as bytes (spec 11, section 11.1); everything else of the part is names, numbers and records. -/

namespace Sys2Proof

/-- One byte of a frame. -/
abbrev Byte := BitVec 8

/-- A fixed number of like records, as the manual numbers them from 0. -/
abbrev Tbl (n : Nat) (α : Type) := Vector α n

variable {n : Nat} {α : Type}

/-- Record `i` of a table. -/
def Tbl.nth (t : Tbl n α) (i : Fin n) : α := t[i.val]

/-- The table with record `i` replaced. -/
def Tbl.put (t : Tbl n α) (i : Fin n) (x : α) : Tbl n α := t.set i.val x i.isLt

/-- The table with record `i` changed by `f`. -/
def Tbl.upd (t : Tbl n α) (i : Fin n) (f : α → α) : Tbl n α := t.put i (f (t.nth i))

@[simp] theorem Tbl.nth_put_same (t : Tbl n α) (i : Fin n) (x : α) : (t.put i x).nth i = x := by
  simp [nth, put]

theorem Tbl.nth_put_other (t : Tbl n α) (i j : Fin n) (x : α) (h : i ≠ j) :
    (t.put i x).nth j = t.nth j := by
  have hv : i.val ≠ j.val := fun e => h (Fin.ext e)
  simp [nth, put, hv]

@[simp] theorem Tbl.nth_upd_same (t : Tbl n α) (i : Fin n) (f : α → α) :
    (t.upd i f).nth i = f (t.nth i) := by simp [upd]

theorem Tbl.nth_upd_other (t : Tbl n α) (i j : Fin n) (f : α → α) (h : i ≠ j) :
    (t.upd i f).nth j = t.nth j := by
  simp [upd, nth_put_other _ _ _ _ h]

end Sys2Proof
end

