-- ==== Sys2Proof/Syntax.lean ====
section
/-! DEFINITION. The commands of the part: one constructor for each row of spec/opcode_table.json. -/

namespace Sys2Proof

/-- 10: the two serial ports. -/
inductive Port where
  | console
  | network
  deriving DecidableEq, Repr

/-- 04, section 4.1: the three lamps of a head. -/
inductive Lamp where
  | ra
  | rb
  | gn
  deriving DecidableEq, Repr

/-- What every request frame carries beside its fields (11, section 11.1): the port it arrives on, the level it
claims and its tag. -/
structure Rq where
  port : Port
  claimed : Nat
  tag : Nat
  deriving DecidableEq, Repr

/-- 11, section 11.3: PASS_QUERY names a passage number or a hull mark. -/
inductive PassKey where
  | number (n : Nat)
  | hull (mark : List Byte)
  deriving DecidableEq, Repr

/-- The fields of PASS_REQUEST (05, section 5.2), as the codes its frame carries (11, section 11.3). -/
structure Declaration where
  mark : List Byte
  direction : Nat
  length : Nat
  beam : Nat
  draught : Nat
  tonnes : Nat
  cls : Nat
  payment : Nat
  priority : Nat
  deriving DecidableEq, Repr

/-- One command of the part. Requests carry their fields as numbers, whatever their range, so that a field out of
range can be refused; inputs and timer expiries name the unit they belong to. -/
inductive Instr where
  -- supply and start
  | powerOn (retainedKept : Bool)
  | warmStart
  | powerLoss
  -- the lines
  | receiveByte (p : Port) (b : Byte)
  | framingErrorByte (p : Port)
  | frameGapTimeout (p : Port)
  | frameTaken (p : Port)
  | transmitterFree (p : Port)
  -- the Link Unit, the settings and the clock
  | status (rq : Rq)
  | subscribe (rq : Rq) (mask : Nat)
  | netLevel (rq : Rq) (level : Nat)
  | settingGet (rq : Rq) (ident : Nat)
  | settingSet (rq : Rq) (ident : Nat) (value : Int)
  | settingsStore (rq : Rq)
  | settingsStoreDone
  | restart (rq : Rq)
  | clockSet (rq : Rq) (hour minute second day : Nat)
  -- the Gauge Scanner
  | scan (codes : Tbl 8 Nat)
  | floodCleared
  | calCaptured (ch : Fin 8)
  | levels (rq : Rq)
  | gaugeSubst (rq : Rq) (channel : Nat) (level : Int)
  | gaugeSubstWithdrawal (rq : Rq) (channel : Nat)
  | calPoint (rq : Rq) (channel index : Nat) (staff : Int)
  | calCommit (rq : Rq) (channel : Nat)
  -- the Gate and Sluice Unit
  | gates (rq : Rq)
  | gateCmdOpen (rq : Rq) (gate : Nat)
  | gateCmdForceOpen (rq : Rq) (gate : Nat)
  | gateCmdClose (rq : Rq) (gate : Nat)
  | gateCmdReset (rq : Rq) (gate : Nat)
  | gateCmdRelease (rq : Rq) (gate : Nat)
  | gateLimitInput (g : Fin 4) (shutLimit openLimit : Bool)
  | beamInput (g : Fin 4) (blocked : Bool)
  | beamClearExpiry (g : Fin 4)
  | travelTimeout (g : Fin 4)
  | sluicePositionInput (g : Fin 4) (code : Fin 8)
  | sluiceStepTimeout (g : Fin 4)
  | intervalMet (g : Fin 4)
  | sluiceCmdPosition (rq : Rq) (gate position : Nat)
  | sluiceCmdReset (rq : Rq) (gate : Nat)
  -- the Levelling Unit
  | stepTimerExpiry (g : Fin 4)
  | levellingComplete (g : Fin 4)
  | levellingTimeLimit (g : Fin 4)
  | suspensionTimeout (g : Fin 4)
  | levelCmdStart (rq : Rq) (gate : Nat)
  | levelCmdCancel (rq : Rq) (gate : Nat)
  | levellingStatus (rq : Rq)
  -- the Signal Unit
  | clearanceMarginExpiry (h : Fin 8)
  | lampFail (h : Fin 8) (l : Lamp)
  | lampCurrentInput (h : Fin 8) (l : Lamp) (sensed : Bool)
  | lampStray (h : Fin 8) (l : Lamp)
  | lampReset (rq : Rq) (head lamp : Nat)
  | headCmdAspect (rq : Rq) (head aspect : Nat)
  | headCmdRelease (rq : Rq) (head : Nat)
  | signals (rq : Rq)
  -- the Passage Queue
  | passRequest (rq : Rq) (d : Declaration)
  | passWithdraw (rq : Rq) (number : Nat)
  | passQuery (rq : Rq) (key : PassKey)
  | queueList (rq : Rq) (first count : Nat)
  -- the Flight Scheduler
  | idleHoldExpiry
  | preparationRetryExpiry
  | drawLeavesWindow
  | drawEntryExpiry
  | schedulerStatus (rq : Rq)
  | regime (rq : Rq) (saving : Nat)
  -- the Lockage Tracker
  | batches (rq : Rq)
  | berthed (rq : Rq) (number : Nat)
  | missed (rq : Rq) (number : Nat)
  | entryBerthExpiry (batch : Nat)
  | shiftBerthExpiry (batch : Nat)
  | overdueRepeat (batch : Nat)
  | cleared (rq : Rq) (number : Nat)
  | eject (rq : Rq) (number : Nat)
  | remove (rq : Rq) (number : Nat)
  | waved (rq : Rq) (batch : Nat)
  | confirm (rq : Rq) (batch chamber : Nat)
  -- the Toll Unit
  | tariffGet (rq : Rq) (cls : Nat)
  | tariffSet (rq : Rq) (cls base perMetre perTonne minimum : Nat)
  | hullQuery (rq : Rq) (mark : List Byte)
  | accountQuery (rq : Rq) (id : Nat)
  | accountSet (rq : Rq) (id presence state limit : Nat)
  | accountCredit (rq : Rq) (id amount : Nat)
  | logRead (rq : Rq) (count : Nat)
  | logDrop (rq : Rq) (count : Nat) (oldest : Option Nat)
  | periodClose (rq : Rq)
  -- the Regime Unit
  | flightStatus (rq : Rq)
  | mode (rq : Rq) (m : Nat)
  | flightClose (rq : Rq)
  | flightOpen (rq : Rq)
  | standdown (rq : Rq)
  | resume (rq : Rq)
  | mainsInput (present : Bool)
  | batteryInput (low : Bool)
  | deadlineExpiry
  deriving DecidableEq, Repr

end Sys2Proof
end

