-- ==== Sys2Proof/Decode.lean ====
section
/-! DEFINITION. The command that a word of spec/opcode_table.json spells.
The table gives none of its 94 rows any bits: the commands of this block are steps and events, not words.
Frames are decoded by FRAME_TAKEN (Machine/Frames.lean), from the layouts of spec 11. -/

namespace Sys2Proof

/-- No row of the table gives bits, so no word spells a command. -/
def decodeTableWord (nbits w : Nat) : Option Instr :=
  match nbits, w with
  | _, _ => none

end Sys2Proof
end

