-- ==== Sys2Proof/Config.lean ====
section
/-! DEFINITION. The fixed numbers of the part (values the manual gives and no setting changes), and the free values.
Times are in tenths of a second, the resolution of the part's time base (spec 00, "Units"). -/

namespace Sys2Proof.Config

/-- The position of a sluice whose position input has shown no valid reading since power came on:
spec 02, section 2.7 says the position is the last valid reading and R43 lets the part start with the input at 5 to 7.
A free value (log 18): nothing is known of it but that it is one of the five positions. -/
opaque unreadPosition : Nat → Fin 5

/-- Which of several events that fall together in one step is taken first, where the spec says that either may be
(04/R70 two pending greens in one conflict set; 06/R115 a withdrawal and a giving of the permit at one scan).
A free value (log 18): nothing is known of it. -/
opaque freeChoice : Nat → Nat

/-- 02/R29: the beam clear time of 10 s. -/
def beamClearTime : Nat := 100
/-- 02/R36: the sluice step limit of 15 s. -/
def sluiceStepLimit : Nat := 150
/-- 03/R57: the resume window of 120 s. -/
def resumeWindow : Nat := 1200
/-- 01/R15: the flood clear time of 600 s. -/
def floodClearTime : Nat := 6000
/-- 06/R105, R110: the preparation retry interval of 120 s. -/
def retryInterval : Nat := 1200
/-- 06/R113: the age of 86,400 s at which a draw entry is removed. -/
def drawLife : Nat := 864000
/-- 07/R126: the 300 s at which BERTH_OVERDUE is repeated. -/
def overdueRepeat : Nat := 3000
/-- 09/R160: the shortened remainder of 120 s. -/
def shortDeadline : Nat := 1200
/-- 05/R82: the most open passages. -/
def maxPassages : Nat := 32
/-- 08/R152, 06/R101: the most log records. -/
def maxLog : Nat := 256
/-- 08/R145: the most hull entries. -/
def maxHulls : Nat := 128
/-- 06/R113: the most draw entries. -/
def maxDraws : Nat := 32
/-- 06/R106: the most members of a batch. -/
def maxMembers : Nat := 4
/-- 06/R106: the gap in dm between adjacent members. -/
def memberGap : Nat := 20
/-- 10/R171: the most frames in a receive buffer. -/
def maxBuffer : Nat := 4
/-- 10/R171: the most replies on a reply line. -/
def maxReplies : Nat := 8
/-- 10/R176: the most reports in a report queue. -/
def maxReports : Nat := 24
/-- 08/R143, R151: the cap of a toll, in cents. -/
def maxToll : Nat := 9999999
/-- 08/R148, R151: the bound of a balance, in cents. -/
def maxBalance : Int := 99999999

end Sys2Proof.Config
end

