-- ==== Sys2Proof/Machine/Bytes.lean ====
section
/-! DEFINITION. Roundings (spec 00, "Rounding"), the encoding of fields in frame bodies (11/R181) and the CRC-16 of
a frame (10, section 10.2). -/

namespace Sys2Proof.Machine

/-- 00, "Rounding": `n / d` rounded to the nearest integer, a half going away from zero. -/
def roundHalfAway (n : Int) (d : Nat) : Int :=
  if 0 ≤ n then (2 * n + d) / (2 * d) else -((2 * (-n) + d) / (2 * d))

/-- 00, "Rounding": `n / d` rounded to the nearest integer, a half going up; for money, which is not negative. -/
def roundHalfUp (n d : Nat) : Nat := (2 * n + d) / (2 * d)

/-- The magnitude of a level difference or head. -/
def mag (x : Int) : Int := if 0 ≤ x then x else -x

/-- 00, "Rounding": the mean of two levels, their sum halved and rounded down. -/
def meanDown (a b : Int) : Int := (a + b) / 2

/-- One unsigned byte. -/
def u1 (x : Nat) : List Byte := [BitVec.ofNat 8 x]

/-- 11/R181: two bytes, high byte first. -/
def u2 (x : Nat) : List Byte := [BitVec.ofNat 8 (x / 256), BitVec.ofNat 8 x]

/-- 11/R181: four bytes, high byte first. -/
def u4 (x : Nat) : List Byte := u2 (x / 65536) ++ u2 x

/-- 11/R181: two bytes, two's complement, high byte first. -/
def s2 (x : Int) : List Byte := u2 (x % 65536).toNat

/-- 11/R181: four bytes, two's complement, high byte first. -/
def s4 (x : Int) : List Byte := u4 (x % 4294967296).toNat

/-- A mark, sent as one byte of 0 or 1. -/
def b1 (x : Bool) : List Byte := u1 x.toNat

/-- 11/R181: an absent level or head is sent as −32768, which the rule says of replies; in a report too (log 14). -/
def lvl2 (x : Option Int) : List Byte := s2 (x.getD (-32768))

/-- 11/R181: a stopped timer is sent as 0xFFFF; a running one as its whole seconds, of which one that has run past 65,534 s
sends the low 16 bits: at 65,535 s it reads as stopped (log 80). -/
def timer2 (tenths : Option Nat) : List Byte :=
  match tenths with
  | none => u2 0xFFFF
  | some t => u2 (t / 10)

/-- 11/R181: an absent id, where 0 is no valid value. -/
def opt1 (x : Option Nat) : List Byte := u1 (x.getD 0)

/-- 11/R181: an absent id, where 0 is a valid value. -/
def optFF (x : Option Nat) : List Byte := u1 (x.getD 0xFF)

/-- Bits of one byte, bit 0 first. -/
def bits1 (bs : List Bool) : List Byte := u1 (bs.foldr (fun b n => b.toNat + 2 * n) 0)

/-- Unsigned value of bytes sent high byte first. -/
def natOf (bs : List Byte) : Nat := bs.foldl (fun n b => 256 * n + b.toNat) 0

/-- Signed value of bytes sent high byte first, two's complement. -/
def intOf (bs : List Byte) : Int :=
  if 2 * natOf bs < 256 ^ bs.length then natOf bs else (natOf bs : Int) - 256 ^ bs.length

/-- One bit step of the CRC: polynomial 0x1021, not reflected. -/
def crcBit (c : BitVec 16) : BitVec 16 :=
  if c.msb then (c <<< 1) ^^^ 0x1021#16 else c <<< 1

/-- One byte of the CRC. -/
def crcByte (c : BitVec 16) (b : Byte) : BitVec 16 :=
  crcBit (crcBit (crcBit (crcBit (crcBit (crcBit (crcBit (crcBit (c ^^^ ((b.zeroExtend 16) <<< 8)))))))))

/-- 10, section 10.2: the CRC over the length byte through the last byte of the body, initial value 0xFFFF. -/
def crc16 (bs : List Byte) : BitVec 16 := bs.foldl crcByte 0xFFFF#16

/-- 05, section 5.1 and 11/R181: a hull mark is 8 characters, each A–Z or 0–9. -/
def hullMarkOk (m : List Byte) : Bool :=
  decide (m.length = 8) &&
    m.all fun c => decide (65 ≤ c.toNat ∧ c.toNat ≤ 90) || decide (48 ≤ c.toNat ∧ c.toNat ≤ 57)

end Sys2Proof.Machine
end

