-- ==== Sys2Proof/Machine/State.lean ====
section
/-! DEFINITION. The state of the part, block by block as spec 00 ("Functional blocks") lists what each block owns,
the reasons a command can stop (none, and the refusal the interface asks for), and the state after reset. -/

namespace Sys2Proof.Machine

/-! ## Names of the manual -/

/-- 00, "Directions". -/
inductive Dir where
  | up
  | down
  deriving DecidableEq, Repr

/-- 01, section 1.1. -/
inductive GaugeStatus where
  | good
  | subst
  | fault
  deriving DecidableEq, Repr

/-- 01, section 1.1. -/
inductive BodyStatus where
  | good
  | doubtful
  | single
  | subst
  | fault
  deriving DecidableEq, Repr

/-- 01, section 1.1: the sign memory of a head. -/
inductive Sign where
  | none
  | pos
  | neg
  deriving DecidableEq, Repr

/-- 02, section 2.1. -/
inductive GateSt where
  | shut
  | opening
  | opened
  | closing
  | stopped
  | fault
  deriving DecidableEq, Repr

/-- 02, section 2.1 and 04, section 4.1: on whose behalf a gate or a head is worked. -/
inductive Owner where
  | none
  | batch (id : Nat)
  | keeper
  deriving DecidableEq, Repr

/-- 02, section 2.1: the fault cause of a gate. -/
inductive GateCause where
  | travel
  | limitLost
  | limitBoth
  | limitWrong
  deriving DecidableEq, Repr

/-- 02, section 2.7. -/
inductive SluiceSt where
  | steady
  | moving
  | fault
  deriving DecidableEq, Repr

/-- 03, section 3.1. -/
inductive ChanSt where
  | idle
  | waitingConnection
  | waitingWater
  | running
  | holding
  | level
  | suspended
  | failed
  deriving DecidableEq, Repr

/-- 03: the requester and purpose of a levelling. -/
inductive Purpose where
  | ahead (batch : Nat)
  | entry
  | turn
  | keeper
  deriving DecidableEq, Repr

/-- 03, section 3.1: the permit mark. -/
inductive Permit where
  | notNeeded
  | undecided
  | asked
  | given
  deriving DecidableEq, Repr

/-- 03, section 3.1: the fail cause of a channel. -/
inductive ChanCause where
  | time
  | suspension
  | gate
  | sluice
  deriving DecidableEq, Repr

/-- 03/R46: why an automatic levelling request was refused. -/
inductive AskRefusal where
  | manual
  | stoodDown
  | otherRequester
  | state
  deriving DecidableEq, Repr

/-- 04, section 4.1. -/
inductive Aspect where
  | dark
  | stop
  | prepare
  | go
  | shut
  deriving DecidableEq, Repr

/-- 05, section 5.1. -/
inductive PassSt where
  | waiting
  | heldDepth
  | heldAccount
  | called
  | berthed
  | shifting
  | leaving
  | unresolved
  deriving DecidableEq, Repr

/-- 05/R91: the outcome of a passage that ends. -/
inductive PassEnd where
  | completed
  | removed
  | ejected
  | withdrawn
  | missed
  deriving DecidableEq, Repr

/-- 05, section 5.1: the kind of a committed amount. -/
inductive CommitKind where
  | quote
  | fee
  deriving DecidableEq, Repr

/-- 06, section 6.1. -/
inductive SchedSt where
  | serving
  | draining
  | idleHold
  | turning
  deriving DecidableEq, Repr

/-- 06/R114: why a permit is deferred. -/
inductive Deferral where
  | window
  | upstreamLow
  deriving DecidableEq, Repr

/-- 07, section 7.1. -/
inductive Step where
  | entering
  | sealing
  | waitingAhead
  | levellingAhead
  | openingAhead
  | shifting
  | leaving
  | held
  | unresolved
  deriving DecidableEq, Repr

/-- 07/R134: how a batch ends. -/
inductive BatchEnd where
  | completed
  | dissolved
  | removed
  deriving DecidableEq, Repr

/-- 09, section 9.1. -/
inductive Mode where
  | auto
  | manual
  deriving DecidableEq, Repr

/-- 09/R157. -/
inductive Condition where
  | running
  | closing
  | stoodDown
  deriving DecidableEq, Repr

/-- 09/R162, R163: why a gate or sluice stands on the left list. -/
inductive LeftReason where
  | beam
  | shifting
  | fault
  | held
  | obstructed
  | refused
  deriving DecidableEq, Repr

/-- 10/R175: the classes of reports. -/
inductive RClass where
  | alarm
  | passage
  | water
  | signal
  | account
  deriving DecidableEq, Repr

/-- 10/R173: the statuses of replies. -/
inductive Status where
  | ok
  | busy
  | denied
  | unknown
  | badField
  | full
  | duplicate
  | notFound
  | state
  deriving DecidableEq, Repr

/-! ## Settings -/

/-- 08, section 8.1: the tariff row of one class. -/
structure Tariff where
  base : Nat
  perMetre : Nat
  perTonne : Nat
  minimum : Nat
  deriving DecidableEq, Repr

/-- The settings, in the units of spec 11, section 11.3 (durations in seconds but for the clearance margin and the
lamp proving time, which are in tenths). -/
structure Settings where
  usableLength : Tbl 3 Nat
  usableWidth : Tbl 3 Nat
  sill0 : Int
  sill3 : Int
  minInnerDepth : Nat
  maxBeam : Nat
  keelMargin : Nat
  gain : Tbl 8 Nat
  offset : Tbl 8 Int
  agreeTol : Nat
  lowLimit : Tbl 5 Int
  highLimit : Tbl 5 Int
  floodLimit : Int
  travelLimit : Nat
  forcingLimit : Nat
  gateInterval : Nat
  stepInterval : Nat
  nearBand : Nat
  openTol : Nat
  settleTime : Nat
  surgeLimit : Nat
  levelTimeLimit : Nat
  clearMargin : Nat
  lampProving : Nat
  restDir : Dir
  idleHold : Nat
  bypassLimit : Nat
  drawCount : Nat
  drawWindow : Nat
  berthLimit : Nat
  nightStart : Nat
  nightEnd : Nat
  nightSurcharge : Nat
  waterSurcharge : Nat
  frequentThreshold : Nat
  frequentDiscount : Nat
  closingDeadline : Nat
  consoleRate : Nat
  networkRate : Nat
  networkCeiling : Nat
  tariff : Tbl 8 Tariff
  deriving DecidableEq, Repr

/-- The defaults of the settings tables of spec 00, 01 section 1.1, 02 section 2.1, 03 section 3.1, 04 section 4.1,
06 section 6.1, 07 section 7.1, 08 section 8.1, 09 section 9.1 and 10 section 10.1. -/
def Settings.default : Settings where
  usableLength := #v[1100, 1100, 1100]
  usableWidth := #v[114, 114, 114]
  sill0 := -1500
  sill3 := 10500
  minInnerDepth := 3000
  maxBeam := 110
  keelMargin := 300
  gain := Vector.replicate 8 5120
  offset := Vector.replicate 8 (-475)
  agreeTol := 40
  lowLimit := #v[500, 0, 4000, 8000, 13500]
  highLimit := #v[4500, 8000, 12000, 16000, 15000]
  floodLimit := 15200
  travelLimit := 90
  forcingLimit := 150
  gateInterval := 5
  stepInterval := 30
  nearBand := 250
  openTol := 30
  settleTime := 20
  surgeLimit := 3
  levelTimeLimit := 900
  clearMargin := 30
  lampProving := 20
  restDir := .up
  idleHold := 300
  bypassLimit := 3
  drawCount := 6
  drawWindow := 3600
  berthLimit := 600
  nightStart := 1320
  nightEnd := 360
  nightSurcharge := 25
  waterSurcharge := 40
  frequentThreshold := 10
  frequentDiscount := 15
  closingDeadline := 1200
  consoleRate := 115200
  networkRate := 38400
  networkCeiling := 2
  tariff := Vector.replicate 8 ⟨0, 0, 0, 0⟩

/-! ## Time and pins -/

/-- 08/R141: the clock, and a stamp of it. `tod` is in tenths of a second since midnight. -/
structure Clock where
  day : Nat
  tod : Nat
  unset : Bool
  deriving DecidableEq, Repr

/-- One value for each lamp of a head. -/
structure Lamps (α : Type) where
  ra : α
  rb : α
  gn : α
  deriving DecidableEq, Repr

/-- The inputs at the part's pins (00, "Pin groups"). -/
structure Pins where
  shutLimit : Tbl 4 Bool
  openLimit : Tbl 4 Bool
  beam : Tbl 4 Bool
  sluicePos : Tbl 4 (Fin 8)
  lampCurrent : Tbl 8 (Lamps Bool)
  mains : Bool
  batteryLow : Bool
  deriving DecidableEq, Repr

/-- The drives at the part's pins (00, "Pin groups"): they follow from the records of the gates, sluices and heads
(log 31), and State.drives gives them. -/
structure Drives where
  gateOpen : Tbl 4 Bool
  gateClose : Tbl 4 Bool
  sluiceRaise : Tbl 4 Bool
  sluiceLower : Tbl 4 Bool
  lamp : Tbl 8 (Lamps Bool)
  deriving DecidableEq, Repr

/-! ## Gauge Scanner (01) -/

/-- A calibration capture in progress. -/
structure Capture where
  index : Nat
  staff : Int
  taken : Nat
  sum : Nat
  deriving DecidableEq, Repr

/-- A held calibration point. -/
structure CalPoint where
  raw : Nat
  staff : Int
  deriving DecidableEq, Repr

/-- The gauge record of 01, section 1.1 (gain and offset stand with the settings). -/
structure Gauge where
  raw : Nat
  level : Option Int
  status : GaugeStatus
  clamped : Bool
  subst : Option Int
  reinit : Bool
  capture : Option Capture
  point1 : Option CalPoint
  point2 : Option CalPoint
  deriving DecidableEq, Repr

/-- The body record of 01, section 1.1. `high` and `low` are the limit states HIGH and LOW. -/
structure Body where
  level : Option Int
  status : BodyStatus
  lastGood : Option Int
  high : Bool
  low : Bool
  deriving DecidableEq, Repr

/-- The head across a gate (01/R12). -/
structure WaterHead where
  value : Option Int
  usable : Bool
  usableForcing : Bool
  sign : Sign
  deriving DecidableEq, Repr

/-- The state the Gauge Scanner owns. `shown` and `shownFlood` are the gauge records and the flood state as the most
recently completed scan left them: what LEVELS gives (01/R1, R21). The bodies and heads change at a scan alone. -/
structure Scanner where
  gauges : Tbl 8 Gauge
  bodies : Tbl 5 Body
  heads : Tbl 4 WaterHead
  flood : Bool
  clearSince : Option Nat
  first : Bool
  shown : Tbl 8 Gauge
  shownFlood : Bool
  deriving DecidableEq, Repr

/-! ## Gate and Sluice Unit (02) -/

/-- A pending automatic gate request: its requester is the Lockage Tracker for a batch, or the Regime Unit. -/
inductive GateAsk where
  | openFor (batch : Nat)
  | closeFor (batch : Nat)
  | regimeClose
  deriving DecidableEq, Repr

/-- The gate record of 02, section 2.1. `limit` is the travel time limit, in seconds, set when the movement was taken
(02/R30; log 13). Times are values of the elapsed count. -/
structure Gate where
  st : GateSt
  owner : Owner
  travel : Option Nat
  limit : Nat
  obstructions : Nat
  beamClear : Option Nat
  lastShut : Nat
  ask : Option GateAsk
  hold : Bool
  cause : Option GateCause
  deriving DecidableEq, Repr

/-- The sluice record of 02, section 2.7. -/
structure Sluice where
  st : SluiceSt
  pos : Nat
  cmd : Nat
  step : Option Nat
  deriving DecidableEq, Repr

/-! ## Levelling Unit (03) -/

/-- The channel record of 03, section 3.1 (the grant stands with the Gate and Sluice Unit), with what its step timer and
its hold wait for: `reached`, the sluice has reached position 1 or above in this levelling, and again since the last
resumption (03/R50, R57; log 60); and `far`, the last evaluation found |H_g| above the near band (03/R45, R50). -/
structure Channel where
  st : ChanSt
  req : Option Purpose
  permit : Permit
  cmd : Nat
  stepT : Option Nat
  settleT : Option Nat
  surge : Nat
  start : Option Nat
  limit : Option Nat
  susp : Option Nat
  opened : Bool
  cause : Option ChanCause
  reached : Bool
  far : Bool
  deriving DecidableEq, Repr

/-- 03/R45: an IDLE channel; its permit mark is not needed, since none is asked or given (log 46). -/
def Channel.idle : Channel := 
  ⟨.idle, none, .notNeeded, 0, none, none, 0, none, none, none, false, none, false, false⟩

/-! ## Signal Unit (04) -/

/-- A proving or stray timer that runs: when it started and the proving time it started with, in tenths (04/R72). -/
structure LampTimer where
  since : Nat
  limit : Nat
  deriving DecidableEq, Repr

/-- The head record of 04, section 4.1. `good` is the lamp health. -/
structure Head where
  shown : Aspect
  staged : Aspect
  pending : Bool
  holder : Owner
  goEnd : Nat
  waved : Bool
  good : Lamps Bool
  prove : Lamps (Option LampTimer)
  stray : Lamps (Option LampTimer)
  mark : Lamps Bool
  deriving DecidableEq, Repr

/-! ## Passage Queue (05) -/

/-- 08/R143: the basis marks of a toll. -/
structure Basis where
  night : Bool
  saving : Bool
  discount : Bool
  deriving DecidableEq, Repr

/-- The open passage record of 05, section 5.1. A payment of `none` is CASH. -/
structure Passage where
  number : Nat
  mark : List Byte
  dir : Dir
  length : Nat
  beam : Nat
  draught : Nat
  tonnes : Nat
  cls : Fin 8
  payment : Option Nat
  priority : Bool
  arrival : Clock
  origin : Port
  st : PassSt
  bypass : Nat
  misses : Nat
  batch : Option Nat
  chamber : Option Nat
  committed : Option (CommitKind × Nat)
  basis : Option Basis
  berthedAt : Option Clock
  deriving DecidableEq, Repr

/-! ## Flight Scheduler (06) -/

/-- 06, section 6.1: the idle-hold timer. -/
inductive IdleTimer where
  | stopped
  | running (since : Nat)
  | expired
  deriving DecidableEq, Repr

/-- 06, section 6.1: the entry preparation. `standing` is false while the request stands refused (06/R110). -/
inductive Prep where
  | absent
  | asked (gate : Fin 4) (turn : Bool) (standing : Bool)
  | failed (gate : Fin 4) (turn : Bool) (when : Nat)
  deriving DecidableEq, Repr

/-- 06/R113: one draw entry. -/
structure Draw where
  start : Nat
  purpose : Purpose
  deriving DecidableEq, Repr

/-- 06, section 6.1: the permit request of channel 3. -/
structure PermitRequest where
  purpose : Purpose
  askedAt : Nat
  cause : Deferral
  deriving DecidableEq, Repr

/-- The scheduler record of 06, section 6.1 (the elapsed count stands with the time of the part). `oldest` is the
passage O found at the last opportunity (06/R118). -/
structure Scheduler where
  dir : Dir
  st : SchedSt
  idle : IdleTimer
  prep : Prep
  refusal : Option AskRefusal
  short : Bool
  saving : Bool
  draws : List Draw
  permit : Option PermitRequest
  oldest : Option Nat
  deriving DecidableEq, Repr

/-! ## Lockage Tracker (07) -/

/-- One member of a batch with its berthed flag. -/
structure Member where
  number : Nat
  flag : Bool
  deriving DecidableEq, Repr

/-- 07, section 7.1: the held causes. -/
structure HeldCauses where
  gate : Bool
  levelling : Bool
  green : Bool
  stopSignal : Bool
  overdue : Bool
  deriving DecidableEq, Repr

/-- No held cause. -/
def HeldCauses.none : HeldCauses := ⟨false, false, false, false, false⟩

/-- 07, section 7.1: the berth timer: the time run before it last stopped, and when it last started. -/
structure BerthTimer where
  run : Nat
  since : Option Nat
  deriving DecidableEq, Repr

/-- The batch record of 07, section 7.1. -/
structure Batch where
  id : Nat
  dir : Dir
  members : List Member
  chamber : Option Nat
  target : Option Nat
  step : Step
  heldStep : Option Step
  causes : HeldCauses
  stepStart : Nat
  berth : BerthTimer
  overdue : Option Nat
  waved : Bool
  frozen : Bool
  own : Option (Fin 4 × Purpose)
  deriving DecidableEq, Repr

/-! ## Toll Unit (08) -/

/-- 08, section 8.6: an account. -/
structure Account where
  id : Nat
  blocked : Bool
  balance : Int
  reserved : Int
  limit : Int
  posted : Nat
  deriving DecidableEq, Repr

/-- 08, section 8.5: a hull entry; its recency rank is its place in the table. -/
structure Hull where
  mark : List Byte
  length : Nat
  beam : Nat
  draught : Nat
  cls : Fin 8
  account : Option Nat
  passages : Nat
  last : Option Clock
  deriving DecidableEq, Repr

/-- 08, section 8.8: a passage log record. -/
structure LogRec where
  number : Nat
  mark : List Byte
  dir : Dir
  cls : Fin 8
  length : Nat
  tonnes : Nat
  payment : Option Nat
  fee : Nat
  basis : Basis
  clockUnset : Bool
  removed : Bool
  arrival : Clock
  berthedAt : Option Clock
  ended : Clock
  deriving DecidableEq, Repr

/-- The books of the Toll Unit that no reaction of another block changes: the hull table in recency order, the
passage log, oldest first, and the period start. -/
structure Books where
  hulls : List Hull
  log : List LogRec
  periodStart : Clock
  deriving DecidableEq, Repr

/-! ## Regime Unit (09) -/

/-- 09, section 9.1: the closing deadline; a running one holds the value of the elapsed count at which it expires. -/
inductive Deadline where
  | idle
  | running (until_ : Nat)
  | expired
  deriving DecidableEq, Repr

/-- 09, section 9.1: one entry of the left list. -/
structure LeftEntry where
  sluice : Bool
  index : Fin 4
  reason : LeftReason
  deriving DecidableEq, Repr

/-- 09, section 9.1: a stand-down in progress. -/
structure Progress where
  gates : Tbl 4 Bool
  sluices : Tbl 4 Bool
  heads : Bool
  since : Nat
  deriving DecidableEq, Repr

/-- The regime record of 09, section 9.1, and the Tracker's set of gates last handed over (07/R120). -/
structure Regime where
  mode : Mode
  flood : Bool
  mainsCause : Bool
  keeper : Bool
  stoodDown : Bool
  deadline : Deadline
  batteryLow : Bool
  mainsPresent : Bool
  progress : Option Progress
  left : List LeftEntry
  passing : Tbl 4 Bool
  deriving DecidableEq, Repr

/-! ## Link Unit (10) -/

/-- A report, with its class and its body (11/R183); `also` is the port that receives it whatever its mask. -/
structure Report where
  cls : RClass
  body : List Byte
  also : Option Port
  deriving DecidableEq, Repr

/-- A complete request frame (11, section 11.1). -/
structure Frame where
  kind : Nat
  tag : Nat
  level : Nat
  body : List Byte
  deriving DecidableEq, Repr

/-- What follows when a frame has been sent in full: nothing, the start of a RESTART (10/R180), or a change of a
port's rate (10/R169). -/
inductive AfterSent where
  | nothing
  | restart
  | rate (p : Port) (bitsPerSecond : Nat)
  deriving DecidableEq, Repr

/-- A frame the part sends. `status` is the Level/Status byte. -/
structure OutFrame where
  kind : Nat
  tag : Nat
  status : Nat
  body : List Byte
  after : AfterSent
  deriving DecidableEq, Repr

/-- 10, section 10.1: the assembly. `bytes` holds what came after the start byte. -/
inductive Assembly where
  | hunting
  | part (bytes : List Byte) (lastByte : Nat)
  deriving DecidableEq, Repr

/-- The port record of 10, section 10.1, with the frame being sent and the tag of a store's reply still owed. -/
structure PortRec where
  rate : Nat
  asm : Assembly
  buffer : List Frame
  replies : List OutFrame
  mask : BitVec 5
  reports : List Report
  overflow : Bool
  sending : Option OutFrame
  owed : Option Nat
  deriving DecidableEq, Repr

/-- A settings store in progress: who asked, and the settings being written (10/R179). -/
structure Store where
  port : Port
  tag : Nat
  image : Settings
  deriving DecidableEq, Repr

/-- The state of the Link Unit, the settings store and the indications of the start. -/
structure Link where
  console : PortRec
  network : PortRec
  store : Option Store
  restartDue : Bool
  settingsDefaulted : Bool
  retainedLost : Bool
  deriving DecidableEq, Repr

/-- The non-volatile settings image (09/R166). -/
structure NvImage where
  good : Bool
  settings : Settings
  deriving DecidableEq, Repr

/-! ## The whole part -/

/-- What every block reads and no reaction of a block to another changes: the settings, the time, the pins, the
results of the last scan and the Toll Unit's books. -/
structure Base where
  settings : Settings
  clock : Clock
  elapsed : Nat
  pins : Pins
  scanner : Scanner
  books : Books
  deriving DecidableEq, Repr

/-- The state of the blocks that act on one another within a step. `freeIndex` is the model's own: the index of the
next free value (log 18). -/
structure Plant where
  gates : Tbl 4 Gate
  sluices : Tbl 4 Sluice
  grants : Tbl 4 Bool
  waiting : List (Fin 4)
  channels : Tbl 4 Channel
  heads : Tbl 8 Head
  passages : List Passage
  nextPassage : Nat
  sched : Scheduler
  batches : List Batch
  nextBatch : Nat
  errands : Tbl 4 (Option Nat)
  accounts : List Account
  regime : Regime
  freeIndex : Nat
  deriving DecidableEq, Repr

/-- The state of the part, and the queue of commands that wait. -/
structure State where
  pending : List Instr
  powered : Bool
  nv : NvImage
  link : Link
  base : Base
  plant : Plant
  deriving DecidableEq, Repr

/-- A command never stops the part: no rule of the spec gives it a way to stop, so there is no fault. Nothing raises
one; a step that could fault does not exist (safe: no command is cut short). -/
inductive Fault where
  deriving DecidableEq, Repr

/-- Why a command is refused. -/
inductive Refusal where
  /-- Raised by `exec` alone, for a command without a meaning. No command is left without one. Safe: the model stops. -/
  | notModelled (mnemonic : String)
  deriving DecidableEq, Repr

/-! ## Reset -/

/-- The pins right after reset (log 3): gates at their shut limits, beams clear, sluices at 0, no lamp current, mains
present, battery normal. -/
def Pins.reset : Pins where
  shutLimit := Vector.replicate 4 true
  openLimit := Vector.replicate 4 false
  beam := Vector.replicate 4 false
  sluicePos := Vector.replicate 4 0
  lampCurrent := Vector.replicate 8 ⟨false, false, false⟩
  mains := true
  batteryLow := false

/-- 08/R141: after a power-on the clock is unset and starts from day 0 at 00:00:00.0. -/
def Clock.reset : Clock := ⟨0, 0, true⟩

/-- 01/R20: a gauge after a start. -/
def Gauge.start : Gauge := ⟨0, none, .fault, false, none, true, none, none, none⟩

/-- 01/R20: a body after a start. -/
def Body.start : Body := ⟨none, .fault, none, false, false⟩

/-- 01/R20: a head across a gate after a start. -/
def WaterHead.start : WaterHead := ⟨none, false, false, .none⟩

/-- 01/R20: the Gauge Scanner after a start. -/
def Scanner.start : Scanner where
  gauges := Vector.replicate 8 Gauge.start
  bodies := Vector.replicate 5 Body.start
  heads := Vector.replicate 4 WaterHead.start
  flood := false
  clearSince := none
  first := true
  shown := Vector.replicate 8 Gauge.start
  shownFlood := false

/-- 02/R43: a gate at its shut limit after a start at time 0. -/
def Gate.reset : Gate := ⟨.shut, .none, none, 0, 0, none, 0, none, false, none⟩

/-- 04/R80: a head after a start at time 0 with no lamp current: the lamps of its rest aspect are being proved. -/
def Head.reset (approach : Bool) : Head where
  shown := if approach then .shut else .stop
  staged := if approach then .shut else .stop
  pending := false
  holder := .none
  goEnd := 0
  waved := false
  good := ⟨true, true, true⟩
  prove := ⟨some ⟨0, 20⟩, if approach then some ⟨0, 20⟩ else none, none⟩
  stray := ⟨none, none, none⟩
  mark := ⟨false, false, false⟩

/-- 06/R117: the scheduler after a start with the retained image bad. -/
def Scheduler.reset : Scheduler :=
  ⟨.up, .idleHold, .stopped, .absent, none, false, false, [], none, none⟩

/-- 09/R167: the Regime Unit after a start with mains present and the battery normal. -/
def Regime.reset : Regime where
  mode := .auto
  flood := false
  mainsCause := false
  keeper := false
  stoodDown := true
  deadline := .idle
  batteryLow := false
  mainsPresent := true
  progress := none
  left := []
  passing := Vector.replicate 4 false

/-- The clock stamp at the head of a start report (11/R183, R181): day 0, 00:00:00.0, unset. -/
def resetStamp : List Byte := [0, 0, 0, 0, 0, 0, 1]

/-- The ASPECT report of head `h` after a reset (04/R71, R80; 11/R183). -/
def resetAspect (h : Nat) (approach : Bool) : Report where
  cls := .signal
  body := u1 0x60 ++ resetStamp ++ u1 h ++ (if approach then [4, 4, 0, 3] else [1, 1, 0, 1]) ++ [0, 0]
  also := none

/-- 09/R166: the start reports after a reset, as the console port queues them: the first aspect of each head (04/R80)
and FLIGHT_STATE with cause start (09/R167): STOOD_DOWN, no cause, AUTO, deadline IDLE. -/
def resetReports : List Report :=
  [resetAspect 0 true, resetAspect 1 false, resetAspect 2 false, resetAspect 3 false, resetAspect 4 false,
   resetAspect 5 false, resetAspect 6 false, resetAspect 7 true,
   ⟨.alarm, u1 0x0D ++ resetStamp ++ [2, 0, 0, 0, 0xFF, 0xFF, 0], none⟩]

/-- 10/R169: a port after a start, before the start reports. -/
def PortRec.start (rate : Nat) (mask : BitVec 5) : PortRec := ⟨rate, .hunting, [], [], mask, [], false, none, none⟩

/-- The state right after reset: a power-on of a part whose settings image and retained image are both bad (09/R166;
log 3). -/
def State.reset : State where
  pending := []
  powered := true
  nv := ⟨false, Settings.default⟩
  link := {
    console := { PortRec.start 115200 0b11111#5 with reports := resetReports }
    network := PortRec.start 38400 0b00010#5
    store := none
    restartDue := false
    settingsDefaulted := true
    retainedLost := true }
  base := {
    settings := Settings.default
    clock := Clock.reset
    elapsed := 0
    pins := Pins.reset
    scanner := Scanner.start
    books := ⟨[], [], Clock.reset⟩ }
  plant := {
    gates := Vector.replicate 4 Gate.reset
    sluices := Vector.replicate 4 ⟨.steady, 0, 0, none⟩
    grants := Vector.replicate 4 false
    waiting := []
    channels := Vector.replicate 4 Channel.idle
    heads := #v[Head.reset true, Head.reset false, Head.reset false, Head.reset false, Head.reset false,
      Head.reset false, Head.reset false, Head.reset true]
    passages := []
    nextPassage := 1
    sched := Scheduler.reset
    batches := []
    nextBatch := 1
    errands := Vector.replicate 4 none
    accounts := []
    regime := Regime.reset
    freeIndex := 0 }

end Sys2Proof.Machine
end

