-- ==== Sys2Proof/Machine/Codes.lean ====
section
/-! DEFINITION. The codes of enumerated fields (spec 11, section 11.4), of statuses and classes (section 11.1), and the
encodings of records (section 11.5). Codes that chapter 11 does not give are the model's (log 14). -/

namespace Sys2Proof.Machine

/-- 11, section 11.4. -/
def Dir.code : Dir → Nat
  | .up => 0
  | .down => 1

/-- 11, section 11.4. -/
def GaugeStatus.code : GaugeStatus → Nat
  | .good => 0
  | .subst => 1
  | .fault => 2

/-- 11, section 11.4. -/
def BodyStatus.code : BodyStatus → Nat
  | .good => 0
  | .doubtful => 1
  | .single => 2
  | .subst => 3
  | .fault => 4

/-- 11, section 11.4. -/
def GateSt.code : GateSt → Nat
  | .shut => 0
  | .opening => 1
  | .opened => 2
  | .closing => 3
  | .stopped => 4
  | .fault => 5

/-- 02, section 2.1, in the order of the table (log 14). -/
def GateCause.code : GateCause → Nat
  | .travel => 0
  | .limitLost => 1
  | .limitBoth => 2
  | .limitWrong => 3

/-- 11, section 11.4. -/
def SluiceSt.code : SluiceSt → Nat
  | .steady => 0
  | .moving => 1
  | .fault => 2

/-- 11, section 11.4. -/
def ChanSt.code : ChanSt → Nat
  | .idle => 0
  | .waitingConnection => 1
  | .waitingWater => 2
  | .running => 3
  | .holding => 4
  | .level => 5
  | .suspended => 6
  | .failed => 7

/-- 03, section 3.1, in the order of the table (log 14). -/
def ChanCause.code : ChanCause → Nat
  | .time => 0
  | .suspension => 1
  | .gate => 2
  | .sluice => 3

/-- 03, section 3.1, in the order of the table (log 14). -/
def Permit.code : Permit → Nat
  | .notNeeded => 0
  | .undecided => 1
  | .asked => 2
  | .given => 3

/-- 11, section 11.4. -/
def Purpose.code : Purpose → Nat
  | .ahead _ => 0
  | .entry => 1
  | .turn => 2
  | .keeper => 3

/-- A requester: its purpose, and the batch id for AHEAD (03, section 3.1). An absent one is sent as 0xFF, 0 (log 14). -/
def purposeBytes : Option Purpose → List Byte
  | none => u1 0xFF ++ u1 0
  | some (.ahead b) => u1 0 ++ u1 b
  | some p => u1 p.code ++ u1 0

/-- 03/R46, in the order of the rule (log 14). -/
def AskRefusal.code : AskRefusal → Nat
  | .manual => 0
  | .stoodDown => 1
  | .otherRequester => 2
  | .state => 3

/-- 11, section 11.4. -/
def Aspect.code : Aspect → Nat
  | .dark => 0
  | .stop => 1
  | .prepare => 2
  | .go => 3
  | .shut => 4

/-- 11, section 11.4. -/
def lampCode : Lamp → Nat
  | .ra => 0
  | .rb => 1
  | .gn => 2

/-- 11, section 11.4. -/
def PassSt.code : PassSt → Nat
  | .waiting => 0
  | .heldDepth => 1
  | .heldAccount => 2
  | .called => 3
  | .berthed => 4
  | .shifting => 5
  | .leaving => 6
  | .unresolved => 7

/-- 11, section 11.4. -/
def PassEnd.code : PassEnd → Nat
  | .completed => 0
  | .removed => 1
  | .ejected => 2
  | .withdrawn => 3
  | .missed => 4

/-- 11, section 11.4: committed kind, absent being 0. -/
def commitCode : Option (CommitKind × Nat) → Nat
  | none => 0
  | some (.quote, _) => 1
  | some (.fee, _) => 2

/-- 11, section 11.4. -/
def Step.code : Step → Nat
  | .entering => 0
  | .sealing => 1
  | .waitingAhead => 2
  | .levellingAhead => 3
  | .openingAhead => 4
  | .shifting => 5
  | .leaving => 6
  | .held => 7
  | .unresolved => 8

/-- 11, section 11.4: held causes, one bit each. -/
def HeldCauses.bytes (c : HeldCauses) : List Byte := bits1 [c.gate, c.levelling, c.green, c.stopSignal, c.overdue]

/-- 07/R134, in the order of the rule (log 14). -/
def BatchEnd.code : BatchEnd → Nat
  | .completed => 0
  | .dissolved => 1
  | .removed => 2

/-- 11, section 11.4. -/
def SchedSt.code : SchedSt → Nat
  | .serving => 0
  | .draining => 1
  | .idleHold => 2
  | .turning => 3

/-- 06, section 6.1, in the order of the table (log 14). -/
def Deferral.code : Deferral → Nat
  | .window => 0
  | .upstreamLow => 1

/-- 11, section 11.4. -/
def Condition.code : Condition → Nat
  | .running => 0
  | .closing => 1
  | .stoodDown => 2

/-- 11, section 11.4. -/
def Mode.code : Mode → Nat
  | .auto => 0
  | .manual => 1

/-- 09/R162, R163, in the order in which the rules name them (log 14). -/
def LeftReason.code : LeftReason → Nat
  | .beam => 0
  | .shifting => 1
  | .fault => 2
  | .held => 3
  | .obstructed => 4
  | .refused => 5

/-- 11, section 11.1. -/
def RClass.code : RClass → Nat
  | .alarm => 0
  | .passage => 1
  | .water => 2
  | .signal => 3
  | .account => 4

/-- 11, section 11.1. -/
def Status.code : Status → Nat
  | .ok => 0
  | .busy => 1
  | .denied => 2
  | .unknown => 3
  | .badField => 4
  | .full => 5
  | .duplicate => 6
  | .notFound => 7
  | .state => 8

/-- An owner or holder in two bytes: 0 for none, a batch id, 256 for KEEPER (11/R181 gives the smallest width that holds
every value; log 14). -/
def ownerBytes : Owner → List Byte
  | .none => u2 0
  | .batch b => u2 b
  | .keeper => u2 256

/-- 11/R181: a time stamp of 7 bytes. -/
def stampBytes (c : Clock) : List Byte := u2 c.day ++ u4 c.tod ++ b1 c.unset

/-- 11/R181: an absent stamp carries zeros in its first six bytes, and its mark byte has bit 1 set. -/
def optStampBytes : Option Clock → List Byte
  | none => [0, 0, 0, 0, 0, 0, 2]
  | some c => stampBytes c

/-- 11, section 11.4: the payment byte. -/
def paymentByte (p : Option Nat) : List Byte := opt1 p

/-- 11, section 11.4: fee basis: bit 0 night, bit 1 saving, bit 2 discount; an absent one is sent as 0 (log 14). -/
def basisByte : Option Basis → List Byte
  | none => u1 0
  | some b => bits1 [b.night, b.saving, b.discount]

/-- 11, section 11.5: the account record, 16 bytes. -/
def Account.bytes (a : Account) : List Byte :=
  u1 a.id ++ b1 a.blocked ++ s4 a.balance ++ s4 a.reserved ++ s4 a.limit ++ u2 a.posted

/-- 11, section 11.5: the first 13 bytes of the passage record. -/
def Passage.headBytes (p : Passage) : List Byte := u4 p.number ++ p.mark ++ u1 p.dir.code

/-- 11, section 11.5: the byte with the priority and origin bits. -/
def Passage.markByte (p : Passage) : List Byte := bits1 [p.priority, p.origin == .network]

/-- 11, section 11.5: the passage record, 54 bytes; the quote is 0 when a committed amount is present. -/
def Passage.bytes (p : Passage) (position quote : Nat) : List Byte :=
  p.headBytes ++ u2 p.length ++ u2 p.beam ++ u2 p.draught ++ u2 p.tonnes ++ u1 p.cls.val ++ paymentByte p.payment
    ++ p.markByte ++ u1 p.st.code ++ u1 position ++ u1 p.bypass ++ u1 p.misses ++ opt1 p.batch ++ opt1 p.chamber
    ++ u1 (commitCode p.committed) ++ u4 ((p.committed.map (·.2)).getD 0) ++ basisByte p.basis
    ++ stampBytes p.arrival ++ optStampBytes p.berthedAt ++ u4 quote

/-- 11, section 11.5: a QUEUE_LIST summary, 18 bytes. -/
def Passage.summary (p : Passage) : List Byte :=
  p.headBytes ++ p.markByte ++ u1 p.st.code ++ u1 p.bypass ++ u1 p.misses ++ opt1 p.batch

/-- 11, section 11.5: the log record, 46 bytes. -/
def LogRec.bytes (r : LogRec) : List Byte :=
  u4 r.number ++ r.mark ++ u1 r.dir.code ++ u1 r.cls.val ++ u2 r.length ++ u2 r.tonnes ++ paymentByte r.payment
    ++ u4 r.fee ++ bits1 [r.basis.night, r.basis.saving, r.basis.discount, r.clockUnset] ++ b1 r.removed
    ++ stampBytes r.arrival ++ optStampBytes r.berthedAt ++ stampBytes r.ended

/-- 11, section 11.5: the hull entry, 27 bytes. -/
def Hull.bytes (h : Hull) (rank : Nat) (isOpen : Bool) : List Byte :=
  h.mark ++ u2 h.length ++ u2 h.beam ++ u2 h.draught ++ u1 h.cls.val ++ opt1 h.account ++ u2 h.passages
    ++ optStampBytes h.last ++ u1 rank ++ b1 isOpen

/-- 10, section 10.2; 11, section 11.1: a frame as it goes on the line. -/
def OutFrame.bytes (o : OutFrame) : List Byte :=
  let inner := u1 (o.body.length + 3) ++ u1 o.kind ++ u1 o.tag ++ u1 o.status ++ o.body
  u1 0xA5 ++ inner ++ u2 (crc16 inner).toNat

end Sys2Proof.Machine
end

