-- ==== Sys2Proof/Machine/Flags.lean ====
section
/-! DEFINITION. Every condition a rule computes from the state without changing it: neighbours and directions
(spec 00), lamps driven and green lit (04/R64, R73), connections and the interval (02/R39, R41), the open interlock
(02/R25), usability (00, "Connection and usability"), occupant lists (07/R120), the flight condition (09/R157), the
log-room condition (06/R101), and the timers' values. -/

namespace Sys2Proof.Machine

/-! ## Geometry (00) -/

/-- The gates, in order. -/
def allGates : List (Fin 4) := [0, 1, 2, 3]

/-- The heads, in order. -/
def allHeads : List (Fin 8) := [0, 1, 2, 3, 4, 5, 6, 7]

/-- The bodies, in order. -/
def allBodies : List (Fin 5) := [0, 1, 2, 3, 4]

/-- The gauge channels, in order. -/
def allGauges : List (Fin 8) := [0, 1, 2, 3, 4, 5, 6, 7]

/-- The gates adjacent to gate g: g−1 where g ≥ 1 and g+1 where g ≤ 2 (02/R25). -/
def adjacent (g : Fin 4) : List (Fin 4) :=
  match g with
  | 0 => [1]
  | 1 => [0, 2]
  | 2 => [1, 3]
  | 3 => [2]

/-- Body g, the lower side of gate g. -/
def lowerBody (g : Fin 4) : Fin 5 := g.castSucc

/-- Body g+1, the upper side of gate g. -/
def upperBody (g : Fin 4) : Fin 5 := g.succ

/-- The gates of body k. -/
def gatesOf (b : Fin 5) : List (Fin 4) := allGates.filter fun g => lowerBody g == b || upperBody g == b

/-- 04, section 4.1: head number 2g is g.L. -/
def lowerHead (g : Fin 4) : Fin 8 := ⟨2 * g.val, by omega⟩

/-- 04, section 4.1: head number 2g+1 is g.U. -/
def upperHead (g : Fin 4) : Fin 8 := ⟨2 * g.val + 1, by omega⟩

/-- The gate of a head is the gate that carries it (04, section 4.1). -/
def gateOf (h : Fin 8) : Fin 4 := ⟨h.val / 2, by omega⟩

/-- 00, "Directions": gate by number. -/
def gateNo (k : Nat) : Fin 4 := Fin.ofNat 4 k

/-- 00, "Directions". -/
def Dir.flip : Dir → Dir
  | .up => .down
  | .down => .up

/-- 00, "Directions". -/
def Dir.entryGate : Dir → Fin 4
  | .up => 0
  | .down => 3

/-- 00, "Directions". -/
def Dir.exitGate : Dir → Fin 4
  | .up => 3
  | .down => 0

/-- 00, "Directions". -/
def Dir.entryChamber : Dir → Nat
  | .up => 1
  | .down => 3

/-- 00, "Directions". -/
def Dir.lastChamber : Dir → Nat
  | .up => 3
  | .down => 1

/-- 07, section 7.1: the next gate of chamber k. -/
def Dir.nextGate (d : Dir) (k : Nat) : Fin 4 :=
  match d with
  | .up => gateNo k
  | .down => gateNo (k - 1)

/-- 07, section 7.1: the gate behind chamber k. -/
def Dir.behindGate (d : Dir) (k : Nat) : Fin 4 :=
  match d with
  | .up => gateNo (k - 1)
  | .down => gateNo k

/-- 07, section 7.1: the next chamber; none from the last. -/
def Dir.nextChamber (d : Dir) (k : Nat) : Option Nat :=
  match d with
  | .up => if k = 3 then none else some (k + 1)
  | .down => if k = 1 then none else some (k - 1)

/-- 07, section 7.1: the head read at gate g. -/
def Dir.headAt (d : Dir) (g : Fin 4) : Fin 8 :=
  match d with
  | .up => lowerHead g
  | .down => upperHead g

/-! ## Lamps (04) -/

/-- One lamp of a head. -/
def Lamps.nth {α : Type} (x : Lamps α) : Lamp → α
  | .ra => x.ra
  | .rb => x.rb
  | .gn => x.gn

/-- The lamps of a head with one replaced. -/
def Lamps.put {α : Type} (x : Lamps α) (l : Lamp) (a : α) : Lamps α :=
  match l with
  | .ra => { x with ra := a }
  | .rb => { x with rb := a }
  | .gn => { x with gn := a }

/-- STOP, SHUT and DARK are the stopping aspects (04, section 4.1). -/
def Aspect.stopping : Aspect → Bool
  | .dark | .stop | .shut => true
  | .prepare | .go => false

/-- 04/R64: the lamps driven for a shown aspect and the health of the lamps. -/
def lampsFor (a : Aspect) (good : Lamps Bool) : Lamps Bool :=
  match a with
  | .dark => ⟨false, false, false⟩
  | .stop => ⟨good.ra, !good.ra && good.rb, false⟩
  | .shut => ⟨good.ra, good.rb, false⟩
  | .prepare => ⟨good.ra, !good.ra && good.rb, good.gn⟩
  | .go => ⟨false, false, good.gn⟩

/-- 04/R64: the lamps a head drives. -/
def Head.driven (h : Head) : Lamps Bool := lampsFor h.shown h.good

/-- 04/R64, R73: GN is lit while it is driven, and while it carries the stray mark. -/
def Head.lit (h : Head) : Bool := h.driven.gn || h.mark.gn

/-- 04/R74: a head with both reds FAILED has lost its stopping signal. -/
def Head.lostRed (h : Head) : Bool := !h.good.ra && !h.good.rb

/-- 04/R64: a head at STOP or SHUT that drives no lamp because both reds are FAILED shows dark. -/
def Head.showsDark (h : Head) : Bool := (h.shown == .stop || h.shown == .shut) && h.lostRed

/-- 04, section 4.4: the conflict set of a head. -/
def conflictSet (h : Fin 8) : List (Fin 8) :=
  match h with
  | 0 => [1, 2, 3]
  | 1 => [0, 2, 3]
  | 2 => [3, 0, 1, 4, 5]
  | 3 => [2, 0, 1, 4, 5]
  | 4 => [5, 2, 3, 6, 7]
  | 5 => [4, 2, 3, 6, 7]
  | 6 => [7, 4, 5]
  | 7 => [6, 4, 5]

/-- 04/R65: the rest aspect of a head. -/
def restAspect (c : Condition) (h : Fin 8) : Aspect :=
  match c with
  | .running => .stop
  | .closing | .stoodDown => if h = 0 ∨ h = 7 then .shut else .stop

/-! ## Drives (02, section 2.1; 02/R35; 04/R64) -/

/-- 02, section 2.1: the open drive of a gate is on in OPENING and in no other state. -/
def Gate.openDrive (x : Gate) : Bool := x.st == .opening

/-- 02, section 2.1: the close drive of a gate is on in CLOSING and in no other state. -/
def Gate.closeDrive (x : Gate) : Bool := x.st == .closing

/-- 02/R35: the raise drive of a sluice is on while it is MOVING to a higher commanded position. -/
def Sluice.raiseDrive (x : Sluice) : Bool := x.st == .moving && decide (x.pos < x.cmd)

/-- 02/R35: the lower drive of a sluice is on while it is MOVING to a lower commanded position. -/
def Sluice.lowerDrive (x : Sluice) : Bool := x.st == .moving && decide (x.cmd < x.pos)

/-- The drives at the pins; without power every drive is off. -/
def State.drives (s : State) : Drives where
  gateOpen := s.plant.gates.map fun x => s.powered && x.openDrive
  gateClose := s.plant.gates.map fun x => s.powered && x.closeDrive
  sluiceRaise := s.plant.sluices.map fun x => s.powered && x.raiseDrive
  sluiceLower := s.plant.sluices.map fun x => s.powered && x.lowerDrive
  lamp := s.plant.heads.map fun x => if s.powered then x.driven else ⟨false, false, false⟩

/-! ## Greens (04) -/

/-- 02/R27: GN is lit on either head of the gate. -/
def Plant.gateLit (p : Plant) (g : Fin 4) : Bool :=
  (p.heads.nth (lowerHead g)).lit || (p.heads.nth (upperHead g)).lit

/-- 04/R70: the clearance margin of a green change on head h has elapsed. -/
def marginElapsed (v : Base) (p : Plant) (h : Fin 8) : Bool :=
  (h :: conflictSet h).all fun k => decide ((p.heads.nth k).goEnd + v.settings.clearMargin ≤ v.elapsed)

/-- 04/R70, R76: no head of the conflict set has GN lit or the waved mark. -/
def conflictFree (p : Plant) (h : Fin 8) : Bool :=
  (conflictSet h).all fun k => !(p.heads.nth k).lit && !(p.heads.nth k).waved

/-- 04/R70: no head of the conflict set has GN driven. -/
def conflictUndriven (p : Plant) (h : Fin 8) : Bool := (conflictSet h).all fun k => !(p.heads.nth k).driven.gn

/-- 04/R68, R70: every condition for applying green aspect `a` on head `h`. The conflict set and the margin are waived
while GN is lit on this head already; that no two heads of a conflict set drive GN is waived for none (log 16). -/
def greenReady (v : Base) (p : Plant) (h : Fin 8) (a : Aspect) : Bool :=
  let hd := p.heads.nth h
  let gate := (p.gates.nth (gateOf h)).st
  (match a with
    | .prepare => (gate == .opening || gate == .opened) && !hd.lostRed
    | .go => gate == .opened
    | _ => false)
  && hd.good.gn && conflictUndriven p h
  && (hd.lit || (conflictFree p h && marginElapsed v p h))

/-! ## Water (01, 00) -/

/-- 00: a level is usable when its status is GOOD or SINGLE. -/
def BodyStatus.usable : BodyStatus → Bool
  | .good | .single => true
  | _ => false

/-- 00: a level is usable for forcing when its status is GOOD, SINGLE or SUBST. -/
def BodyStatus.usableForcing : BodyStatus → Bool
  | .good | .single | .subst => true
  | _ => false

/-- 03: only a KEEPER levelling accepts levels usable for forcing. -/
def headUsable (v : Base) (g : Fin 4) (req : Option Purpose) : Bool :=
  let h := v.scanner.heads.nth g
  if req = some .keeper then h.usableForcing else h.usable

/-- 03/R46, check 2: both bodies of gate g have levels usable as the purpose requires. -/
def levelsUsable (v : Base) (g : Fin 4) (req : Option Purpose) : Bool :=
  let a := (v.scanner.bodies.nth (lowerBody g)).status
  let b := (v.scanner.bodies.nth (upperBody g)).status
  if req = some .keeper then a.usableForcing && b.usableForcing else a.usable && b.usable

/-- The head of the most recently completed scan; it is present where it is usable. -/
def headValue (v : Base) (g : Fin 4) : Int := ((v.scanner.heads.nth g).value).getD 0

/-! ## Connections and grants (02) -/

/-- 00, "Connection and usability": a sluice in FAULT counts as not at position 0. -/
def Sluice.passes (s : Sluice) : Bool := s.st == .fault || decide (s.pos ≠ 0)

/-- 02, section 2.8: the connection through gate g stands. -/
def Plant.connected (p : Plant) (g : Fin 4) : Bool :=
  (p.gates.nth g).st != .shut || (p.sluices.nth g).passes

/-- 02/R39: neither body of gate g is connected through a gate other than gate g. -/
def Plant.clearOfConnections (p : Plant) (g : Fin 4) : Bool := (adjacent g).all fun a => !p.connected a

/-- 02/R39: no grant is held on an adjacent gate. -/
def Plant.clearOfGrants (p : Plant) (g : Fin 4) : Bool := (adjacent g).all fun a => !p.grants.nth a

/-- 02/R40: two gates share a body when their numbers differ by one. -/
def sharesBody (a g : Fin 4) : Bool := a == g || (adjacent g).contains a

/-- 02/R41: the gate-to-sluice interval of gate g is met. -/
def intervalMet (v : Base) (p : Plant) (g : Fin 4) : Bool :=
  (g :: adjacent g).all fun a => decide ((p.gates.nth a).lastShut + 10 * v.settings.gateInterval ≤ v.elapsed)

/-- 02/R41: the tenths that remain of the interval. -/
def intervalLeft (v : Base) (p : Plant) (g : Fin 4) : Nat :=
  (g :: adjacent g).foldl (fun m a => max m ((p.gates.nth a).lastShut + 10 * v.settings.gateInterval - v.elapsed)) 0

/-- 02/R25: the open interlock for gate g. -/
def openInterlock (v : Base) (p : Plant) (g : Fin 4) : Bool :=
  (p.gates.nth g).st == .shut && (p.channels.nth g).st == .level && (v.scanner.heads.nth g).usable
    && decide (mag (headValue v g) ≤ v.settings.openTol) && p.clearOfConnections g

/-- 02/R33: what FORCE_OPEN on a SHUT gate requires. -/
def forceReady (v : Base) (p : Plant) (g : Fin 4) : Bool :=
  (v.scanner.heads.nth g).usableForcing && decide (mag (headValue v g) ≤ v.settings.forcingLimit)
    && p.clearOfConnections g && p.clearOfGrants g
    && ((p.channels.nth g).st == .idle || (p.channels.nth g).st == .level)

/-! ## Batches (07) -/

/-- The batch record with an id. -/
def Plant.batch? (p : Plant) (id : Nat) : Option Batch := p.batches.find? fun b => b.id == id

/-- The open passage with a number. -/
def Plant.passage? (p : Plant) (n : Nat) : Option Passage := p.passages.find? fun x => x.number == n

/-- 07/R120: the batch that names chamber k. -/
def Plant.batchIn? (p : Plant) (k : Nat) : Option Batch :=
  p.batches.find? fun b => b.chamber == some k || b.target == some k

/-- 07/R120: the occupant list of chamber k. -/
def Plant.occupants (p : Plant) (k : Nat) : List Nat :=
  match p.batchIn? k with
  | none => []
  | some b => b.members.map (·.number)

/-- 02/R38, 03/R51: a body of gate g is a chamber with a non-empty occupant list. -/
def Plant.boundsOccupied (p : Plant) (g : Fin 4) : Bool :=
  [(lowerBody g).val, (upperBody g).val].any fun k => (1 ≤ k && k ≤ 3) && !(p.occupants k).isEmpty

/-- 03/R51: the maximum position of channel g. -/
def Plant.maxPosition (p : Plant) (g : Fin 4) : Nat := if p.boundsOccupied g then 3 else 4

/-- The number of passages that are members of batches (06/R101). -/
def Plant.memberCount (p : Plant) : Nat := p.batches.foldl (fun n b => n + b.members.length) 0

/-- 06/R101: the log-room condition for n further members. -/
def logRoom (v : Base) (p : Plant) (n : Nat) : Bool :=
  decide (v.books.log.length + p.memberCount + n ≤ Config.maxLog)

/-- The step a batch is in, or is held in. -/
def Batch.effective (b : Batch) : Step :=
  match b.heldStep with
  | some s => if b.step = .held then s else b.step
  | none => b.step

/-- The chamber of a batch; every batch that is not UNRESOLVED has one. -/
def Batch.at_ (b : Batch) : Nat := b.chamber.getD b.dir.entryChamber

/-- 07, section 7.1: the gate behind the batch. -/
def Batch.behind (b : Batch) : Fin 4 := b.dir.behindGate b.at_

/-- 07, section 7.1: the next gate of the batch. -/
def Batch.ahead (b : Batch) : Fin 4 := b.dir.nextGate b.at_

/-- 07, section 7.2: the gate a step moves. -/
def Batch.moves (b : Batch) (s : Step) : Option (Fin 4) :=
  match s with
  | .entering | .sealing => some b.behind
  | .openingAhead | .shifting | .leaving => some b.ahead
  | _ => none

/-- 07, section 7.2: the head a step stages. -/
def Batch.headOf (b : Batch) (s : Step) : Option (Fin 8) :=
  match s with
  | .entering => some (b.dir.headAt b.behind)
  | .openingAhead | .shifting | .leaving => some (b.dir.headAt b.ahead)
  | _ => none

/-- The state of a member. -/
def Plant.memberSt (p : Plant) (m : Member) : Option PassSt := (p.passage? m.number).map (·.st)

/-- 07/R120: the set of gates through which members are SHIFTING or LEAVING. -/
def Plant.passingSet (p : Plant) : Tbl 4 Bool :=
  p.batches.foldl
    (fun t b =>
      if b.members.any fun m => p.memberSt m == some .shifting || p.memberSt m == some .leaving then t.put b.ahead true
      else t)
    (Vector.replicate 4 false)

/-- 07, section 7.1: the value of the berth timer, in tenths. It counts on past the berth limit where nothing stops it,
as in a batch held for OVERDUE (07/R126, R129; log 66). -/
def BerthTimer.value (t : BerthTimer) (now : Nat) : Nat :=
  match t.since with
  | none => t.run
  | some s => t.run + (now - s)

/-- The berth timer stopped, its value kept. -/
def BerthTimer.pause (t : BerthTimer) (now : Nat) : BerthTimer := ⟨t.value now, none⟩

/-! ## The flight (09) -/

/-- 09/R157: the flight condition. -/
def Regime.condition (r : Regime) : Condition :=
  if r.stoodDown then .stoodDown else if r.flood || r.mainsCause || r.keeper then .closing else .running

/-- 06/R100, R108, R109: RUNNING and AUTO. -/
def Plant.works (p : Plant) : Bool := p.regime.condition == .running && p.regime.mode == .auto

/-- 06, section 6.1: the flight is empty. -/
def Plant.flightEmpty (p : Plant) : Bool := p.batches.isEmpty

/-- The whole seconds remaining until a time, rounded up (log 15). -/
def secondsLeft (now until_ : Nat) : Nat := (until_ - now + 9) / 10

/-- 00, "Flight geometry": the flight usable length. -/
def Settings.flightLength (s : Settings) : Nat :=
  min (s.usableLength.nth 0) (min (s.usableLength.nth 1) (s.usableLength.nth 2))

/-- The smallest of the three chambers' usable widths. -/
def Settings.flightWidth (s : Settings) : Nat :=
  min (s.usableWidth.nth 0) (min (s.usableWidth.nth 1) (s.usableWidth.nth 2))

/-- A timer that started at `since` has run `tenths`. -/
def ranFor (v : Base) (since : Option Nat) (tenths : Nat) : Bool :=
  match since with
  | none => false
  | some t => decide (t + tenths ≤ v.elapsed)

end Sys2Proof.Machine
end

