-- ==== Sys2Proof/Machine/Ops.lean ====
section
/-! DEFINITION. The shared operations of every step: raising a report (10/R175, 11/R183), placing it on the ports
(10/R176), answering a request (10/R171, R173, 11/R182), and the flow that the blocks of one step work on. -/

namespace Sys2Proof.Machine

/-! ## The flow of one step -/

/-- What the blocks work on inside one step: their state, the reports raised so far in order, whether a formation
opportunity is to be examined (06/R100), whether the step is the end of a scan, and the heads whose pending green is to
be re-examined (04/R68). -/
structure Flow extends Plant where
  out : List Report
  opp : Bool
  scanEnd : Bool
  recheck : Tbl 8 Bool
  deriving DecidableEq, Repr

/-- The flow at the beginning of a step. -/
def State.flow (s : State) : Flow :=
  { s.plant with out := [], opp := false, scanEnd := false, recheck := Vector.replicate 8 false }

/-- 11/R183: raise a report: its code, the clock, and the fields of its rule. `also` names the port that receives it
whatever its mask (10/R175). -/
def raiseTo (also : Option Port) (v : Base) (c : RClass) (code : Nat) (fields : List Byte) (f : Flow) : Flow :=
  { f with out := f.out ++ [⟨c, u1 code ++ stampBytes v.clock ++ fields, also⟩] }

/-- 11/R183: raise a report that goes to the subscribed ports alone. -/
def raise (v : Base) (c : RClass) (code : Nat) (fields : List Byte) (f : Flow) : Flow :=
  raiseTo none v c code fields f

/-- The step taken for each of a list in turn. -/
def overAll {α : Type} (xs : List α) (act : α → Flow → Flow) (f : Flow) : Flow := xs.foldl (fun f x => act x f) f

/-- 04/R68: the pending greens of some heads are to be re-examined. -/
def recheckHeads (hs : List (Fin 8)) (f : Flow) : Flow := { f with recheck := hs.foldl (fun t h => t.put h true) f.recheck }

/-- One gate record changed; a change of its state has the pending greens of its heads re-examined (04/R68). -/
def setGate (g : Fin 4) (fn : Gate → Gate) (f : Flow) : Flow :=
  let x := fn (f.gates.nth g)
  let t := { f with gates := f.gates.put g x }
  if x.st = (f.gates.nth g).st then t else recheckHeads [lowerHead g, upperHead g] t

/-- One sluice record changed. -/
def setSluice (g : Fin 4) (fn : Sluice → Sluice) (f : Flow) : Flow := { f with sluices := f.sluices.upd g fn }

/-- One channel record changed. -/
def setChannel (g : Fin 4) (fn : Channel → Channel) (f : Flow) : Flow := { f with channels := f.channels.upd g fn }

/-- One head record changed. -/
def setHead (h : Fin 8) (fn : Head → Head) (f : Flow) : Flow := { f with heads := f.heads.upd h fn }

/-- The scheduler record changed. -/
def setSched (fn : Scheduler → Scheduler) (f : Flow) : Flow := { f with sched := fn f.sched }

/-- The regime record changed. -/
def setRegime (fn : Regime → Regime) (f : Flow) : Flow := { f with regime := fn f.regime }

/-- The batch record with an id changed. -/
def setBatch (id : Nat) (fn : Batch → Batch) (f : Flow) : Flow :=
  { f with batches := f.batches.map fun b => if b.id = id then fn b else b }

/-- The open passage with a number changed; it keeps its place (05/R82). -/
def setPassage (n : Nat) (fn : Passage → Passage) (f : Flow) : Flow :=
  { f with passages := f.passages.map fun p => if p.number = n then fn p else p }

/-- The account with an id changed. -/
def setAccount (id : Nat) (fn : Account → Account) (f : Flow) : Flow :=
  { f with accounts := f.accounts.map fun a => if a.id = id then fn a else a }

/-- A formation opportunity is to be examined (06/R100). -/
def askOpportunity (f : Flow) : Flow := { f with opp := true }

/-! ## Ports and reports (10) -/

/-- The record of a port. -/
def Link.port (l : Link) : Port → PortRec
  | .console => l.console
  | .network => l.network

/-- The record of a port replaced. -/
def Link.setPort (l : Link) (p : Port) (r : PortRec) : Link :=
  match p with
  | .console => { l with console := r }
  | .network => { l with network := r }

/-- 11, section 11.1: the mask bit of a class is its code. -/
def maskHas (m : BitVec 5) (c : RClass) : Bool := m.getLsbD c.code

/-- 10/R176: a queue without its oldest report that is not an ALARM; none when all are alarms. -/
def dropNonAlarm : List Report → Option (List Report)
  | [] => none
  | r :: rest => if r.cls = .alarm then (dropNonAlarm rest).map (r :: ·) else some rest

/-- 10/R176: a report placed on a port. -/
def PortRec.queue (p : PortRec) (r : Report) : PortRec :=
  if p.reports.length < Config.maxReports then { p with reports := p.reports ++ [r] }
  else if r.cls ≠ .alarm then p
  else match dropNonAlarm p.reports with
    | some rest => { p with reports := rest ++ [r] }
    | none => { p with overflow := true }

/-- 10/R175: the ports a report is placed on. -/
def Link.place (l : Link) (r : Report) : Link :=
  let on (p : Port) (x : PortRec) : PortRec := if maskHas x.mask r.cls || r.also == some p then x.queue r else x
  { l with console := on .console l.console, network := on .network l.network }

/-- 10/R175: reports join the queues in the order of their raising. -/
def Link.placeAll (l : Link) (rs : List Report) : Link := rs.foldl Link.place l

/-- The flow of a step handed back: the blocks' state, and the reports on the ports. -/
def State.deliver (s : State) (f : Flow) : State := { s with plant := f.toPlant, link := s.link.placeAll f.out }

/-! ## Requests and replies (10) -/

/-- 10, section 10.4: the ceiling of a port. -/
def ceiling (v : Settings) : Port → Nat
  | .console => 0
  | .network => v.networkCeiling

/-- 10, section 10.4: the effective level of a request. -/
def effectiveLevel (s : State) (rq : Rq) : Nat := max (ceiling s.base.settings rq.port) rq.claimed

/-- 10/R171: a port takes a request while its reply line has room, its store is not in progress, and the reply of a
store is not owed (log 7). -/
def State.takes (s : State) (p : Port) : Bool :=
  s.powered && decide ((s.link.port p).replies.length < Config.maxReplies) && (s.link.port p).owed.isNone
    && !(match s.link.store with | some st => st.port == p | none => false)

/-- 10/R171, R172: a reply joins the port's reply line; its kind is the request's plus 0x80, cut to its byte for a kind of
0x80 to 0xFF, which names no request (log 14). -/
def State.reply (s : State) (p : Port) (kind tag : Nat) (st : Status) (body : List Byte) (after : AfterSent) : State :=
  let r := s.link.port p
  { s with link := s.link.setPort p { r with replies := r.replies ++ [⟨(kind + 0x80) % 256, tag, st.code, body, after⟩] } }

/-- What a block answers: the state after, and the reply, none while it is owed (10/R179). -/
structure Answer where
  state : State
  said : Option (Status × List Byte)
  after : AfterSent
  deriving DecidableEq, Repr

/-- An OK answer with its body. -/
def accept (s : State) (body : List Byte) : Answer := ⟨s, some (.ok, body), .nothing⟩

/-- 00, "Requests, replies and reports": a refusal has no other effect; 11/R182: its body is empty. -/
def refuse (s : State) (st : Status) : Answer := ⟨s, some (st, []), .nothing⟩

/-- 11/R182: BAD_FIELD carries the position of the first field out of range. -/
def badField (s : State) (position : Nat) : Answer := ⟨s, some (.badField, u1 position), .nothing⟩

/-- 11/R182: BAD_FIELD of fields taken together, or of a computed value, carries 0xFF. -/
def badTogether (s : State) : Answer := badField s 0xFF

/-- 10/R173: a request is judged on its claimed level and its effective level, then its owner acts and answers.
A request the port does not take has no effect (log 4). -/
def serve (rq : Rq) (kind required : Nat) (act : State → Answer) (s : State) : State :=
  if !s.takes rq.port then s
  else if 2 < rq.claimed then s.reply rq.port kind rq.tag .badField (u1 0) .nothing
  else if required < effectiveLevel s rq then s.reply rq.port kind rq.tag .denied [] .nothing
  else
    let a := act s
    match a.said with
    | some (st, body) => a.state.reply rq.port kind rq.tag st body a.after
    | none => a.state

end Sys2Proof.Machine
end

