-- ==== Sys2Proof/Machine/Operands.lean ====
section
/-! DEFINITION. The fields of requests: the units, actions and codes they name (spec 11, sections 11.3, 11.4), and the
settings with their identifiers, ranges and working values (11, section 11.3; the tables of spec 00 to 10). -/

namespace Sys2Proof.Machine

/-- A number as the index of one of `n` units; none when out of range. -/
def unit? (n x : Nat) : Option (Fin n) := if h : x < n then some ⟨x, h⟩ else none

/-- 11, section 11.4: direction codes. -/
def dir? : Nat → Option Dir
  | 0 => some .up
  | 1 => some .down
  | _ => none

/-- 11, section 11.4: aspect codes. -/
def aspect? : Nat → Option Aspect
  | 0 => some .dark
  | 1 => some .stop
  | 2 => some .prepare
  | 3 => some .go
  | 4 => some .shut
  | _ => none

/-- 11, section 11.4: lamp codes; ALL names the three. -/
def lamps? : Nat → Option (List Lamp)
  | 0 => some [.ra]
  | 1 => some [.rb]
  | 2 => some [.gn]
  | 3 => some [.ra, .rb, .gn]
  | _ => none

/-- 11, section 11.4: mode codes. -/
def mode? : Nat → Option Mode
  | 0 => some .auto
  | 1 => some .manual
  | _ => none

/-- 11, section 11.4: payment byte: CASH or an account id; none out of range. -/
def payment? (x : Nat) : Option (Option Nat) := if x = 0 then some none else if x ≤ 64 then some (some x) else none

/-- 01: the range of levels. -/
def levelInRange (x : Int) : Bool := decide (-2000 ≤ x ∧ x ≤ 20000)

/-! ## Settings -/

/-- One setting (11, section 11.3). -/
inductive Setting where
  | usableLength (k : Fin 3)
  | usableWidth (k : Fin 3)
  | sill0
  | sill3
  | minInnerDepth
  | maxBeam
  | keelMargin
  | gain (c : Fin 8)
  | offset (c : Fin 8)
  | agreeTol
  | lowLimit (b : Fin 5)
  | highLimit (b : Fin 5)
  | floodLimit
  | travelLimit
  | forcingLimit
  | gateInterval
  | stepInterval
  | nearBand
  | openTol
  | settleTime
  | surgeLimit
  | levelTimeLimit
  | clearMargin
  | lampProving
  | restDir
  | idleHold
  | bypassLimit
  | drawCount
  | drawWindow
  | berthLimit
  | nightStart
  | nightEnd
  | nightSurcharge
  | waterSurcharge
  | frequentThreshold
  | frequentDiscount
  | closingDeadline
  | consoleRate
  | networkRate
  | networkCeiling
  deriving DecidableEq, Repr

/-- 11, section 11.3: the setting that an identifier names. -/
def setting? (i : Nat) : Option Setting :=
  let group (base n : Nat) (mk : Fin n → Setting) (rest : Option Setting) : Option Setting :=
    if base ≤ i then
      match unit? n (i - base) with
      | some k => some (mk k)
      | none => rest
    else rest
  group 0x0101 3 .usableLength <| group 0x0111 3 .usableWidth <| group 0x0200 8 .gain <| group 0x0210 8 .offset <|
    group 0x0230 5 .lowLimit <| group 0x0240 5 .highLimit <|
  match i with
  | 0x0120 => some .sill0
  | 0x0123 => some .sill3
  | 0x0130 => some .minInnerDepth
  | 0x0131 => some .maxBeam
  | 0x0132 => some .keelMargin
  | 0x0220 => some .agreeTol
  | 0x0250 => some .floodLimit
  | 0x0300 => some .travelLimit
  | 0x0301 => some .forcingLimit
  | 0x0302 => some .gateInterval
  | 0x0400 => some .stepInterval
  | 0x0401 => some .nearBand
  | 0x0402 => some .openTol
  | 0x0403 => some .settleTime
  | 0x0404 => some .surgeLimit
  | 0x0405 => some .levelTimeLimit
  | 0x0500 => some .clearMargin
  | 0x0501 => some .lampProving
  | 0x0600 => some .restDir
  | 0x0601 => some .idleHold
  | 0x0602 => some .bypassLimit
  | 0x0603 => some .drawCount
  | 0x0604 => some .drawWindow
  | 0x0700 => some .berthLimit
  | 0x0800 => some .nightStart
  | 0x0801 => some .nightEnd
  | 0x0802 => some .nightSurcharge
  | 0x0803 => some .waterSurcharge
  | 0x0804 => some .frequentThreshold
  | 0x0805 => some .frequentDiscount
  | 0x0900 => some .closingDeadline
  | 0x0A00 => some .consoleRate
  | 0x0A01 => some .networkRate
  | 0x0A02 => some .networkCeiling
  | _ => none

/-- The least and greatest value of each setting: the settings tables of spec 00 to 10. SETTING_GET sends the two of a
port rate also, whose range is three separate values (10, section 10.1; log 14). -/
def Setting.range : Setting → Int × Int
  | .usableLength _ => (600, 1500)
  | .usableWidth _ => (60, 200)
  | .sill0 | .sill3 => (-2000, 20000)
  | .minInnerDepth => (1000, 8000)
  | .maxBeam => (30, 200)
  | .keelMargin => (0, 1000)
  | .gain _ => (1, 65535)
  | .offset _ => (-32768, 32767)
  | .agreeTol => (10, 200)
  | .lowLimit _ | .highLimit _ => (-2000, 20000)
  | .floodLimit => (10000, 20000)
  | .travelLimit => (30, 300)
  | .forcingLimit => (30, 300)
  | .gateInterval => (0, 60)
  | .stepInterval => (5, 120)
  | .nearBand => (50, 1000)
  | .openTol => (10, 100)
  | .settleTime => (5, 120)
  | .surgeLimit => (1, 9)
  | .levelTimeLimit => (120, 3600)
  | .clearMargin => (5, 300)
  | .lampProving => (5, 100)
  | .restDir => (0, 1)
  | .idleHold => (0, 3600)
  | .bypassLimit => (0, 15)
  | .drawCount => (1, 32)
  | .drawWindow => (600, 86400)
  | .berthLimit => (60, 3600)
  | .nightStart | .nightEnd => (0, 1439)
  | .nightSurcharge => (0, 100)
  | .waterSurcharge => (0, 200)
  | .frequentThreshold => (1, 999)
  | .frequentDiscount => (0, 50)
  | .closingDeadline => (60, 3600)
  | .consoleRate | .networkRate => (19200, 115200)
  | .networkCeiling => (1, 2)

/-- The values of a setting: its range, and of a rate only the three that 10, section 10.1 gives. -/
def Setting.admits (k : Setting) (x : Int) : Bool :=
  decide (k.range.1 ≤ x ∧ x ≤ k.range.2)
    && (match k with
      | .consoleRate | .networkRate => x == 19200 || x == 38400 || x == 115200
      | _ => true)

/-- The value of a setting. -/
def Settings.value (v : Settings) : Setting → Int
  | .usableLength k => v.usableLength.nth k
  | .usableWidth k => v.usableWidth.nth k
  | .sill0 => v.sill0
  | .sill3 => v.sill3
  | .minInnerDepth => v.minInnerDepth
  | .maxBeam => v.maxBeam
  | .keelMargin => v.keelMargin
  | .gain c => v.gain.nth c
  | .offset c => v.offset.nth c
  | .agreeTol => v.agreeTol
  | .lowLimit b => v.lowLimit.nth b
  | .highLimit b => v.highLimit.nth b
  | .floodLimit => v.floodLimit
  | .travelLimit => v.travelLimit
  | .forcingLimit => v.forcingLimit
  | .gateInterval => v.gateInterval
  | .stepInterval => v.stepInterval
  | .nearBand => v.nearBand
  | .openTol => v.openTol
  | .settleTime => v.settleTime
  | .surgeLimit => v.surgeLimit
  | .levelTimeLimit => v.levelTimeLimit
  | .clearMargin => v.clearMargin
  | .lampProving => v.lampProving
  | .restDir => v.restDir.code
  | .idleHold => v.idleHold
  | .bypassLimit => v.bypassLimit
  | .drawCount => v.drawCount
  | .drawWindow => v.drawWindow
  | .berthLimit => v.berthLimit
  | .nightStart => v.nightStart
  | .nightEnd => v.nightEnd
  | .nightSurcharge => v.nightSurcharge
  | .waterSurcharge => v.waterSurcharge
  | .frequentThreshold => v.frequentThreshold
  | .frequentDiscount => v.frequentDiscount
  | .closingDeadline => v.closingDeadline
  | .consoleRate => v.consoleRate
  | .networkRate => v.networkRate
  | .networkCeiling => v.networkCeiling

/-- 11/R181: setting values in a body: 4 bytes each, signed. -/
def settingBytes (v : Settings) (ks : List Setting) : List Byte := ks.flatMap fun k => s4 (v.value k)

/-- The settings with one written. -/
def Settings.write (v : Settings) (k : Setting) (x : Int) : Settings :=
  let n := x.toNat
  match k with
  | .usableLength k => { v with usableLength := v.usableLength.put k n }
  | .usableWidth k => { v with usableWidth := v.usableWidth.put k n }
  | .sill0 => { v with sill0 := x }
  | .sill3 => { v with sill3 := x }
  | .minInnerDepth => { v with minInnerDepth := n }
  | .maxBeam => { v with maxBeam := n }
  | .keelMargin => { v with keelMargin := n }
  | .gain c => { v with gain := v.gain.put c n }
  | .offset c => { v with offset := v.offset.put c x }
  | .agreeTol => { v with agreeTol := n }
  | .lowLimit b => { v with lowLimit := v.lowLimit.put b x }
  | .highLimit b => { v with highLimit := v.highLimit.put b x }
  | .floodLimit => { v with floodLimit := x }
  | .travelLimit => { v with travelLimit := n }
  | .forcingLimit => { v with forcingLimit := n }
  | .gateInterval => { v with gateInterval := n }
  | .stepInterval => { v with stepInterval := n }
  | .nearBand => { v with nearBand := n }
  | .openTol => { v with openTol := n }
  | .settleTime => { v with settleTime := n }
  | .surgeLimit => { v with surgeLimit := n }
  | .levelTimeLimit => { v with levelTimeLimit := n }
  | .clearMargin => { v with clearMargin := n }
  | .lampProving => { v with lampProving := n }
  | .restDir => { v with restDir := if n = 0 then .up else .down }
  | .idleHold => { v with idleHold := n }
  | .bypassLimit => { v with bypassLimit := n }
  | .drawCount => { v with drawCount := n }
  | .drawWindow => { v with drawWindow := n }
  | .berthLimit => { v with berthLimit := n }
  | .nightStart => { v with nightStart := n }
  | .nightEnd => { v with nightEnd := n }
  | .nightSurcharge => { v with nightSurcharge := n }
  | .waterSurcharge => { v with waterSurcharge := n }
  | .frequentThreshold => { v with frequentThreshold := n }
  | .frequentDiscount => { v with frequentDiscount := n }
  | .closingDeadline => { v with closingDeadline := n }
  | .consoleRate => { v with consoleRate := n }
  | .networkRate => { v with networkRate := n }
  | .networkCeiling => { v with networkCeiling := n }

/-- What a SETTING_SET is refused with beside the range of its setting. -/
inductive SettingRefusal where
  | together
  | state
  deriving DecidableEq, Repr

/-- The refusals that concern more than the value's range: 01/R13 (a high limit at least 100 mm above the low limit),
03/R45 (the near band greater than the open tolerance), 05/R98 (a new geometry that an open passage does not fit) and
06/R104 (a bypass limit below a passage's count). -/
def settingRefusal (v : Settings) (passages : List Passage) (k : Setting) (x : Int) : Option SettingRefusal :=
  let new := v.write k x
  let n := x.toNat
  match k with
  | .lowLimit b | .highLimit b => if new.highLimit.nth b - new.lowLimit.nth b < 100 then some .together else none
  | .nearBand | .openTol => if new.nearBand ≤ new.openTol then some .together else none
  | .usableLength _ => if passages.any fun p => decide (new.flightLength < p.length) then some .state else none
  | .usableWidth _ => if passages.any fun p => decide (new.flightWidth < p.beam) then some .state else none
  | .maxBeam => if passages.any fun p => decide (n < p.beam) then some .state else none
  | .bypassLimit => if passages.any fun p => decide (n < p.bypass) then some .state else none
  | _ => none

end Sys2Proof.Machine
end

