-- ==== Sys2Proof/Machine/Signals.lean ====
section
/-! DEFINITION. The Signal Unit (spec 04): aspects staged, applied, lost and released, lamps proved, failed and reset. -/

namespace Sys2Proof.Machine

/-! ## Lamps -/

/-- Every lamp of a head, by what `fn` gives it. -/
def lampsBy {α : Type} (fn : Lamp → α) : Lamps α := ⟨fn .ra, fn .rb, fn .gn⟩

/-- 04/R72, R73: a proving or stray timer runs while its condition holds, and is otherwise stopped and reset; one that
starts takes the proving time in force. -/
def LampTimer.follow (v : Base) (cond : Bool) (t : Option LampTimer) : Option LampTimer :=
  if cond then some (t.getD ⟨v.elapsed, v.settings.lampProving⟩) else none

/-- 04/R72, R73: the proving timers (driven, no current) and stray timers (current, not driven) of a head. -/
def Head.retimed (v : Base) (cur : Lamps Bool) (h : Head) : Head :=
  let d := h.driven
  { h with
    prove := lampsBy fun l => LampTimer.follow v (d.nth l && !cur.nth l) (h.prove.nth l)
    stray := lampsBy fun l => LampTimer.follow v (cur.nth l && !d.nth l) (h.stray.nth l) }

/-- A lamp timer that has run its time. -/
def LampTimer.due (v : Base) : Option LampTimer → Bool
  | none => false
  | some t => decide (t.since + t.limit ≤ v.elapsed)

/-- 04/R71: the report ASPECT of a head. -/
def aspectReport (v : Base) (h : Fin 8) (x : Head) (f : Flow) : Flow :=
  raise v .signal 0x60
    (u1 h ++ u1 x.shown.code ++ u1 x.staged.code ++ b1 x.pending
      ++ bits1 [x.driven.ra, x.driven.rb, x.driven.gn] ++ ownerBytes x.holder) f

/-- 04/R68: the heads whose pending greens a change of head h has re-examined: those of its conflict set when GN goes out
on it or its waved mark is cleared, and itself when the health of its lamps changes. GN goes out here when it is lit no
longer, neither driven nor marked stray (log 69). -/
def headsToRecheck (h : Fin 8) (old x : Head) : List (Fin 8) :=
  (if (old.lit && !x.lit) || (old.waved && !x.waved) then conflictSet h else []) ++ (if old.good = x.good then [] else [h])

/-- Every change of a head record goes through here: GN going out stamps the GO-end time (04/R70), the lamp timers
follow (R72, R73), pending greens are re-examined (R68), and a change of the shown aspect or of the lamps driven raises
ASPECT (R71). -/
def changeHead (v : Base) (h : Fin 8) (fn : Head → Head) (f : Flow) : Flow :=
  let old := f.heads.nth h
  let x := fn old
  let x := if old.driven.gn && !x.driven.gn then { x with goEnd := v.elapsed } else x
  let x := x.retimed v (v.pins.lampCurrent.nth h)
  let f := recheckHeads (headsToRecheck h old x) { f with heads := f.heads.put h x }
  if x.shown ≠ old.shown ∨ x.driven ≠ old.driven then aspectReport v h x f else f

/-! ## Staging -/

/-- 04/R67, R76: a stopping aspect staged is applied at once; the pending flag and the waved mark are cleared, and the
clearing of the mark stamps the GO-end time. -/
def Head.stop (v : Base) (a : Aspect) (h : Head) : Head :=
  { h with shown := a, staged := a, pending := false, waved := false, goEnd := if h.waved then v.elapsed else h.goEnd }

/-- 04/R68, R76: a green aspect applied; the waved mark gives way to it without a stamp. -/
def Head.green (h : Head) : Head := { h with shown := h.staged, pending := false, waved := false }

/-- 04/R68: a green aspect staged waits until its conditions hold. -/
def Head.stageGreen (a : Aspect) (who : Owner) (h : Head) : Head := { h with staged := a, pending := true, holder := who }

/-- 04/R68: a pending green whose conditions hold is applied. -/
def tryGreen (v : Base) (h : Fin 8) (f : Flow) : Flow :=
  let x := f.heads.nth h
  if x.pending && greenReady v f.toPlant h x.staged then changeHead v h Head.green f else f

/-- 04/R67: a stopping aspect staged on a head whose holder is kept. -/
def stageStop (v : Base) (h : Fin 8) (a : Aspect) (f : Flow) : Flow := changeHead v h (Head.stop v a) f

/-- The rest aspect of a head under the flight condition. -/
def restOf (f : Flow) (h : Fin 8) : Aspect := restAspect f.regime.condition h

/-- 04/R66, R78: a head given back: holder none, the rest aspect staged and applied. -/
def giveHead (v : Base) (h : Fin 8) (f : Flow) : Flow :=
  changeHead v h (fun x => { x.stop v (restOf f h) with holder := .none }) f

/-- 04/R66: what the Tracker's staging meets. -/
def stagingRefused (b : Nat) (h : Fin 8) (a : Aspect) (f : Flow) : Bool :=
  let x := f.heads.nth h
  a.stopping || f.regime.condition == .stoodDown || f.regime.mode == .manual || !(x.holder == .none || x.holder == .batch b)

/-- 04/R66, R68, R75: the Tracker stages a green aspect on a head for batch b. A staging equal to the shown aspect with
nothing pending changes nothing. With GN FAILED the change is set pending and ASPECT is raised. -/
def stageFor (v : Base) (b : Nat) (h : Fin 8) (a : Aspect) (f : Flow) : Flow :=
  let x := f.heads.nth h
  if stagingRefused b h a f then f
  else if x.shown = a ∧ x.pending = false then f
  else
    let f := changeHead v h (Head.stageGreen a (.batch b)) f
    let f := if x.good.gn then f else aspectReport v h (f.heads.nth h) f
    tryGreen v h f

/-- 04/R66: the Tracker releases a head; a release from a batch that is not the holder is ignored. -/
def releaseHead (v : Base) (b : Nat) (h : Fin 8) (f : Flow) : Flow :=
  if (f.heads.nth h).holder = .batch b then giveHead v h f else f

/-- 04/R65: at a change of flight condition every head held by no one is staged its new rest aspect; the heads change, and
report, by number (log 8). -/
def restHeads (v : Base) (f : Flow) : Flow :=
  overAll allHeads (fun h f =>
    let x := f.heads.nth h
    if x.holder = .none ∧ x.staged ≠ restOf f h then stageStop v h (restOf f h) f else f) f

/-- 04/R79: a stand-down reaches every head, whoever holds it; the heads change, and report, by number (log 8). The keeper,
as holder, is told that its pending green is discarded (R71) by ASPECT alone, where the aspect or the lamps change (log
55). -/
def standDownHeads (v : Base) (f : Flow) : Flow := overAll allHeads (giveHead v) f

/-- 04/R78: when the mode changes to AUTO every head held by KEEPER is released, by number (log 8). -/
def releaseKeeperHeads (v : Base) (f : Flow) : Flow :=
  overAll allHeads (fun h f => if (f.heads.nth h).holder = .keeper then giveHead v h f else f) f

/-- 04/R79: every head shows its rest aspect and no stray green persists. -/
def headsAtRest (f : Flow) : Bool :=
  allHeads.all fun h => (f.heads.nth h).shown == restOf f h && !(f.heads.nth h).lit

/-! ## What the unit does at a change of a gate, a lamp or a margin -/

/-- 04/R69: a head with GN driven whose gate is neither OPENING nor OPEN is staged STOP; its holder is kept. -/
def loseGreen (v : Base) (h : Fin 8) (f : Flow) : Flow :=
  let g := (f.gates.nth (gateOf h)).st
  if (f.heads.nth h).driven.gn && !(g == .opening || g == .opened) then stageStop v h .stop f else f

/-- The heads to re-examine whose pending green can be applied now. -/
def readyGreens (v : Base) (f : Flow) : List (Fin 8) :=
  allHeads.filter fun h => f.recheck.nth h && (f.heads.nth h).pending && greenReady v f.toPlant h (f.heads.nth h).staged

/-- Two of the heads lie in one conflict set. -/
def raceAmong (hs : List (Fin 8)) : Bool := hs.any fun a => hs.any fun b => (conflictSet a).contains b

/-- 04/R70: one pending green is applied; where two of one conflict set are takeable at the same event, either may be
taken first (a free choice, log 18). -/
def applyOneGreen (v : Base) (f : Flow) : Flow :=
  let hs := readyGreens v f
  match hs with
  | [] => f
  | h :: _ =>
    if raceAmong hs then
      let k := (hs[Config.freeChoice f.freeIndex % hs.length]?).getD h
      changeHead v k Head.green { f with freeIndex := f.freeIndex + 1 }
    else changeHead v h Head.green f

/-- 04/R68, R69: the re-examination of greens lost, and of the pending greens that an event calls for, each over the heads
by number (log 8). -/
def signalRound (v : Base) (f : Flow) : Flow :=
  let f := overAll allHeads (fun _ f => applyOneGreen v f) (overAll allHeads (loseGreen v) f)
  { f with recheck := Vector.replicate 8 false }

/-- 04/R72: a lamp becomes FAILED: LAMP_FAIL is raised with the aspect shown, then R74 or R75 follows. -/
def failLamp (v : Base) (h : Fin 8) (l : Lamp) (f : Flow) : Flow :=
  let x := f.heads.nth h
  let f := raise v .alarm 0x07 (u1 h ++ u1 (lampCode l) ++ u1 x.shown.code) f
  let dead (y : Head) : Head := { y with good := y.good.put l false }
  match l with
  | .gn => changeHead v h (fun y => { dead y with shown := .stop, pending := true }) f
  | _ =>
    if (dead x).lostRed ∧ x.shown = .prepare then changeHead v h (fun y => (dead y).stop v .stop) f
    else changeHead v h dead f

/-- 04/R77: named lamps become GOOD and their proving timers are reset, and the lamps driven follow; then a pending green
is re-examined. These are two changes of the head: a reset that alters the lamps driven and also lets the green be applied
raises ASPECT twice (R71; log 78). -/
def resetLamps (v : Base) (h : Fin 8) (ls : List Lamp) (f : Flow) : Flow :=
  let fix (l : Lamp) (y : Head) : Head :=
    if y.good.nth l then y else { y with good := y.good.put l true, prove := y.prove.put l none }
  tryGreen v h (changeHead v h (fun y => ls.foldl (fun y l => fix l y) y) f)

/-- 04/R76: a stray mark on GN lights it on a head that carries the waved mark and whose GN, FAILED when the mark was set,
has been reset since. -/
def Head.waivedLit (h : Head) (l : Lamp) : Bool := decide (l = .gn) && h.good.gn && h.waved

/-- 04/R73: a lamp of a head takes the stray mark; a GN so lit after its reset clears the waved mark without a stamp
(R76). -/
def Head.marked (l : Lamp) (h : Head) : Head :=
  { h with mark := h.mark.put l true, waved := h.waved && !h.waivedLit l }

/-- 04/R73, R76: a stray mark set, with its report; its last byte is 0 when the mark is set, 1 when it has ended (log
14). Where the waved mark gives way to the lit GN, the conflict set is examined again (R68). -/
def markStray (v : Base) (h : Fin 8) (l : Lamp) (f : Flow) : Flow :=
  let old := f.heads.nth h
  let f := recheckHeads (if old.waivedLit l then conflictSet h else []) (setHead h (Head.marked l) f)
  raise v .alarm 0x08 (u1 h ++ u1 (lampCode l) ++ b1 false) f

/-- 04/R72, R73: the current sensed on a lamp has changed. Current that ceases clears a stray mark, with LAMP_STRAY
ended (1 in its last byte, log 14); a mark cleared on GN stamps the GO-end time. -/
def senseLamp (v : Base) (h : Fin 8) (l : Lamp) (f : Flow) : Flow :=
  let x := f.heads.nth h
  if x.mark.nth l ∧ (v.pins.lampCurrent.nth h).nth l = false then
    let f := changeHead v h
      (fun y => { y with mark := y.mark.put l false, goEnd := if l = .gn then v.elapsed else y.goEnd }) f
    raise v .alarm 0x08 (u1 h ++ u1 (lampCode l) ++ b1 true) f
  else changeHead v h id f

/-- 04/R76: the waiver of a batch for a head; none when the unit refuses it. -/
def waiveHead (v : Base) (b : Nat) (h : Fin 8) (f : Flow) : Option Flow :=
  let x := f.heads.nth h
  if x.holder = .batch b ∧ x.good.gn = false then some (changeHead v h (fun y => { y with waved := true }) f) else none

/-- 04/R81: the tenths that remain of the clearance margin of a pending green, or 0 where none stands in the way: R68
waives the margin while GN is lit on the head, driven or by its stray mark. -/
def marginLeft (v : Base) (f : Plant) (h : Fin 8) : Nat :=
  if (f.heads.nth h).pending && !(f.heads.nth h).lit then
    (h :: conflictSet h).foldl (fun m k => max m ((f.heads.nth k).goEnd + v.settings.clearMargin - v.elapsed)) 0
  else 0

end Sys2Proof.Machine
end

