-- ==== Sys2Proof/Machine/Gates.lean ====
section
/-! DEFINITION. The Gate and Sluice Unit (spec 02): movements of gates and sluices, requests for them, limits, beams and
obstructions, faults, and the grants of connections. -/

namespace Sys2Proof.Machine

/-! ## Gate movements -/

/-- The report GATE_STATE (02/R25): the gate, its state and its owner. -/
def gateReport (v : Base) (g : Fin 4) (f : Flow) : Flow :=
  raise v .water 0x48 (u1 g ++ u1 (f.gates.nth g).st.code ++ ownerBytes (f.gates.nth g).owner) f

/-- A change of a gate record, with GATE_STATE after it. -/
def moveGate (v : Base) (g : Fin 4) (fn : Gate → Gate) (f : Flow) : Flow := gateReport v g (setGate g fn f)

/-- The owner of a gate changed, by an event whose own report tells of it. -/
def setOwner (g : Fin 4) (o : Owner) (f : Flow) : Flow := setGate g (fun x => { x with owner := o }) f

/-- 02/R23: the owner of a gate changed where no other report of the event carries it: the keeper is told of it by
GATE_STATE (log 45). -/
def ownGate (v : Base) (g : Fin 4) (o : Owner) (f : Flow) : Flow :=
  if (f.gates.nth g).owner = o then f else gateReport v g (setOwner g o f)

/-- 02/R22: a gate record in FAULT. -/
def Gate.faulted (c : GateCause) (x : Gate) : Gate :=
  { x with st := .fault, owner := .keeper, travel := none, obstructions := 0, beamClear := none, ask := none,
           hold := false, cause := some c }

/-- 02/R22: entry to FAULT, with GATE_FAULT: the gate, the cause, the state it left and both limit readings. -/
def faultGate (v : Base) (g : Fin 4) (c : GateCause) (f : Flow) : Flow :=
  raise v .alarm 0x03
    (u1 g ++ u1 c.code ++ u1 (f.gates.nth g).st.code ++ b1 (v.pins.shutLimit.nth g) ++ b1 (v.pins.openLimit.nth g))
    (setGate g (Gate.faulted c) f)

/-- 02/R25: an opening taken: the open drive on, the travel timed against the limit now set (R30). -/
def startOpening (v : Base) (g : Fin 4) (f : Flow) : Flow :=
  moveGate v g (fun x => { x with st := .opening, travel := some v.elapsed, limit := v.settings.travelLimit,
                                  beamClear := none, ask := none }) f

/-- 02/R27, R29: the close drive on, the travel timed afresh; the limit is that with which the CLOSE was taken (R30). -/
def startClosing (v : Base) (g : Fin 4) (f : Flow) : Flow :=
  moveGate v g (fun x => { x with st := .closing, travel := some v.elapsed, beamClear := none, ask := none }) f

/-- 02/R29: a gate meets an obstruction. The third in one closing sets the keeper hold and the owner KEEPER. The
report GATE_OBSTRUCTED carries the gate, the count and whether the gate is held. -/
def obstruct (v : Base) (g : Fin 4) (f : Flow) : Flow :=
  let n := (f.gates.nth g).obstructions + 1
  let held := decide (3 ≤ n)
  let f := setGate g (fun x => { x with
    st := .stopped, travel := none, obstructions := n, ask := none,
    beamClear := if held || v.pins.beam.nth g then none else some v.elapsed,
    hold := held, owner := if held then .keeper else x.owner }) f
  raise v .alarm 0x04 (u1 g ++ u1 n ++ b1 held) f

/-- 02/R27, R30: what the beam decides for a CLOSE taken, with the obstruction count at 0 and the travel time limit now
set, which a resumption keeps (log 13). -/
def takeClose (v : Base) (g : Fin 4) (f : Flow) : Flow :=
  let f := setGate g (fun x => { x with obstructions := 0, hold := false, limit := v.settings.travelLimit }) f
  if v.pins.beam.nth g then obstruct v g f else startClosing v g f

/-- 02/R23, R27: a CLOSE taken for an owner. GATE_STATE of a closing tells of the owner; GATE_OBSTRUCTED does not. -/
def takeCloseFor (v : Base) (g : Fin 4) (o : Owner) (f : Flow) : Flow :=
  takeClose v g (if v.pins.beam.nth g then ownGate v g o f else setOwner g o f)

/-- 02/R26: the open limit is reached. -/
def reachOpen (v : Base) (g : Fin 4) (f : Flow) : Flow := moveGate v g (fun x => { x with st := .opened, travel := none }) f

/-- 02/R28: the shut limit is reached. -/
def reachShut (v : Base) (g : Fin 4) (f : Flow) : Flow :=
  moveGate v g (fun x => { x with st := .shut, travel := none, lastShut := v.elapsed, obstructions := 0 }) f

/-- 02/R22, R26, R28: the limits, as they now stand in `v`, judged against the gate's state. `wasShut` and `wasOpen`
are the readings before the change (log 12). -/
def judgeLimits (v : Base) (g : Fin 4) (wasShut wasOpen : Bool) (f : Flow) : Flow :=
  let sh := v.pins.shutLimit.nth g
  let op := v.pins.openLimit.nth g
  match (f.gates.nth g).st with
  | .fault => f
  | .shut => if sh && op then faultGate v g .limitBoth f else if !sh then faultGate v g .limitLost f else f
  | .opened => if sh && op then faultGate v g .limitBoth f else if !op then faultGate v g .limitLost f else f
  | .opening =>
    if sh && op then faultGate v g .limitBoth f else if op then reachOpen v g f
    else if sh && !wasShut then faultGate v g .limitWrong f else f
  | .closing =>
    if sh && op then faultGate v g .limitBoth f else if sh then reachShut v g f
    else if op && !wasOpen then faultGate v g .limitWrong f else f
  | .stopped =>
    if sh && op then faultGate v g .limitBoth f
    else if (sh && !wasShut) || (op && !wasOpen) then faultGate v g .limitWrong f else f

/-- 02/R29: the beam of a gate has changed. -/
def judgeBeam (v : Base) (g : Fin 4) (f : Flow) : Flow :=
  let x := f.gates.nth g
  let blocked := v.pins.beam.nth g
  match x.st with
  | .closing => if blocked then obstruct v g f else f
  | .stopped =>
    if x.hold then f
    else setGate g (fun x => { x with beamClear := if blocked then none else some (x.beamClear.getD v.elapsed) }) f
  | _ => f

/-! ## Requests of the Tracker and the Regime Unit -/

/-- What the unit answers to a request of the Tracker (02/R24), or of the Regime Unit (R31). -/
inductive GateAnswer where
  | refused
  | accepted
  deriving DecidableEq, Repr

/-- 02/R24: the refusals of a Tracker request other than the gate's state. -/
def gateBarred (b : Nat) (g : Fin 4) (f : Flow) : Bool :=
  let x := f.gates.nth g
  f.regime.mode == .manual || x.st == .fault || !(x.owner == .none || x.owner == .batch b)

/-- 02/R23, R24, R25: the Tracker's OPEN for batch b. -/
def askOpen (v : Base) (b : Nat) (g : Fin 4) (f : Flow) : GateAnswer × Flow :=
  if gateBarred b g f then (.refused, f)
  else
    let own := ownGate v g (.batch b) f
    match (f.gates.nth g).st with
    | .shut =>
      (.accepted,
        if openInterlock v f.toPlant g then startOpening v g (setOwner g (.batch b) f)
        else setGate g (fun x => { x with ask := some (.openFor b) }) own)
    | .opening | .opened => (.accepted, own)
    | _ => (.refused, f)

/-- 02/R23, R24, R27: the Tracker's CLOSE for batch b. One taken of a STOPPED gate is no taking anew: the closing resumes
with the travel time limit of the CLOSE it began with (R30, log 64). -/
def askClose (v : Base) (b : Nat) (g : Fin 4) (f : Flow) : GateAnswer × Flow :=
  if gateBarred b g f then (.refused, f)
  else
    let own := ownGate v g (.batch b) f
    let wait := setGate g (fun x => { x with ask := some (.closeFor b) }) own
    match (f.gates.nth g).st with
    | .opened => (.accepted, if f.toPlant.gateLit g then wait else takeCloseFor v g (.batch b) f)
    | .opening => (.accepted, wait)
    | _ => (.accepted, own)

/-- 02/R31: the Regime Unit's CLOSE: taken in any mode, whoever owns the gate; the owner is left. It follows R27, and a
pending request of the Tracker is discarded. A STOPPED gate resumes with the travel time limit it began with (log 64). -/
def regimeClose (v : Base) (g : Fin 4) (f : Flow) : GateAnswer × Flow :=
  let x := f.gates.nth g
  let wait := setGate g (fun x => { x with ask := some .regimeClose }) f
  match x.st with
  | .fault => (.refused, f)
  | .opened => (.accepted, if f.toPlant.gateLit g then wait else takeClose v g f)
  | .opening => (.accepted, wait)
  | .stopped => if x.hold then (.refused, f) else (.accepted, setGate g (fun x => { x with ask := none }) f)
  | _ => (.accepted, f)

/-- 02/R23: RELEASE for batch b; ignored from a batch that is not the owner. -/
def releaseGate (v : Base) (b : Nat) (g : Fin 4) (f : Flow) : Flow :=
  if (f.gates.nth g).owner = .batch b then ownGate v g .none f else f

/-- 02/R23: YIELD for batch b; ignored from a batch that is not the owner. -/
def yieldGate (v : Base) (b : Nat) (g : Fin 4) (f : Flow) : Flow :=
  if (f.gates.nth g).owner = .batch b then ownGate v g .keeper f else f

/-- 02/R24: the Tracker withdraws the pending OPEN of batch b. -/
def withdrawOpen (b : Nat) (g : Fin 4) (f : Flow) : Flow :=
  setGate g (fun x => if x.ask = some (.openFor b) then { x with ask := none } else x) f

/-- The pending request is one of the Tracker's. -/
def GateAsk.ofTracker : GateAsk → Bool
  | .openFor _ | .closeFor _ => true
  | .regimeClose => false

/-- 02/R24: on the change to MANUAL every pending request of the Tracker is discarded. -/
def discardTrackerAsks (f : Flow) : Flow :=
  overAll allGates (fun g f =>
    setGate g (fun x => if x.ask.any GateAsk.ofTracker then { x with ask := none } else x) f) f

/-- 02/R24, R25, R27: a pending request is taken when its conditions hold. They are looked at after every command that the
blocks react to, so an open tolerance changed by SETTING_SET counts from the first of these, scan or not (log 61). -/
def examineAsk (v : Base) (g : Fin 4) (f : Flow) : Flow :=
  let x := f.gates.nth g
  match x.ask with
  | none => f
  | some (.openFor _) => if openInterlock v f.toPlant g then startOpening v g f else f
  | some _ => if x.st = .opened ∧ f.toPlant.gateLit g = false then takeClose v g f else f

/-! ## Sluices -/

/-- The report SLUICE_STEADY (02/R35). -/
def steadyReport (v : Base) (g : Fin 4) (f : Flow) : Flow :=
  raise v .water 0x49 (u1 g ++ u1 (f.sluices.nth g).pos) f

/-- 02/R36: entry to FAULT; the position is the last valid reading. SLUICE_FAULT carries the gate, the cause (0 a step
not completed, 1 a wrong move, 2 a move while STEADY, 3 an invalid reading), the position and the command. -/
def faultSluice (v : Base) (g : Fin 4) (cause : Nat) (f : Flow) : Flow :=
  let x := f.sluices.nth g
  raise v .alarm 0x05 (u1 g ++ u1 cause ++ u1 x.pos ++ u1 x.cmd) (setSluice g (fun x => { x with st := .fault, step := none }) f)

/-- 02/R38: the commanded position the unit takes for a command of `n`. -/
def reducedTo (f : Flow) (g : Fin 4) (n : Nat) : Nat := if n = 4 ∧ f.toPlant.boundsOccupied g then 3 else n

/-- 02/R35, R37, R41: a commanded position. An opening from 0 before the interval is met is held at STEADY. A command
to a sluice in FAULT is refused (R36) and changes nothing. -/
def commandSluice (v : Base) (g : Fin 4) (want : Nat) (f : Flow) : Flow :=
  let n := reducedTo f g want
  let x := f.sluices.nth g
  match x.st with
  | .fault => f
  | .steady =>
    if n = x.pos ∨ (x.pos = 0 ∧ intervalMet v f.toPlant g = false) then setSluice g (fun x => { x with cmd := n }) f
    else setSluice g (fun x => { x with st := .moving, cmd := n, step := some v.elapsed }) f
  | .moving =>
    if n = x.pos then
      steadyReport v g (setSluice g (fun x => { x with st := .steady, cmd := n, step := none }) f)
    else if decide (x.pos < n) = decide (x.pos < x.cmd) then setSluice g (fun x => { x with cmd := n }) f
    else setSluice g (fun x => { x with cmd := n, step := some v.elapsed }) f

/-- 02/R35, R36: the position input of a sluice, as it now stands in `v`. A reading of 5 to 7 meets two of the causes of
R36 on a sluice that is STEADY or MOVING: the cause sent is the invalid reading (log 54). A sluice in FAULT keeps the
position it had at the fault; no later reading moves it until SLUICE_CMD RESET or a start (log 33). -/
def judgePosition (v : Base) (g : Fin 4) (f : Flow) : Flow :=
  let code := (v.pins.sluicePos.nth g).val
  let x := f.sluices.nth g
  let at_ (f : Flow) : Flow := setSluice g (fun x => { x with pos := code }) f
  match x.st with
  | .fault => f
  | .steady => if 4 < code then faultSluice v g 3 f else if code ≠ x.pos then faultSluice v g 2 (at_ f) else f
  | .moving =>
    if 4 < code then faultSluice v g 3 f
    else if code = x.pos then f
    else if code = (if x.pos < x.cmd then x.pos + 1 else x.pos - 1) then
      if code = x.cmd then
        steadyReport v g (setSluice g (fun x => { x with st := .steady, pos := code, step := none }) f)
      else setSluice g (fun x => { x with pos := code, step := some v.elapsed }) f
    else faultSluice v g 1 (at_ f)

/-- 02/R41: an opening held at STEADY starts when the interval is met. -/
def startHeld (v : Base) (g : Fin 4) (f : Flow) : Flow :=
  let x := f.sluices.nth g
  if x.st = .steady ∧ x.pos = 0 ∧ 0 < x.cmd ∧ intervalMet v f.toPlant g then
    setSluice g (fun x => { x with st := .moving, step := some v.elapsed }) f
  else f

/-- 02/R38: a sluice of an occupied chamber's gates commanded to 4 is commanded to 3, and its channel, where that
controls it, takes 3 as its command (03/R51). The keeper, as controller, is told by SLUICE_STEADY alone (log 54). -/
def reduceSluice (v : Base) (g : Fin 4) (f : Flow) : Flow :=
  let x := f.sluices.nth g
  if f.toPlant.boundsOccupied g ∧ x.cmd = 4 ∧ x.st ≠ .fault then
    let f := commandSluice v g 3 f
    setChannel g (fun c => if c.cmd = 4 then { c with cmd := 3 } else c) f
  else f

/-! ## Grants -/

/-- 02/R40: gate g is clear of connections and of grants. -/
def grantable (f : Flow) (g : Fin 4) : Bool := f.toPlant.clearOfConnections g && f.toPlant.clearOfGrants g

/-- 02/R40: channel g asks for the grant of its gate: whether it holds it afterwards; otherwise it waits. -/
def requestGrant (g : Fin 4) (f : Flow) : Bool × Flow :=
  if f.grants.nth g then (true, f)
  else if f.waiting.contains g then (false, f)
  else if grantable f g && !(f.waiting.any fun a => sharesBody a g) then
    (true, { f with grants := f.grants.put g true })
  else (false, { f with waiting := f.waiting ++ [g] })

/-- 02/R40: a channel gives back its grant. -/
def releaseGrant (g : Fin 4) (f : Flow) : Flow := { f with grants := f.grants.put g false }

/-- 02/R40: a channel withdrawn from the waiting list. -/
def leaveWaiting (g : Fin 4) (f : Flow) : Flow := { f with waiting := f.waiting.filter (· ≠ g) }

/-- 02/R40: one review of the waiting list, oldest first: the channels granted, in list order. `older` holds the
channels passed over, still on the list. -/
def reviewWaiting : List (Fin 4) → List (Fin 4) → Flow → List (Fin 4) × Flow
  | [], _, f => ([], f)
  | g :: rest, older, f =>
    if grantable f g && !(older.any fun a => sharesBody a g) then
      let r := reviewWaiting rest older (leaveWaiting g { f with grants := f.grants.put g true })
      (g :: r.1, r.2)
    else reviewWaiting rest (older ++ [g]) f

end Sys2Proof.Machine
end

