-- ==== Sys2Proof/Machine/Levelling.lean ====
section
/-! DEFINITION. The Levelling Unit (spec 03): requests and start checks, the profile, the hold, LEVEL, suspension,
failure and cancellation; and the Flight Scheduler's water permits, which it asks for (06, section 6.10). -/

namespace Sys2Proof.Machine

/-! ## Reports and moves of a channel -/

/-- H_g, or absent, −32768 in the reports LEVELLING_STATE, LEVELLING_FAILED and SURGE too (03/R46; log 14). -/
def headField (v : Base) (g : Fin 4) : List Byte := lvl2 (v.scanner.heads.nth g).value

/-- 03/R46: a channel moved to a new record; a change of its state raises LEVELLING_STATE with the gate, the old and
new states, the requester and H_g. On a change to IDLE, whose record has none, the requester is that of the levelling
that has ended (log 68). -/
def moveChannel (v : Base) (g : Fin 4) (c : Channel) (f : Flow) : Flow :=
  let old := f.channels.nth g
  let f := setChannel g (fun _ => c) f
  let who := if c.req.isSome then c.req else old.req
  if c.st ≠ old.st then
    raise v .water 0x4A (u1 g ++ u1 old.st.code ++ u1 c.st.code ++ purposeBytes who ++ headField v g) f
  else f

/-- A channel's command to its sluice; the channel records the position the unit takes (02/R38). -/
def channelCommand (v : Base) (g : Fin 4) (n : Nat) (f : Flow) : Flow :=
  let m := reducedTo f g n
  commandSluice v g n (setChannel g (fun c => { c with cmd := m }) f)

/-- 06/R115: channel 3's permit request is withdrawn without a draw. -/
def withdrawPermit (g : Fin 4) (f : Flow) : Flow :=
  if g = 3 then setSched (fun s => { s with permit := none }) f else f

/-- 03/R56, R58: a levelling fails: the sluice to 0, the timers stopped, LEVELLING_FAILED with the gate, the cause, the
requester, H_g and the commanded position at failure. The grant, where held, is kept. A permit asked and withdrawn is
undecided again (log 46); the surge count is 0 (log 76). -/
def failChannel (v : Base) (g : Fin 4) (cause : ChanCause) (f : Flow) : Flow :=
  let c := f.channels.nth g
  let f := leaveWaiting g f
  let f := if c.st = .waitingWater then withdrawPermit g f else f
  let f := setChannel g (fun c =>
    { c with st := .failed, stepT := none, settleT := none, surge := 0, susp := none, cause := some cause,
             permit := if c.permit = .asked then .undecided else c.permit }) f
  let f := channelCommand v g 0 f
  raise v .alarm 0x06 (u1 g ++ u1 cause.code ++ purposeBytes c.req ++ headField v g ++ u1 c.cmd) f

/-- 03/R58: a channel that has just been taken through its start checks, and whose command its sluice refuses because it
is in FAULT, fails: in RUNNING and SUSPENDED as in a waiting state (log 37). -/
def failRefused (v : Base) (g : Fin 4) (f : Flow) : Flow :=
  let st := (f.channels.nth g).st
  if (f.sluices.nth g).st = .fault ∧ st ≠ .idle ∧ st ≠ .failed then failChannel v g .sluice f else f

/-! ## Check 5 and the permit (03/R48, R49; 06/R114) -/

/-- 03/R50: |H_g| exceeds the near band. -/
def aboveBand (v : Base) (g : Fin 4) : Bool := decide ((v.settings.nearBand : Int) < mag (headValue v g))

/-- 03/R49, R50: the levelling proper begins: SUSPENDED at once when a level is not usable, else RUNNING at position 1,
where the near band is judged for the first time (log 46); a sluice that stands at 1 or above already has reached it (60). -/
def check5 (v : Base) (g : Fin 4) (f : Flow) : Flow :=
  let c := f.channels.nth g
  let c := { c with start := some v.elapsed, limit := some v.settings.levelTimeLimit, stepT := none, settleT := none,
                    surge := 0, opened := false, reached := decide (1 ≤ (f.sluices.nth g).pos), far := aboveBand v g }
  if levelsUsable v g c.req then
    channelCommand v g 1 (moveChannel v g { c with st := .running, susp := none } f)
  else channelCommand v g 0 (moveChannel v g { c with st := .suspended, susp := some v.elapsed } f)

/-- 06/R113: the entries of the draw list that count in the window. -/
def countingDraws (v : Base) (draws : List Draw) : List Draw :=
  draws.filter fun d => decide (v.elapsed - d.start < 10 * v.settings.drawWindow)

/-- 06/R114: the decision of a permit: none when it is given, else the cause of its deferral. -/
def permitDeferral (v : Base) (s : Scheduler) : Option Deferral :=
  if (v.scanner.bodies.nth 4).low then some .upstreamLow
  else if s.saving ∧ v.settings.drawCount ≤ (countingDraws v s.draws).length then some .window
  else none

/-- 06/R113: a draw entry added at the tail; with 32 entries the oldest is removed first. -/
def addDraw (d : Draw) (draws : List Draw) : List Draw :=
  (if Config.maxDraws ≤ draws.length then draws.drop 1 else draws) ++ [d]

/-- 06/R114: a permit given: the draw recorded, and DRAW_STARTED with the purpose and the number then counting. -/
def giveDraw (v : Base) (p : Purpose) (f : Flow) : Flow :=
  let f := setSched (fun s => { s with permit := none, draws := addDraw ⟨v.elapsed, p⟩ s.draws }) f
  raise v .water 0x4D (u1 p.code ++ u1 (countingDraws v f.sched.draws).length) f

/-- 06/R114: DRAW_DEFERRED with the cause; for WINDOW also the seconds until the oldest counting entry leaves it. -/
def deferReport (v : Base) (d : Deferral) (f : Flow) : Flow :=
  let left :=
    match d, countingDraws v f.sched.draws with
    | .window, e :: _ => u4 (secondsLeft v.elapsed (e.start + 10 * v.settings.drawWindow))
    | _, _ => []
  raise v .water 0x4E (u1 d.code ++ left) f

/-- 06/R114: a permit asked for with a purpose; a deferred one becomes the permit request. -/
def askPermit (v : Base) (p : Purpose) (f : Flow) : Bool × Flow :=
  match permitDeferral v f.sched with
  | none => (true, giveDraw v p f)
  | some d => (false, deferReport v d (setSched (fun s => { s with permit := some ⟨p, v.elapsed, d⟩ }) f))

/-- 03/R48: a channel that waits for water, with its permit mark, its sluice kept at 0; the levelling start and the time
limit are absent until check 5. -/
def waitWater (v : Base) (g : Fin 4) (mark : Permit) (f : Flow) : Flow :=
  let c := f.channels.nth g
  channelCommand v g 0 (moveChannel v g
    { c with st := .waitingWater, permit := mark, start := none, limit := none, stepT := none, settleT := none,
             surge := 0, susp := none, opened := false } f)

/-- 03/R48: check 4: the need for a permit is judged on the head of the last scan, then the permit asked. -/
def check4 (v : Base) (g : Fin 4) (f : Flow) : Flow :=
  let req := (f.channels.nth g).req
  let go (mark : Permit) (f : Flow) : Flow := check5 v g (setChannel g (fun c => { c with permit := mark }) f)
  if g ≠ 3 then go .notNeeded f
  else if headUsable v g req = false then waitWater v g .undecided f
  else if headValue v g ≤ 0 then go .notNeeded f
  else
    match askPermit v (req.getD .keeper) f with
    | (true, f) => go .given f
    | (false, f) => waitWater v g .asked f

/-- 03/R46, R47: checks 3 to 5 of an accepted request. -/
def startChecks (v : Base) (g : Fin 4) (p : Purpose) (f : Flow) : Flow :=
  let f := setChannel g (fun c => { Channel.idle with st := c.st, req := some p }) f
  match requestGrant g f with
  | (true, f) => check4 v g f
  | (false, f) => channelCommand v g 0 (moveChannel v g { Channel.idle with st := .waitingConnection, req := some p } f)

/-- What a channel answers an automatic request. -/
inductive AskAnswer where
  | refused (why : AskRefusal)
  | taken
  deriving DecidableEq, Repr

/-- 03/R46: a request of the Tracker or the Scheduler. Where several of the rule's cases hold, the requester is told the
first of them in the order of the rule (log 65). -/
def requestLevelling (v : Base) (g : Fin 4) (p : Purpose) (f : Flow) : AskAnswer × Flow :=
  let c := f.channels.nth g
  if f.regime.mode = .manual then (.refused .manual, f)
  else if f.regime.condition = .stoodDown then (.refused .stoodDown, f)
  else if c.st ≠ .idle then (if c.req = some p then (.taken, f) else (.refused .otherRequester, f))
  else if (f.gates.nth g).st ≠ .shut ∨ levelsUsable v g (some p) = false then (.refused .state, f)
  else (.taken, failRefused v g (startChecks v g p f))

/-! ## Cancellation -/

/-- 03/R59: a cancellation ends a levelling, whatever state it has reached. -/
def cancelChannel (v : Base) (g : Fin 4) (f : Flow) : Flow :=
  let c := f.channels.nth g
  match c.st with
  | .idle => f
  | st =>
    let f := leaveWaiting g f
    let f := if st = .waitingWater then withdrawPermit g f else f
    let f :=
      if st = .running ∨ st = .holding ∨ st = .suspended ∨ st = .failed then commandSluice v g 0 f else f
    moveChannel v g Channel.idle (releaseGrant g f)

/-- 03/R59: a requester's cancellation: only of its own levelling. -/
def cancelFor (v : Base) (g : Fin 4) (p : Purpose) (f : Flow) : Flow :=
  if (f.channels.nth g).req = some p then cancelChannel v g f else f

/-! ## The end of a scan -/

/-- 03/R57: a levelling is suspended. -/
def suspend (v : Base) (g : Fin 4) (f : Flow) : Flow :=
  let c := f.channels.nth g
  channelCommand v g 0 (moveChannel v g
    { c with st := .suspended, stepT := none, settleT := none, surge := 0, susp := some v.elapsed } f)

/-- 03/R50, R57: the sluice of a levelling has reached position 1 or above: it stood there when the levelling began, or
it has come to position 1, by which every sluice passes, while the channel is RUNNING. -/
def hasReached (f : Flow) (g : Fin 4) : Bool :=
  let c := f.channels.nth g
  c.reached || (c.st == .running && (f.sluices.nth g).pos == 1)

/-- 03/R50: the step timer runs while the channel is RUNNING, its sluice has reached position 1 or above in this
levelling, and |H_g| exceeds the near band, as the last evaluation found it: a changed near band applies at the next one, the
end of a scan or an expiry of the step timer (R45). -/
def followStep (v : Base) (g : Fin 4) (f : Flow) : Flow :=
  let c := f.channels.nth g
  let up := hasReached f g
  let runs := c.st == .running && up && headUsable v g c.req && c.far
  setChannel g (fun c => { c with
    reached := up
    stepT := if runs then some (c.stepT.getD v.elapsed) else none }) f

/-- 03/R50: the profile of a RUNNING channel at the end of a scan. -/
def profile (v : Base) (g : Fin 4) (f : Flow) : Flow :=
  let c := f.channels.nth g
  let h := mag (headValue v g)
  let lower (f : Flow) : Flow := if 1 < c.cmd then channelCommand v g 1 f else f
  if h ≤ v.settings.openTol ∧ c.reached then
    lower (moveChannel v g { c with st := .holding, stepT := none, settleT := some v.elapsed, surge := 0 } f)
  else if h ≤ v.settings.nearBand then lower f
  else f

/-- The scan indicated a sign change for gate g (01/R12): `signs` is the sign memory before the scan. -/
def signChanged (v : Base) (signs : Tbl 4 Sign) (g : Fin 4) : Bool :=
  let h := v.scanner.heads.nth g
  h.usable && ((signs.nth g == .pos && decide (headValue v g < 0)) || (signs.nth g == .neg && decide (0 < headValue v g)))

/-- 03/R52, R53: a HOLDING channel at the end of a scan. The surge limit is read where a sign change is counted: one
lowered during the hold to or below the count already reached restarts the hold at the next sign change, and not before
(R45, R53; log 77). -/
def holdScan (v : Base) (signs : Tbl 4 Sign) (g : Fin 4) (f : Flow) : Flow :=
  let c := f.channels.nth g
  if (v.settings.openTol : Int) < mag (headValue v g) then
    moveChannel v g { c with st := .running, settleT := none, surge := 0 } f
  else if signChanged v signs g then
    if v.settings.surgeLimit ≤ c.surge + 1 then
      raise v .water 0x4B (u1 g ++ settingBytes v.settings [.surgeLimit] ++ headField v g)
        (setChannel g (fun c => { c with settleT := some v.elapsed, surge := 0 }) f)
    else setChannel g (fun c => { c with surge := c.surge + 1 }) f
  else f

/-- 03/R57: a SUSPENDED channel resumes within 120 s; its sluice is to reach position 1 again (log 60). -/
def resumeScan (v : Base) (g : Fin 4) (f : Flow) : Flow :=
  let c := f.channels.nth g
  if levelsUsable v g c.req ∧ v.elapsed - c.susp.getD 0 ≤ Config.resumeWindow then
    channelCommand v g 1 (moveChannel v g { c with st := .running, susp := none, reached := false } f)
  else f

/-- 03/R55: a LEVEL channel whose head has drifted starts over from check 4, keeping the grant. -/
def driftScan (v : Base) (g : Fin 4) (f : Flow) : Flow :=
  let c := f.channels.nth g
  let s := f.sluices.nth g
  if (f.gates.nth g).st = .shut ∧ c.opened = false ∧ s.st = .steady ∧ s.pos = 0 ∧ headUsable v g c.req
      ∧ (v.settings.openTol : Int) < mag (headValue v g) then
    check4 v g (setChannel g (fun c => { c with permit := .undecided, start := none, limit := none }) f)
  else f

/-- 03/R48: a channel in WAITING_WATER re-judges its need for a permit; a permit deferred leaves it waiting. -/
def waterScan (v : Base) (g : Fin 4) (f : Flow) : Flow :=
  let c := f.channels.nth g
  if headUsable v g c.req = false then f
  else if headValue v g ≤ 0 then
    check5 v g (setChannel g (fun c => { c with permit := .notNeeded }) (withdrawPermit g f))
  else if c.permit = .undecided then
    match askPermit v (c.req.getD .keeper) f with
    | (true, f) => check5 v g (setChannel g (fun c => { c with permit := .given }) f)
    | (false, f) => setChannel g (fun c => { c with permit := .asked }) f
  else f

/-- What the state of a channel has it do at the end of a scan (03/R48 to R57). -/
def scanByState (v : Base) (signs : Tbl 4 Sign) (g : Fin 4) (f : Flow) : Flow :=
  let c := f.channels.nth g
  match c.st with
  | .waitingWater => waterScan v g f
  | .running => if levelsUsable v g c.req then profile v g f else suspend v g f
  | .holding => if levelsUsable v g c.req then holdScan v signs g f else suspend v g f
  | .suspended => resumeScan v g f
  | .level => driftScan v g f
  | _ => f

/-- 03/R45, R50: an evaluation of a RUNNING channel reads the near band now set. -/
def judgeBand (v : Base) (g : Fin 4) (f : Flow) : Flow :=
  if (f.channels.nth g).st = .running then setChannel g (fun c => { c with far := aboveBand v g }) f else f

/-- The Levelling Unit's part of the end of a scan: a channel acts by its state, and one then RUNNING judges the head
that the scan hands over by the near band (03/R50). -/
def scanChannel (v : Base) (signs : Tbl 4 Sign) (g : Fin 4) (f : Flow) : Flow := judgeBand v g (scanByState v signs g f)

/-- 06/R115: a deferred permit request is decided again. -/
def redecidePermit (v : Base) (f : Flow) : Flow :=
  match f.sched.permit with
  | none => f
  | some r =>
    match permitDeferral v f.sched with
    | none =>
      check5 v 3 (setChannel 3 (fun c => { c with permit := .given }) (giveDraw v r.purpose f))
    | some d =>
      if d = r.cause then f
      else deferReport v d (setSched (fun s => { s with permit := some { r with cause := d } }) f)

/-- 06/R115: at this scan a withdrawal by channel 3 and a giving of its permit fall together. -/
def permitRace (v : Base) (f : Flow) : Bool :=
  f.sched.permit.isSome && (permitDeferral v f.sched).isNone && (f.channels.nth 3).st == .waitingWater
    && headUsable v 3 (f.channels.nth 3).req && decide (headValue v 3 ≤ 0)

/-- 03, 06/R115: the channels' part of a scan, and the re-decision of the permit after it; where a withdrawal and a
giving fall together either may be taken first (a free choice, log 18). -/
def scanLevellings (v : Base) (signs : Tbl 4 Sign) (f : Flow) : Flow :=
  let f :=
    if permitRace v f then
      let n := f.freeIndex
      let f := { f with freeIndex := n + 1 }
      if Config.freeChoice n % 2 = 1 then redecidePermit v f else f
    else f
  redecidePermit v (overAll allGates (scanChannel v signs) f)

/-! ## Timers and signals -/

/-- 03/R45, R50, R51: the step interval has run: the channel evaluates. Above the near band now set the command is raised
by one below the maximum, and the timer restarts; where a changed near band is no longer exceeded the timer stops, and
nothing is raised. -/
def raiseStep (v : Base) (g : Fin 4) (f : Flow) : Flow :=
  let c := f.channels.nth g
  let far := aboveBand v g
  let f := setChannel g (fun c => { c with stepT := if far then some v.elapsed else none, far := far }) f
  if far ∧ c.cmd < f.toPlant.maxPosition g then channelCommand v g (c.cmd + 1) f else f

/-- 03/R54: a hold completes: LEVEL, the sluice to 0; the surge count is 0 (log 76). -/
def completeLevelling (v : Base) (g : Fin 4) (f : Flow) : Flow :=
  let c := f.channels.nth g
  channelCommand v g 0 (moveChannel v g { c with st := .level, stepT := none, settleT := none, surge := 0,
                                                  opened := false } f)

/-- 03/R61: a calibration change of a gauge restarts the holds of the channels whose gates bound its body. -/
def calibrationChanged (v : Base) (body : Fin 5) (f : Flow) : Flow :=
  overAll (gatesOf body) (fun g f =>
    if (f.channels.nth g).st = .holding then setChannel g (fun c => { c with settleT := some v.elapsed, surge := 0 }) f
    else f) f

/-! ## What the unit does at changes of gates, sluices and grants -/

/-- 03/R55, R58: a channel watches its gate and its sluice. -/
def watchChannel (v : Base) (g : Fin 4) (f : Flow) : Flow :=
  let c := f.channels.nth g
  let gate := (f.gates.nth g).st
  let sluiceLost := (f.sluices.nth g).st == .fault
  match c.st with
  | .idle | .failed => f
  | .waitingConnection | .waitingWater => if gate = .fault then failChannel v g .gate f else f
  | .level =>
    if gate = .fault ∧ c.opened = false then failChannel v g .gate f
    else if sluiceLost then failChannel v g .sluice f
    else if c.opened ∧ gate = .shut then moveChannel v g Channel.idle (releaseGrant g f)
    else if c.opened = false ∧ gate ≠ .shut then setChannel g (fun c => { c with opened := true }) f
    else f
  | _ =>
    if gate = .fault then failChannel v g .gate f
    else if sluiceLost then failChannel v g .sluice f
    else f

/-- 02/R40, 03/R47: the waiting list reviewed; each channel granted goes on to check 4, in list order. -/
def grantRound (v : Base) (f : Flow) : Flow :=
  match reviewWaiting f.waiting [] f with
  | (granted, f) => overAll granted (fun g f => failRefused v g (check4 v g f)) f

/-- The Levelling Unit's and the Gate and Sluice Unit's part of a round; pending gate requests are looked at in each (log
61). -/
def waterRound (v : Base) (f : Flow) : Flow :=
  let f := overAll allGates (examineAsk v) f
  let f := overAll allGates (watchChannel v) f
  let f := grantRound v f
  overAll allGates (followStep v) f

end Sys2Proof.Machine
end

