-- ==== Sys2Proof/Machine/Toll.lean ====
section
/-! DEFINITION. The Toll Unit (spec 08): the night band, the toll formula, reservations, postings, the hull table, the
log and the clock. -/

namespace Sys2Proof.Machine

/-- 08/R141: the clock 100 ms later. -/
def Clock.tick (c : Clock) : Clock :=
  if c.tod + 1 < 864000 then { c with tod := c.tod + 1 } else { c with tod := 0, day := (c.day + 1) % 65536 }

/-- 08/R142: the night band, on the time of day taken to the minute. -/
def nightBand (v : Settings) (c : Clock) : Bool :=
  let m := c.tod / 600
  !c.unset &&
    (if v.nightEnd < v.nightStart then decide (v.nightStart ≤ m ∨ m < v.nightEnd)
     else decide (v.nightStart ≤ m ∧ m < v.nightEnd))

/-- 08/R143: the toll of a class, length and tonnage, under the night band, the water-saving flag and the hull's
passages this period, with its basis marks. -/
def toll (v : Settings) (night saving : Bool) (passages : Nat) (cls : Fin 8) (length tonnes : Nat) : Nat × Basis :=
  let t := v.tariff.nth cls
  let gross := t.base + roundHalfUp (t.perMetre * length) 10 + roundHalfUp (t.perTonne * tonnes) 10
  let nightPart := if night then roundHalfUp (gross * v.nightSurcharge) 100 else 0
  let waterPart := if saving then roundHalfUp (gross * v.waterSurcharge) 100 else 0
  let surcharged := gross + nightPart + waterPart
  let frequent := decide (v.frequentThreshold ≤ passages)
  let discount := if frequent then roundHalfUp (surcharged * v.frequentDiscount) 100 else 0
  (min (max (surcharged - discount) t.minimum) Config.maxToll, ⟨night, saving, frequent⟩)

/-- 08/R143: the passages this period of a hull, read from the hull table. -/
def hullPassages (b : Books) (mark : List Byte) : Nat :=
  match b.hulls.find? fun h => h.mark == mark with
  | some h => h.passages
  | none => 0

/-- 08/R144: the toll of a passage computed now. -/
def quote (v : Base) (f : Plant) (p : Passage) : Nat × Basis :=
  toll v.settings (nightBand v.settings v.clock) f.sched.saving (hullPassages v.books p.mark) p.cls p.length p.tonnes

/-! ## Accounts -/

/-- The account with an id. -/
def Plant.account? (f : Plant) (id : Nat) : Option Account := f.accounts.find? fun a => a.id == id

/-- 08, section 8.6: the reserved amount of the payment's account moved; a no-op for CASH (R150). -/
def reserve (payment : Option Nat) (by_ : Int) (f : Flow) : Flow :=
  match payment with
  | none => f
  | some id => setAccount id (fun a => { a with reserved := a.reserved + by_ }) f

/-- A passage's committed amount, or 0. -/
def Passage.amount (p : Passage) : Nat := (p.committed.map (·.2)).getD 0

/-- 08/R150: a passage without a committed amount releases nothing. -/
def releaseReserve (p : Passage) (f : Flow) : Flow := reserve p.payment (-(p.amount : Int)) f

/-- 05/R88: the account check of a passage. -/
def accountPasses (v : Base) (f : Plant) (p : Passage) : Bool :=
  match p.payment with
  | none => true
  | some id =>
    match f.account? id with
    | none => false
    | some a => !a.blocked && decide (-a.limit ≤ a.balance - a.reserved - (quote v f p).1)

/-- 08/R147: the report ACCOUNT_STATE. -/
def accountReport (v : Base) (a : Account) (f : Flow) : Flow := raise v .account 0x72 a.bytes f

/-- 08/R149: the headroom. -/
def Account.headroom (a : Account) : Int := a.balance - a.reserved + a.limit

/-- 08/R151: the class minimum in force. -/
def classMinimum (v : Settings) (p : Passage) : Nat := (v.tariff.nth p.cls).minimum

/-- 08/R151: the charge of a CLEARED. -/
def clearedCharge (v : Settings) (p : Passage) : Nat := min (max p.amount (classMinimum v p)) Config.maxToll

/-- 08/R151: a charge posted on the passage's account: the balance, never below its bound; the reservation; the
postings. ACCOUNT_CLAMPED carries the account, the charge and the part not taken, ACCOUNT_POSTED the account, the
passage, the charge, the new balance and the new reserved amount. -/
def postCharge (v : Base) (p : Passage) (charge : Nat) (f : Flow) : Flow :=
  match p.payment with
  | none => f
  | some id =>
    match f.toPlant.account? id with
    | none => f
    | some a =>
      let low := a.balance - charge
      let b := { a with
        balance := max low (-Config.maxBalance), reserved := a.reserved - p.amount,
        posted := if a.posted = 65535 then 65535 else a.posted + 1 }
      let f := setAccount id (fun _ => b) f
      let f :=
        if low < -Config.maxBalance then
          raise v .alarm 0x0C (u1 id ++ u4 charge ++ u4 (-Config.maxBalance - low).toNat) f
        else f
      raise v .account 0x73 (u1 id ++ u4 p.number ++ u4 charge ++ s4 b.balance ++ u4 b.reserved.toNat) f

/-! ## Fees -/

/-- 08/R144: the fee of a passage fixed: the committed amount of kind FEE with its basis, the reservation moved by the
fee less the quote, and FEE_FIXED with the number, the mark, the payment, the quote replaced, the fee and its marks. -/
def fixFee (v : Base) (n : Nat) (f : Flow) : Flow :=
  match f.toPlant.passage? n with
  | none => f
  | some p =>
    let q := quote v f.toPlant p
    let f := reserve p.payment ((q.1 : Int) - p.amount) f
    let f := setPassage n (fun p => { p with committed := some (.fee, q.1), basis := some q.2 }) f
    raise v .account 0x70
      (u4 p.number ++ p.mark ++ paymentByte p.payment ++ u4 p.amount ++ u4 q.1 ++ basisByte (some q.2)) f

/-! ## The hull table and the log -/

/-- 08/R145: the last entry, in recency order, whose mark belongs to no open passage. -/
def evictable (openMarks : List (List Byte)) (hs : List Hull) : Option Hull :=
  hs.reverse.find? fun h => !openMarks.contains h.mark

/-- 08/R145: DECLARATION_CHANGED: the hull mark, then each of length, beam, draught and class that changed as its
number 0 to 3 with the old and new value: a length and a draught in 2 bytes each, a beam and a class in 1, the smallest
width that holds their range (11/R181; log 14). -/
def declarationFields (h : Hull) (d : Passage) : List Byte :=
  let one (k old new : Nat) (wide : Nat → List Byte) : List Byte :=
    if old = new then [] else u1 k ++ wide old ++ wide new
  h.mark ++ one 0 h.length d.length u2 ++ one 1 h.beam d.beam u1 ++ one 2 h.draught d.draught u2
    ++ one 3 h.cls.val d.cls.val u1

/-- 08/R145: the entry of a hull just declared. -/
def hullOf (d : Passage) (passages : Nat) (last : Option Clock) : Hull :=
  ⟨d.mark, d.length, d.beam, d.draught, d.cls, d.payment, passages, last⟩

/-- 08/R145: the hull lookup for an accepted request: the table after it, and the flow with its reports. The rank of an
entry is its place, 1 first. -/
def lookUpHull (v : Base) (d : Passage) (f : Flow) : List Hull × Flow :=
  let hs := v.books.hulls
  match hs.find? fun h => h.mark == d.mark with
  | some h =>
    let same := h.length = d.length ∧ h.beam = d.beam ∧ h.draught = d.draught ∧ h.cls = d.cls
    (hullOf d h.passages h.last :: hs.filter (fun x => x.mark != d.mark),
      if same then f else raiseTo (some d.origin) v .passage 0x26 (declarationFields h d) f)
  | none =>
    if hs.length < Config.maxHulls then (hullOf d 0 none :: hs, f)
    else
      match evictable (f.passages.map (·.mark)) hs with
      | some e =>
        (hullOf d 0 none :: hs.filter (fun x => x.mark != e.mark),
          raise v .account 0x71 (e.mark ++ u2 e.passages) f)
      | none => (hs, f)

/-- 08/R146: the count and last passage time of a hull raised by a CLEARED. -/
def countHull (mark : List Byte) (now : Clock) (b : Books) : Books :=
  { b with hulls := b.hulls.map fun h =>
      if h.mark = mark then { h with passages := if h.passages = 65535 then 65535 else h.passages + 1, last := some now }
      else h }

/-- 08, section 8.8: the log record of an ended passage. -/
def logRecord (p : Passage) (charge : Nat) (removed : Bool) (now : Clock) : LogRec where
  number := p.number
  mark := p.mark
  dir := p.dir
  cls := p.cls
  length := p.length
  tonnes := p.tonnes
  payment := p.payment
  fee := charge
  basis := if removed then ⟨false, false, false⟩ else p.basis.getD ⟨false, false, false⟩
  clockUnset := p.arrival.unset || (p.berthedAt.any (·.unset)) || now.unset
  removed := removed
  arrival := p.arrival
  berthedAt := p.berthedAt
  ended := now

/-- 08/R152: a record appended at the tail of the log. -/
def appendLog (r : LogRec) (b : Books) : Books := { b with log := b.log ++ [r] }

end Sys2Proof.Machine
end

