-- ==== Sys2Proof/Machine/Queue.lean ====
section
/-! DEFINITION. The Passage Queue (spec 05): changes of state and ends of passages with their reports, the passage
number counter, and the depth and account checks of a formation. -/

namespace Sys2Proof.Machine

/-- 05/R91 and 11/R183: the cause codes of PASSAGE_STATE. -/
inductive PassCause where
  | formation
  | depth
  | account
  | missed
  | waved
  | start
  | movement
  | acceptance
  deriving DecidableEq, Repr

/-- 11/R183. -/
def PassCause.code : PassCause → Nat
  | .formation => 0
  | .depth => 1
  | .account => 2
  | .missed => 3
  | .waved => 4
  | .start => 5
  | .movement => 6
  | .acceptance => 7

/-- 05/R82: the queue position of a passage, 1 for the oldest. -/
def queuePosition (ps : List Passage) (n : Nat) : Nat := (ps.findIdx fun p => p.number == n) + 1

/-- 05/R91, 11/R183: PASSAGE_STATE of the passage with a number; `old` is 0xFF for a new passage. Its fields
are those of R91 in the layout that R183 counts out; the committed amount is none of them (log 51). -/
def passageReport (v : Base) (n old : Nat) (c : PassCause) (f : Flow) : Flow :=
  match f.toPlant.passage? n with
  | none => f
  | some p =>
    raiseTo (some p.origin) v .passage 0x20
      (u4 p.number ++ p.mark ++ u1 old ++ u1 p.st.code ++ u1 (queuePosition f.passages n) ++ opt1 p.batch
        ++ opt1 p.chamber ++ u1 c.code) f

/-- 05/R91: a passage changes its state. -/
def changePassage (v : Base) (n : Nat) (c : PassCause) (fn : Passage → Passage) (f : Flow) : Flow :=
  match f.toPlant.passage? n with
  | none => f
  | some p => passageReport v n p.st.code c (setPassage n fn f)

/-- 05/R91, R94: a passage ends: PASSAGE_ENDED with the outcome, the charge and the state it ended from; the record
leaves the list. The Scheduler is told (06/R100). -/
def endPassage (v : Base) (p : Passage) (e : PassEnd) (charge : Nat) (f : Flow) : Flow :=
  askOpportunity
    (raiseTo (some p.origin) v .passage 0x21 (u4 p.number ++ p.mark ++ u1 e.code ++ u4 charge ++ u1 p.st.code)
      { f with passages := f.passages.filter fun x => x.number ≠ p.number })

/-- 05/R83: the next value of the counter. -/
def nextNumber (n : Nat) : Nat := if n = 4294967295 then 1 else n + 1

/-- 05/R83: the counter advanced past every number an open passage carries; 33 steps pass over 32 numbers. -/
def advanceNumber (used : List Nat) : Nat → Nat → Nat
  | 0, n => n
  | k + 1, n => if used.contains (nextNumber n) then advanceNumber used k (nextNumber n) else nextNumber n

/-! ## The formation check -/

/-- 05/R87: the depth available, none while a reach level is not usable. -/
def depthAvailable (v : Base) : Option Int :=
  let dn := v.scanner.bodies.nth 0
  let up := v.scanner.bodies.nth 4
  match dn.status.usable && up.status.usable, dn.level, up.level with
  | true, some a, some b =>
    some (min (a - v.settings.sill0) (min (b - v.settings.sill3) v.settings.minInnerDepth))
  | _, _, _ => none

/-- 05/R87: the depth check of a passage. -/
def depthPasses (v : Base) (p : Passage) : Bool :=
  match depthAvailable v with
  | none => false
  | some d => decide (((p.draught + v.settings.keelMargin : Nat) : Int) ≤ d)

/-- 05, section 5.3: the states a passage waits in. -/
def PassSt.waits : PassSt → Bool
  | .waiting | .heldDepth | .heldAccount => true
  | _ => false

/-- 05/R89: the outcome of the formation check of a passage. -/
def checkedState (v : Base) (f : Plant) (p : Passage) : PassSt :=
  if !depthPasses v p then .heldDepth else if !accountPasses v f p then .heldAccount else .waiting

/-- 05/R89: the cause of the state the check gives; a return to WAITING carries formation (log 75). -/
def checkedCause : PassSt → PassCause
  | .heldDepth => .depth
  | .heldAccount => .account
  | _ => .formation

/-- 05/R89: the formation check of one passage. -/
def checkPassage (v : Base) (n : Nat) (f : Flow) : Flow :=
  match f.toPlant.passage? n with
  | none => f
  | some p =>
    let st := checkedState v f.toPlant p
    if p.st.waits = false ∨ st = p.st then f
    else changePassage v n (checkedCause st) (fun p => { p with st := st }) f

/-- 05/R89: the formation check of every waiting or held passage, in arrival order. -/
def formationCheck (v : Base) (f : Flow) : Flow :=
  overAll (f.passages.map (·.number)) (checkPassage v) f

/-- 05/R89: the eligible passages, in arrival order, as of the check just made. -/
def eligible (f : Plant) : List Passage := f.passages.filter fun p => p.st == .waiting

end Sys2Proof.Machine
end

