-- ==== Sys2Proof/Machine/Tracker.lean ====
section
/-! DEFINITION. The Lockage Tracker (spec 07): batches created, carried through their steps, held, re-entered and ended,
members moved and missed, close errands, and the keeper's confirmations. -/

namespace Sys2Proof.Machine

/-! ## Reports and small changes -/

/-- 07/R119: each member with its state: a count, then the number and the state of each (log 14). -/
def memberFields (f : Plant) (b : Batch) : List Byte :=
  u1 b.members.length
    ++ b.members.flatMap fun m => u4 m.number ++ u1 (((f.memberSt m).map PassSt.code).getD 0xFF)

/-- 07/R119: the report BATCH_STEP of the batch with an id. The held step and the causes, which the rule lists where the
batch is HELD, are sent of every batch, 0xFF and 0 of one that is not (log 14). -/
def stepReport (v : Base) (id : Nat) (f : Flow) : Flow :=
  match f.toPlant.batch? id with
  | none => f
  | some b =>
    raise v .passage 0x24
      (u1 b.id ++ u1 b.dir.code ++ u1 b.step.code ++ optFF (b.heldStep.map Step.code) ++ b.causes.bytes
        ++ opt1 b.chamber ++ opt1 b.target ++ memberFields f.toPlant b) f

/-- 07/R129: the report BATCH_HELD: the batch, the held step and the causes. -/
def heldReport (v : Base) (id : Nat) (f : Flow) : Flow :=
  match f.toPlant.batch? id with
  | none => f
  | some b => raise v .alarm 0x0B (u1 b.id ++ optFF (b.heldStep.map Step.code) ++ b.causes.bytes) f

/-- 07/R126: the report BERTH_OVERDUE: the batch, and the members not yet berthed (a count, then their numbers). -/
def overdueReport (v : Base) (b : Batch) (f : Flow) : Flow :=
  let late := b.members.filter fun m => f.toPlant.memberSt m == some .shifting
  raise v .alarm 0x0A (u1 b.id ++ u1 late.length ++ late.flatMap fun m => u4 m.number) f

/-- Every berthed flag cleared. -/
def Batch.clearFlags (b : Batch) : Batch := { b with members := b.members.map fun m => { m with flag := false } }

/-- One member's berthed flag set. -/
def Batch.setFlag (n : Nat) (b : Batch) : Batch :=
  { b with members := b.members.map fun m => if m.number = n then { m with flag := true } else m }

/-- Every berthed flag is set, and there is one. -/
def Batch.allBerthed (b : Batch) : Bool := !b.members.isEmpty && b.members.all (·.flag)

/-- 07/R126: some member is still SHIFTING. -/
def anyShifting (f : Plant) (b : Batch) : Bool := b.members.any fun m => f.memberSt m == some .shifting

/-- A change of step (07, section 7.2), with BATCH_STEP. -/
def enterStep (v : Base) (id : Nat) (st : Step) (f : Flow) : Flow :=
  stepReport v id (setBatch id (fun b => { b with step := st, heldStep := none, causes := HeldCauses.none,
                                                  stepStart := v.elapsed }) f)

/-! ## Ends of batches and errands (07/R134) -/

/-- 07/R134: every head the batch holds is released. -/
def releaseHeads (v : Base) (id : Nat) (f : Flow) : Flow := overAll allHeads (releaseHead v id) f

/-- 07/R134: the batch's own levelling is cancelled. -/
def cancelOwn (v : Base) (b : Batch) (f : Flow) : Flow :=
  match b.own with
  | none => f
  | some (g, p) => cancelFor v g p f

/-- The pending gate requests of an ended batch are withdrawn (log 24). -/
def withdrawAsks (id : Nat) (f : Flow) : Flow :=
  overAll allGates (fun g f =>
    setGate g (fun x => if x.ask = some (.openFor id) ∨ x.ask = some (.closeFor id) then { x with ask := none } else x) f) f

/-- 07/R134: a close errand on a gate the ended batch owns: a CLOSE that is neither taken nor refused waits as the
errand; otherwise the gate is RELEASEd. -/
def closeErrand (v : Base) (id : Nat) (g : Fin 4) (f : Flow) : Flow :=
  match askClose v id g f with
  | (.refused, f) => releaseGate v id g f
  | (.accepted, f) =>
    if (f.gates.nth g).ask = some (.closeFor id) then { f with errands := f.errands.put g (some id) }
    else releaseGate v id g f

/-- 07/R134: a gate the batch owns, at an ending other than REMOVED. -/
def partGate (v : Base) (id : Nat) (g : Fin 4) (f : Flow) : Flow :=
  let x := f.gates.nth g
  if x.owner ≠ .batch id then f
  else if x.st = .shut then releaseGate v id g f
  else closeErrand v id g f

/-- 07/R134: the gates the ended batch owned and left with the keeper, or left open. -/
def gatesLeft (id : Nat) (before after : Flow) : List Bool :=
  allGates.map fun g =>
    let x := after.gates.nth g
    (before.gates.nth g).owner == .batch id &&
      (x.owner == .keeper || (after.regime.mode == .manual && x.st != .shut && x.st != .closing))

/-- 07/R134: a batch ends: heads released, own levelling cancelled, its gates released, yielded or closed, the record
deleted, the Scheduler told, and BATCH_ENDED with the id, the ending, the chamber and the gates left, bit g for gate g of
one byte that is always sent (log 14). -/
def endBatch (v : Base) (id : Nat) (e : BatchEnd) (f : Flow) : Flow :=
  match f.toPlant.batch? id with
  | none => f
  | some b =>
    let f := withdrawAsks id (cancelOwn v b (releaseHeads v id f))
    let g := if e = .removed then overAll allGates (yieldGate v id) f else overAll allGates (partGate v id) f
    let left := gatesLeft id f g
    askOpportunity
      (raise v .passage 0x25 (u1 id ++ u1 e.code ++ opt1 b.chamber ++ bits1 left)
        { g with batches := g.batches.filter fun x => x.id ≠ id })

/-- 07/R132, R133, R134: a member leaves its batch; a batch that loses its last member ends. -/
def leaveBatch (v : Base) (id n : Nat) (e : BatchEnd) (f : Flow) : Flow :=
  let f := setBatch id (fun b => { b with members := b.members.filter fun m => m.number ≠ n }) f
  match f.toPlant.batch? id with
  | some b => if b.members.isEmpty then endBatch v id e f else f
  | none => f

/-- A passage's batch loses it. -/
def leaveItsBatch (v : Base) (p : Passage) (e : BatchEnd) (f : Flow) : Flow :=
  match p.batch with
  | none => f
  | some id => leaveBatch v id p.number e f

/-- 07/R134: an errand ends when its CLOSE has been taken, refused or discarded. -/
def errandRound (v : Base) (f : Flow) : Flow :=
  overAll allGates (fun g f =>
    match f.errands.nth g with
    | none => f
    | some id =>
      if (f.gates.nth g).ask = some (.closeFor id) then f
      else releaseGate v id g { f with errands := f.errands.put g none }) f

/-! ## Holding and re-entering (07/R129, R130) -/

/-- The held causes of 07, section 7.1. -/
inductive HeldCause where
  | gate
  | levelling
  | green
  | stopSignal
  | overdue
  deriving DecidableEq, Repr

/-- The cause is in the set. -/
def HeldCauses.has (s : HeldCauses) : HeldCause → Bool
  | .gate => s.gate
  | .levelling => s.levelling
  | .green => s.green
  | .stopSignal => s.stopSignal
  | .overdue => s.overdue

/-- The set with a cause put in or taken out. -/
def HeldCauses.put (s : HeldCauses) (c : HeldCause) (x : Bool) : HeldCauses :=
  match c with
  | .gate => { s with gate := x }
  | .levelling => { s with levelling := x }
  | .green => { s with green := x }
  | .stopSignal => { s with stopSignal := x }
  | .overdue => { s with overdue := x }

/-- 07/R129: a batch meets a cause. On entry to HELD the step is recorded and BATCH_STEP and BATCH_HELD are raised; a
further cause raises BATCH_HELD again. The berth timer stops unless the cause is OVERDUE, also at a further cause of a batch
held for OVERDUE, whose timer still runs (log 63); a pending OPEN is withdrawn. -/
def hold (v : Base) (id : Nat) (c : HeldCause) (f : Flow) : Flow :=
  match f.toPlant.batch? id with
  | none => f
  | some b =>
    if b.step = .held ∧ b.causes.has c then f
    else
      let first := decide (b.step ≠ .held)
      let f := setBatch id (fun b => { b with
        step := .held, heldStep := if first then some b.step else b.heldStep, causes := b.causes.put c true,
        stepStart := if first then v.elapsed else b.stepStart,
        berth := if c = .overdue then b.berth else b.berth.pause v.elapsed }) f
      let f := overAll allGates (withdrawOpen id) f
      heldReport v id (if first then stepReport v id f else f)

/-- 07/R130: a gate is out of FAULT and owned by no one or by this batch. -/
def gateFree (f : Plant) (b : Batch) (g : Fin 4) : Bool :=
  (f.gates.nth g).st != .fault && ((f.gates.nth g).owner == .none || (f.gates.nth g).owner == .batch b.id)

/-- 07/R130: no member has yet moved through the next gate. -/
def noneMoved (f : Plant) (b : Batch) : Bool :=
  b.members.all fun m => !m.flag && f.memberSt m == some .berthed

/-- 07/R130: the gates stand as the re-entry of a step requires. SHIFTING and LEAVING ask for the next gate alone, also
where they are re-entered as WAITING_AHEAD (log 70). -/
def gatesStand (f : Plant) (b : Batch) (s : Step) : Bool :=
  let st (g : Fin 4) : GateSt := (f.gates.nth g).st
  match s with
  | .entering => st b.behind == .shut || st b.behind == .opening || st b.behind == .opened
  | .sealing => st b.behind != .fault
  | .waitingAhead | .levellingAhead => st b.behind == .shut && st b.ahead == .shut
  | .openingAhead =>
    st b.behind == .shut && (st b.ahead == .shut || st b.ahead == .opening || st b.ahead == .opened)
  | .shifting | .leaving => st b.ahead == .opened || (st b.ahead == .shut && noneMoved f b)
  | .held | .unresolved => true

/-- 07/R130: the test of the gates of a step. -/
def gatesReady (f : Plant) (b : Batch) (s : Step) : Bool :=
  gatesStand f b s && (match b.moves s with | some g => gateFree f b g | none => true)

/-- 07/R124: the batch's own levelling is the AHEAD one of its next gate. -/
def Batch.ownsAhead (b : Batch) : Bool := b.own == some (b.ahead, .ahead b.id)

/-- 07/R130: the step that a re-entry of a step leads to. -/
def reentered (f : Plant) (b : Batch) (s : Step) : Step :=
  match s with
  | .levellingAhead => if b.ownsAhead then .levellingAhead else .waitingAhead
  | .openingAhead => if (f.gates.nth b.ahead).st = .shut ∧ b.ownsAhead = false then .waitingAhead else .openingAhead
  | .shifting | .leaving => if (f.gates.nth b.ahead).st = .shut then .waitingAhead else s
  | s => s

/-- 07/R119, R135, R136: the Tracker works a batch while the mode is AUTO and the flight is not STOOD_DOWN. -/
def trackerWorks (f : Plant) : Bool := f.regime.mode == .auto && f.regime.condition != .stoodDown

/-- 07/R120, 02/R38: a change of the batches, and what it does to the sluices: for each chamber whose occupant list it
makes non-empty, a sluice of its two gates that is commanded to 4 is commanded to 3. -/
def tellOccupied (v : Base) (change : Flow → Flow) (f : Flow) : Flow :=
  let g := change f
  overAll [(1 : Fin 5), 2, 3] (fun k h =>
    if (f.toPlant.occupants k.val).isEmpty && !(g.toPlant.occupants k.val).isEmpty then
      overAll (gatesOf k) (reduceSluice v) h
    else h) g

/-! ## Levellings asked for a batch (07/R121, R124) -/

/-- A levelling asked for a batch and, where it is taken, recorded as its own. The record holds one: another one that
still stands in it, an ENTRY whose gate was never opened, is cancelled (log 47). -/
def askOwn (v : Base) (b : Batch) (g : Fin 4) (p : Purpose) (f : Flow) : Flow :=
  match requestLevelling v g p f with
  | (.refused _, f) => f
  | (.taken, f) =>
    setBatch b.id (fun b => { b with own := some (g, p) }) (if b.own = some (g, p) then f else cancelOwn v b f)

/-- 07/R124: the AHEAD levelling asked, unless the channel is in LEVEL for the keeper. -/
def askAhead (v : Base) (id : Nat) (f : Flow) : Flow :=
  match f.toPlant.batch? id with
  | none => f
  | some b =>
    let c := f.channels.nth b.ahead
    if b.ownsAhead ∨ (c.st = .level ∧ c.req = some .keeper) then f
    else askOwn v b b.ahead (.ahead id) f

/-- 07/R124: the next chamber is claimed when its occupant list is empty; then, or at once in the last chamber, the
AHEAD levelling is asked. The test is made on entry and whenever the Tracker works the step, in no other case (log 79). -/
def claimAhead (v : Base) (id : Nat) (f : Flow) : Flow :=
  match f.toPlant.batch? id with
  | none => f
  | some b =>
    match b.target, b.dir.nextChamber b.at_ with
    | none, some k =>
      if (f.toPlant.occupants k).isEmpty ∧ (f.toPlant.batchIn? k).isNone then
        askAhead v id (tellOccupied v (setBatch id fun b => { b with target := some k }) f)
      else f
    | _, _ => askAhead v id f

/-! ## Entry to a step -/

/-- 07/R121, R124, R125, R126: the actions on entry to a step, and on its re-entry (R130). Those that also fall due
later in the step are taken by the step itself. -/
def entryActions (v : Base) (id : Nat) (st : Step) (f : Flow) : Flow :=
  match f.toPlant.batch? id with
  | none => f
  | some b =>
    let lost := match b.headOf st with | some h => (f.heads.nth h).lostRed | none => false
    match st with
    | .entering =>
      if lost then hold v id .stopSignal f
      else setBatch id (fun b => { b with berth := ⟨0, some v.elapsed⟩ }) f
    | .openingAhead => if lost then hold v id .stopSignal f else f
    | .waitingAhead => claimAhead v id f
    | .shifting =>
      if anyShifting f.toPlant b then
        setBatch id (fun b => { b with berth := ⟨b.berth.value v.elapsed, some v.elapsed⟩ }) f
      else f
    | _ => f

/-- A new step with its entry actions. -/
def goStep (v : Base) (id : Nat) (st : Step) (f : Flow) : Flow := entryActions v id st (enterStep v id st f)

/-- 07/R125: the OPEN of the next gate withdrawn where it is still pending, and the next head released. -/
def leaveAhead (v : Base) (b : Batch) (f : Flow) : Flow :=
  setBatch b.id (fun b => { b with waved := false })
    (releaseHead v b.id (b.dir.headAt b.ahead) (withdrawOpen b.id b.ahead f))

/-- 07/R130: a batch re-enters a step: one that fails the test of its gates is held with cause GATE. BATCH_STEP is
raised for the re-entry from HELD, and where the step changes; the same step re-entered from no hold keeps its step start
time (log 74). A step that falls back to WAITING_AHEAD leaves its OPEN and its head as R125 has it. -/
def reenter (v : Base) (id : Nat) (f : Flow) : Flow :=
  match f.toPlant.batch? id with
  | none => f
  | some b =>
    let s := b.effective
    if b.step = .unresolved then f
    else if gatesReady f.toPlant b s = false then hold v id .gate f
    else
      let s' := reentered f.toPlant b s
      let f := if s' = .waitingAhead ∧ s ≠ s' then leaveAhead v b f else f
      if b.step ≠ s' then goStep v id s' f else entryActions v id s' f

/-! ## The causes of holding -/

/-- 07/R129: the batch's head shows the staged green. -/
def showsGreen (x : Head) (id : Nat) : Bool := x.holder == .batch id && !x.pending && !x.shown.stopping

/-- 07/R124: the batch follows the keeper's channel of the next gate: in LEVEL without a request, and through the later
changes of that levelling while the batch is in LEVELLING_AHEAD. -/
def followsKeeper (b : Batch) (c : Channel) : Bool :=
  c.req == some .keeper && (c.st == .level || b.effective == .levellingAhead)

/-- 07/R121, R125, R129: a cause that the batch meets in its step (or held step) as the flight now stands. A keeper's
levelling that a batch without an own one follows into FAILED is cause LEVELLING too (07/R124; log 57). -/
def meets (f : Plant) (b : Batch) (c : HeldCause) : Bool :=
  let s := b.effective
  match c with
  | .gate =>
    (match b.moves s with
    | some g => (f.gates.nth g).st == .fault || (f.gates.nth g).owner == .keeper
    | none => false)
  | .levelling =>
    (match b.own with
    | some (g, p) => (f.channels.nth g).st == .failed && (f.channels.nth g).req == some p
    | none =>
      let c := f.channels.nth b.ahead
      c.st == .failed && followsKeeper b c)
  | .green =>
    (match b.headOf s with
    | some h =>
      let x := f.heads.nth h
      x.holder == .batch b.id && x.pending && !x.good.gn && !x.waved
    | none => false)
  | .stopSignal =>
    (match b.headOf s, b.moves s with
    | some h, some g =>
      (s == .entering || s == .openingAhead) && (f.heads.nth h).lostRed
        && ((f.gates.nth g).ask == some (.openFor b.id) || (f.gates.nth g).st == .opening)
    | _, _ => false)
  | .overdue => false

/-- 07/R129, R131: a held cause is resolved as the flight now stands. -/
def resolved (f : Plant) (b : Batch) (c : HeldCause) : Bool :=
  let s := b.effective
  match c with
  | .gate => gatesReady f b s
  | .levelling => !meets f b .levelling
  | .green =>
    (match b.headOf s with
    | some h => (f.heads.nth h).waved || showsGreen (f.heads.nth h) b.id
    | none => true)
  | .stopSignal =>
    (match b.headOf s with
    | some h => !(f.heads.nth h).lostRed
    | none => true)
  | .overdue => !anyShifting f b

/-- The causes, in the order of the bits of 11, section 11.4; of several met at once each is taken in this order (log 8). -/
def allCauses : List HeldCause := [.gate, .levelling, .green, .stopSignal, .overdue]

/-- 07/R124, R136: an own levelling that the channel no longer works for the batch becomes absent. -/
def followOwn (id : Nat) (f : Flow) : Flow :=
  match f.toPlant.batch? id with
  | none => f
  | some b =>
    match b.own with
    | some (g, p) =>
      if (f.channels.nth g).req = some p then f else setBatch id (fun b => { b with own := none }) f
    | none => f

/-- 07/R131: the WAVED flag is cleared when the batch no longer holds a head. -/
def followWaved (id : Nat) (f : Flow) : Flow :=
  match f.toPlant.batch? id with
  | none => f
  | some b =>
    if b.waved && !(allHeads.any fun h => (f.heads.nth h).holder == .batch id) then
      setBatch id (fun b => { b with waved := false }) f
    else f

/-- 07/R129, R135, R136: the causes met are added, the resolved ones taken out; with OVERDUE the overdue timer stops. A
batch that is not HELD is put into HELD only while the Tracker works it: in MANUAL and while frozen it keeps its step, and
a cause that lasts is met at its re-entry (log 23). -/
def followCauses (v : Base) (id : Nat) (f : Flow) : Flow :=
  overAll allCauses (fun c f =>
    match f.toPlant.batch? id with
    | none => f
    | some b =>
      if b.step = .unresolved then f
      else if meets f.toPlant b c then
        (if b.step = .held ∨ (trackerWorks f.toPlant ∧ b.frozen = false) then hold v id c f else f)
      else if b.step = .held ∧ b.causes.has c ∧ resolved f.toPlant b c then
        setBatch id (fun b => { b with causes := b.causes.put c false,
                                       overdue := if c = .overdue then none else b.overdue }) f
      else f) f

/-! ## The steps -/

/-- The Tracker stages an aspect on a head that does not already carry it for the batch. -/
def wantAspect (v : Base) (id : Nat) (h : Fin 8) (a : Aspect) (f : Flow) : Flow :=
  let x := f.heads.nth h
  if x.staged = a ∧ x.holder = .batch id then f else stageFor v id h a f

/-- 07/R123: ENTERING or SHIFTING ends with every member berthed: the head is released and the batch seals the gate
behind, after a shift from the chamber ahead (R126). The Scheduler is told where the entry chamber of its direction has
become empty (R120). -/
def sealStep (v : Base) (id : Nat) (h : Fin 8) (f : Flow) : Flow :=
  let f := releaseHead v id h f
  let entry := f.sched.dir.entryChamber
  let g := setBatch id (fun b =>
    { b.clearFlags with
      berth := ⟨0, none⟩, waved := false,
      chamber := if b.target.isSome then b.target else b.chamber, target := none }) f
  let left := !(f.toPlant.occupants entry).isEmpty && (g.toPlant.occupants entry).isEmpty
  goStep v id .sealing (if left then askOpportunity g else g)

/-- 07/R121: the OPEN of the entry gate, after an ENTRY levelling where the gate is SHUT and its channel IDLE; one that the
channel refuses is asked again in every round the step is worked (log 39). The gate of a head without its stopping signal
is not opened (04/R74). -/
def workEntryGate (v : Base) (b : Batch) (h : Fin 8) (f : Flow) : Flow :=
  let g := b.behind
  let x := f.gates.nth g
  let c := f.channels.nth g
  match x.st with
  | .shut =>
    if c.st = .idle then
      askOwn v b g .entry (withdrawOpen b.id g f)
    else if b.own = some (g, .entry) ∧ c.st ≠ .level then f
    else if x.ask = some (.openFor b.id) then f
    else if (f.heads.nth h).lostRed then hold v b.id .stopSignal f
    else (askOpen v b.id g f).2
  | .opening | .opened => if x.owner = .batch b.id then f else (askOpen v b.id g f).2
  | _ => f

/-- 07/R121, R125: the Gate and Sluice Unit refuses the batch's OPEN of a gate: another owns it, as the close errand of
an ended batch does, or it is in FAULT, CLOSING or STOPPED (02/R24). The step then waits, and asks again when that has
ended. -/
def openRefused (f : Plant) (b : Batch) (g : Fin 4) : Bool :=
  !gateFree f b g || (f.gates.nth g).st == .closing || (f.gates.nth g).st == .stopped

/-- 07/R121, R123: the step ENTERING. While its OPEN is refused, or once it is HELD, it stages nothing. An OPEN of the
entry gate still pending when every member is BERTHED is withdrawn (log 56). -/
def workEntering (v : Base) (b : Batch) (h : Fin 8) (f : Flow) : Flow :=
  if b.allBerthed then sealStep v b.id h (withdrawOpen b.id b.behind f)
  else
    let f := workEntryGate v b h f
    if openRefused f.toPlant b b.behind || (f.toPlant.batch? b.id).any (fun b => b.step == .held) then f
    else wantAspect v b.id h (if (f.gates.nth b.behind).st = .opened then .go else .prepare) f

/-- 07/R123, R129: the step SEALING; a CLOSE refused, as by a gate that another batch's errand owns, is cause GATE. -/
def workSealing (v : Base) (b : Batch) (f : Flow) : Flow :=
  let g := b.behind
  let x := f.gates.nth g
  if x.st = .shut then goStep v b.id .waitingAhead (releaseGate v b.id g f)
  else if x.ask = some (.closeFor b.id) then f
  else
    match askClose v b.id g f with
    | (.accepted, f) => f
    | (.refused, f) => hold v b.id .gate f

/-- 07/R124: the steps WAITING_AHEAD and LEVELLING_AHEAD follow the channel of the next gate. A refused request is made
again at the end of each scan. A followed channel that falls back to WAITING_WATER leaves the step LEVELLING_AHEAD (log
67). -/
def workAhead (v : Base) (b : Batch) (f : Flow) : Flow :=
  let c := f.channels.nth b.ahead
  let go (s : Step) : Flow := if b.step = s then f else goStep v b.id s f
  let mine := b.ownsAhead || followsKeeper b c
  if !mine then
    if b.step = .levellingAhead then goStep v b.id .waitingAhead f
    else if b.target.isNone ∧ (b.dir.nextChamber b.at_).isSome then claimAhead v b.id f
    else if f.scanEnd then askAhead v b.id f
    else f
  else if b.target.isNone ∧ (b.dir.nextChamber b.at_).isSome then claimAhead v b.id f
  else
    match c.st with
    | .running | .holding | .suspended => go .levellingAhead
    | .level => goStep v b.id .openingAhead f
    | _ => f

/-- 07/R121, R125: the step OPENING_AHEAD. While its OPEN is refused it waits: it stages nothing and does not go on. -/
def workOpening (v : Base) (b : Batch) (h : Fin 8) (f : Flow) : Flow :=
  let g := b.ahead
  let x := f.gates.nth g
  let c := f.channels.nth g
  let back (s : Step) : Flow := goStep v b.id s (leaveAhead v b f)
  let refused := openRefused f.toPlant b g
  match x.st with
  | .opened =>
    if refused then f
    else
      let f := wantAspect v b.id h .go (if x.owner = .batch b.id then f else (askOpen v b.id g f).2)
      goStep v b.id (if g = b.dir.exitGate then .leaving else .shifting) f
  | .shut =>
    if c.st = .idle then back .waitingAhead
    else if c.st ≠ .level then back .levellingAhead
    else if (f.heads.nth h).lostRed then hold v b.id .stopSignal f
    else if refused then f
    else
      let f := if x.ask = some (.openFor b.id) then f else (askOpen v b.id g f).2
      wantAspect v b.id h .prepare f
  | .opening =>
    if refused then f else wantAspect v b.id h .prepare (if x.owner = .batch b.id then f else (askOpen v b.id g f).2)
  | _ => f

/-- 07/R125: the members of a batch authorised through the next gate move, with cause WAVED where the keeper waved
them; in SHIFTING the berth timer starts from zero, and stands there while the mode is MANUAL (R126; log 52). -/
def moveMembers (v : Base) (b : Batch) (waved : Bool) (f : Flow) : Flow :=
  let ready := b.members.filter fun m => !m.flag && f.toPlant.memberSt m == some .berthed
  if ready.isEmpty then f
  else
    let cause := if waved then PassCause.waved else .movement
    let fn (p : Passage) : Passage :=
      if b.effective = .leaving then { p with st := .leaving } else { p with st := .shifting, chamber := b.target }
    let timed := if f.regime.mode = .auto then some v.elapsed else none
    let fresh := b.effective = .shifting ∧ anyShifting f.toPlant b = false ∧ (b.members.any (·.flag)) = false
    let f := overAll ready (fun m => changePassage v m.number cause fn) f
    if fresh then setBatch b.id (fun b => { b with berth := ⟨0, timed⟩ }) f else f

/-- 07/R125, R131: the members move on when GO is shown for the batch at its OPEN gate, or at once when it is waved; a
batch that is HELD moves them when no held cause is left (examineBatch; log 52). -/
def passMembers (v : Base) (b : Batch) (h : Fin 8) (f : Flow) : Flow :=
  let y := f.heads.nth h
  let shown := y.holder == .batch b.id && y.shown == .go
  if (f.gates.nth b.ahead).st == .opened && (shown || b.waved) then moveMembers v b (!shown) f else f

/-- 07/R121, R125, R126: the steps SHIFTING and LEAVING; a gate that another owns has them wait. -/
def workPassing (v : Base) (b : Batch) (h : Fin 8) (f : Flow) : Flow :=
  if b.step = .shifting ∧ b.allBerthed then sealStep v b.id h f
  else
    let g := b.ahead
    let x := f.gates.nth g
    if x.st ≠ .opened ∨ openRefused f.toPlant b g then f
    else
      let f := if x.owner = .batch b.id then f else (askOpen v b.id g f).2
      passMembers v b h (wantAspect v b.id h .go f)

/-- 07, section 7.2: a batch that is worked takes what its step gives, as the flight now stands. -/
def workStep (v : Base) (b : Batch) (f : Flow) : Flow :=
  match b.step, b.headOf b.step with
  | .entering, some h => workEntering v b h f
  | .sealing, _ => workSealing v b f
  | .waitingAhead, _ => workAhead v b f
  | .levellingAhead, _ => workAhead v b f
  | .openingAhead, some h => workOpening v b h f
  | .shifting, some h => workPassing v b h f
  | .leaving, some h => workPassing v b h f
  | _, _ => f

/-- 04, section 4.6 (worked sequence): a batch held for GREEN has GO staged when its gate reaches OPEN. -/
def heldGreen (v : Base) (b : Batch) (f : Flow) : Flow :=
  match b.headOf b.effective, b.moves b.effective with
  | some h, some g =>
    if b.causes.green ∧ (f.gates.nth g).st = .opened ∧ (f.heads.nth h).holder = .batch b.id then
      wantAspect v b.id h .go f
    else f
  | _, _ => f

/-- 07/R125, R135: in MANUAL a batch without a held cause keeps its step and makes no request, and its members move when
a GO staged before is shown or the keeper has waved them. -/
def manualStep (v : Base) (b : Batch) (f : Flow) : Flow :=
  match b.effective, b.headOf b.effective with
  | .shifting, some h => passMembers v b h f
  | .leaving, some h => passMembers v b h f
  | _, _ => f

/-- 07/R129, R130, R135, R136: one batch examined: its own levelling and its causes followed in every mode; while the
Tracker works it, a hold without causes ends and the step goes on. While a held cause is left the members stay, also
where a GO staged before comes to be shown (log 52). A batch in WAITING_AHEAD without a target claims an emptied chamber
ahead only here, as its step is worked: not in MANUAL, while frozen or while HELD (log 79). -/
def examineBatch (v : Base) (id : Nat) (f : Flow) : Flow :=
  let f := followCauses v id (followWaved id (followOwn id f))
  match f.toPlant.batch? id with
  | none => f
  | some b =>
    if b.frozen ∨ f.regime.condition = .stoodDown then f
    else if f.regime.mode = .manual then (if b.causes = HeldCauses.none then manualStep v b f else f)
    else if b.step = .held then (if b.causes = HeldCauses.none then reenter v id f else heldGreen v b f)
    else workStep v b f

/-- The Tracker's part of a round; batches in the order of their records, gates by number (log 8). -/
def trackerRound (v : Base) (f : Flow) : Flow :=
  errandRound v (overAll (f.batches.map (·.id)) (examineBatch v) f)

/-! ## Formation (07/R119) -/

/-- 07/R119: the next batch id, past those that batch records and errands carry; 7 steps pass over 3 and 4. -/
def advanceBatch (used : List Nat) : Nat → Nat → Nat
  | 0, n => n
  | k + 1, n =>
    let m := if n = 255 then 1 else n + 1
    if used.contains m then advanceBatch used k m else m

/-- The batch ids in use. -/
def idsInUse (f : Plant) : List Nat := f.batches.map (·.id) ++ allGates.filterMap fun g => f.errands.nth g

/-- 07/R119, 05/R90: a batch created for a direction and its members with their quotes: the members enter CALLED, then
BATCH_STEP is raised and the actions on entry to ENTERING are taken. -/
def createBatch (v : Base) (d : Dir) (ms : List (Nat × Nat)) (f : Flow) : Flow :=
  let id := f.nextBatch
  let b : Batch := {
    id := id, dir := d, members := ms.map fun m => ⟨m.1, false⟩, chamber := some d.entryChamber, target := none,
    step := .entering, heldStep := none, causes := HeldCauses.none, stepStart := v.elapsed, berth := ⟨0, none⟩,
    overdue := none, waved := false, frozen := false, own := none }
  let f := tellOccupied v (fun f => { f with batches := f.batches ++ [b] }) f
  let f := { f with nextBatch := advanceBatch (idsInUse f.toPlant) 9 id }
  let f := overAll ms (fun m => changePassage v m.1 .formation (fun p =>
    { p with st := .called, batch := some id, chamber := some d.entryChamber, committed := some (.quote, m.2) })) f
  entryActions v id .entering (stepReport v id f)

/-! ## Misses (05/R93) -/

/-- A passage taken out of its batch without ending (05/R90). -/
def Passage.uncalled (p : Passage) : Passage :=
  { p with batch := none, chamber := none, committed := none, misses := p.misses + 1, st := .waiting }

/-- 05/R93: a CALLED passage is missed: it returns to WAITING, or ends at its second miss; its reservation is
released. -/
def missPassage (v : Base) (n : Nat) (f : Flow) : Flow :=
  match f.toPlant.passage? n with
  | none => f
  | some p =>
    let f := releaseReserve p f
    let f :=
      if p.misses + 1 < 2 then askOpportunity (changePassage v n .missed Passage.uncalled f)
      else endPassage v { p with misses := p.misses + 1 } .missed 0 f
    leaveItsBatch v p .dissolved f

/-- 07/R122: the members of a batch not yet berthed in ENTERING. -/
def lateMembers (f : Plant) (b : Batch) : List Nat :=
  (b.members.filter fun m => f.memberSt m == some .called).map (·.number)

/-! ## Mode and stand-down (07/R135, R136) -/

/-- 07/R135: on MANUAL the berth timers stop. -/
def pauseBerths (v : Base) (f : Flow) : Flow :=
  { f with batches := f.batches.map fun b => { b with berth := b.berth.pause v.elapsed } }

/-- 07/R136: on STOOD_DOWN each batch takes the frozen mark, and its timers stop. -/
def freezeBatches (v : Base) (f : Flow) : Flow :=
  { f with batches := f.batches.map fun b =>
      { b with frozen := true, berth := b.berth.pause v.elapsed, overdue := none } }

/-- 07/R136: leaving STOOD_DOWN clears the frozen marks. -/
def thawBatches (f : Flow) : Flow := { f with batches := f.batches.map fun b => { b with frozen := false } }

/-- 07/R135, R136: each batch that is neither HELD nor UNRESOLVED re-enters its step. -/
def reenterAll (v : Base) (f : Flow) : Flow :=
  overAll (f.batches.map (·.id)) (fun id f =>
    match f.toPlant.batch? id with
    | none => f
    | some b => if b.step = .held ∨ b.step = .unresolved then f else reenter v id (followOwn id f)) f

end Sys2Proof.Machine
end

