-- ==== Sys2Proof/Machine/Scheduler.lean ====
section
/-! DEFINITION. The Flight Scheduler (spec 06): opportunities, direction and bypassing, entry preparation, packing and
formation, idle hold, draining and turning. Its permits stand in Machine/Levelling.lean. -/

namespace Sys2Proof.Machine

/-- 06/R103: the causes of SCHEDULER_STATE, in the order the rule names them; 0xFF where it names none (log 19). -/
inductive SchedCause where
  | noEligible
  | otherWay
  | priority
  | bypassLimit
  | holdExpired
  | flightEmpty
  | turnLevelled
  | unnamed
  deriving DecidableEq, Repr

/-- 06/R103 (log 14, 19). -/
def SchedCause.code : SchedCause → Nat
  | .noEligible => 0
  | .otherWay => 1
  | .priority => 2
  | .bypassLimit => 3
  | .holdExpired => 4
  | .flightEmpty => 5
  | .turnLevelled => 6
  | .unnamed => 0xFF

/-- 06/R103: a change of scheduler state, with SCHEDULER_STATE: the old and new states, the direction and the cause. -/
def schedTo (v : Base) (st : SchedSt) (c : SchedCause) (f : Flow) : Flow :=
  let old := f.sched.st
  let f := setSched (fun s => { s with st := st, idle := .stopped }) f
  raise v .passage 0x22 (u1 old.code ++ u1 st.code ++ u1 f.sched.dir.code ++ u1 c.code) f

/-! ## Log room (06/R101) -/

/-- 06/R101: the report LOG_FULL: the log count, the member count, and a third byte in both of its uses, 0 where the short
mark is set and 1 where it ends (log 14). -/
def logFullReport (v : Base) (ended : Bool) (f : Flow) : Flow :=
  raise v .alarm 0x09 (u2 v.books.log.length ++ u1 f.toPlant.memberCount ++ b1 ended) f

/-- 06/R101: the short mark is cleared whenever the condition holds again for one member. -/
def followLogRoom (v : Base) (f : Flow) : Flow :=
  if f.sched.short ∧ logRoom v f.toPlant 1 then
    logFullReport v true (setSched (fun s => { s with short := false }) f)
  else f

/-! ## Idle hold (06/R108) -/

/-- 06/R108: the idle-hold timer runs in IDLE_HOLD while the flight is RUNNING and AUTO; it starts again from zero; an
expired one stays expired; an idle hold of 0 is expired at once. -/
def followIdle (v : Base) (f : Flow) : Flow :=
  let t := f.sched.idle
  let want :=
    if f.sched.st ≠ .idleHold then IdleTimer.stopped
    else
      match t with
      | .expired => .expired
      | .stopped =>
        if f.toPlant.works then (if v.settings.idleHold = 0 then .expired else .running v.elapsed) else .stopped
      | .running k => if f.toPlant.works then .running k else .stopped
  if want = t then f
  else
    let f := setSched (fun s => { s with idle := want }) f
    if want = .expired then askOpportunity f else f

/-! ## Turning (06/R109, R110) -/

/-- 06/R110: the TURN levelling asked of the present entry gate; a channel already in LEVEL ends the turn at once, and
leaves the refusal cause as it is (log 48). It does so in every mode and condition (log 58). -/
def askTurn (v : Base) (f : Flow) : Flow :=
  let g := f.sched.dir.entryGate
  if (f.channels.nth g).st = .level then
    schedTo v .serving .turnLevelled (setSched (fun s => { s with prep := .absent }) f)
  else
    match requestLevelling v g .turn f with
    | (.refused why, f) => setSched (fun s => { s with prep := .asked g true false, refusal := some why }) f
    | (.taken, f) => setSched (fun s => { s with prep := .asked g true true, refusal := none }) f

/-- 06/R109: DRAINING is left for TURNING when the flight is empty, RUNNING and AUTO: the direction changes. -/
def turn (v : Base) (f : Flow) : Flow :=
  if f.sched.st = .draining ∧ f.toPlant.flightEmpty ∧ f.toPlant.works then
    askTurn v (schedTo v .turning .flightEmpty (setSched (fun s => { s with dir := s.dir.flip }) f))
  else f

/-- 06/R109: entry to DRAINING: an ENTRY or TURN levelling of the present entry gate is cancelled. -/
def drain (v : Base) (c : SchedCause) (f : Flow) : Flow :=
  let g := f.sched.dir.entryGate
  let f := cancelFor v g .turn (cancelFor v g .entry f)
  schedTo v .draining c (setSched (fun s => { s with prep := .absent }) f)

/-! ## Entry preparation (06/R105, R110) -/

/-- 06/R105, R110; 07/R128: the levelling of the present entry gate is the Scheduler's: a TURN, or an ENTRY that no batch
has recorded as its own. -/
def preparesEntry (f : Plant) : Bool :=
  let g := f.sched.dir.entryGate
  let r := (f.channels.nth g).req
  r == some .turn || (r == some .entry && !(f.batches.any fun b => b.own == some (g, .entry)))

/-- 06/R105, R110; 07/R128: a levelling of the Scheduler's that FAILED, before LEVEL or after it, is cancelled, and the
preparation recorded as failed; a TURN may so fail also after TURNING is left (log 48). -/
def followFailed (v : Base) (f : Flow) : Flow :=
  let g := f.sched.dir.entryGate
  let c := f.channels.nth g
  if c.st = .failed ∧ preparesEntry f.toPlant then
    setSched (fun s => { s with prep := .failed g (c.req == some .turn) v.elapsed }) (cancelChannel v g f)
  else f

/-- 06/R105, R110: the outcome of a preparation that stands asked, and of a levelling that failed after LEVEL. A TURN
levelling that reaches LEVEL ends TURNING in every mode and condition (log 58). -/
def followPrep (v : Base) (f : Flow) : Flow :=
  let f := followFailed v f
  match f.sched.prep with
  | .asked g isTurn true =>
    let c := f.channels.nth g
    if c.req ≠ some (if isTurn then Purpose.turn else .entry) then setSched (fun s => { s with prep := .absent }) f
    else if c.st = .level then
      let f := setSched (fun s => { s with prep := .absent }) f
      askOpportunity (if isTurn then schedTo v .serving .turnLevelled f else f)
    else f
  | _ => f

/-- 06/R110: in TURNING a refused request is made again at the end of each scan, and one cancelled by another when the
flight is RUNNING and AUTO. -/
def followTurn (v : Base) (f : Flow) : Flow :=
  if f.sched.st ≠ .turning then f
  else
    match f.sched.prep with
    | .absent => if f.toPlant.works then askTurn v f else f
    | .asked _ _ false => if f.scanEnd then askTurn v f else f
    | _ => f

/-- 06/R105: the retry interval of a failed preparation has not run. -/
def retryWaits (v : Base) (f : Plant) : Bool :=
  match f.sched.prep with
  | .failed _ _ t => decide (v.elapsed < t + Config.retryInterval)
  | _ => false

/-! ## Packing and formation (06/R106, R107) -/

/-- What a packing holds so far: the members with their quotes, and their occupied length. -/
structure Packing where
  members : List (Nat × Nat)
  length : Nat
  deriving DecidableEq, Repr

/-- 06/R106: the occupied length with a candidate added. -/
def Packing.with_ (k : Packing) (length : Nat) : Nat :=
  if k.members.isEmpty then length else k.length + Config.memberGap + length

/-- 06/R106, R107: one candidate taken: added with its quote reserved, held, or skipped. -/
def packOne (v : Base) (p : Passage) (k : Packing × Flow) : Packing × Flow :=
  let (m, f) := k
  if Config.maxMembers ≤ m.members.length then k
  else if v.settings.flightLength < m.with_ p.length then k
  else if logRoom v f.toPlant (m.members.length + 1) = false then k
  else if accountPasses v f.toPlant p = false then
    (m, changePassage v p.number .account (fun p => { p with st := .heldAccount }) f)
  else
    let q := (quote v f.toPlant p).1
    (⟨m.members ++ [(p.number, q)], m.with_ p.length⟩, reserve p.payment q f)

/-- 06/R106: the candidates of a direction: the priority passages in arrival order, then the others. -/
def candidates (d : Dir) (ps : List Passage) : List Passage :=
  let mine := ps.filter fun p => p.dir == d
  mine.filter (·.priority) ++ mine.filter (!·.priority)

/-- 06/R106: a batch packed from the eligible passages. -/
def pack (v : Base) (ps : List Passage) (f : Flow) : Packing × Flow :=
  (candidates f.sched.dir ps).foldl (fun k p => packOne v p k) (⟨[], 0⟩, f)

/-- 06/R104: the report BYPASSED of O, also on its origin port. -/
def bypassReport (v : Base) (p : Passage) (f : Flow) : Flow :=
  raiseTo (some p.origin) v .passage 0x23 (u4 p.number ++ p.mark ++ u1 (p.bypass + 1) ++ u1 v.settings.bypassLimit) f

/-- 06/R104: a bypass counted to O. -/
def countBypass (v : Base) (o : Option Passage) (f : Flow) : Flow :=
  match o with
  | none => f
  | some p => bypassReport v p (setPassage p.number (fun p => { p with bypass := p.bypass + 1 }) f)

/-- 06/R107: a formation taken whole. -/
def formBatch (v : Base) (ps : List Passage) (bypassed : Option Passage) (f : Flow) : Flow :=
  match pack v ps f with
  | (k, f) =>
    if k.members.isEmpty then f
    else countBypass v bypassed (createBatch v f.sched.dir k.members f)

/-- 06/R105: a decision to form looks at the entry gate's channel. A request taken clears the refusal cause of an earlier
one (log 48). -/
def prepareEntry (v : Base) (ps : List Passage) (bypassed : Option Passage) (f : Flow) : Flow :=
  let g := f.sched.dir.entryGate
  let c := f.channels.nth g
  if c.st = .level then formBatch v ps bypassed f
  else if c.st = .idle then
    match requestLevelling v g .entry f with
    | (.refused why, f) => setSched (fun s => { s with prep := .absent, refusal := some why }) f
    | (.taken, f) => setSched (fun s => { s with prep := .asked g false true, refusal := none }) f
  else f

/-! ## Opportunities (06/R100 to R103, R108) -/

/-- 06/R102: the oldest passage O of the eligible ones. -/
def oldestOf (ps : List Passage) : Option Passage :=
  match ps.find? (·.priority) with
  | some p => some p
  | none => ps.head?

/-- 06/R103: the decision in SERVING. Of two causes for DRAINING the report carries the first of priority, bypass limit
and oldest waiting the other way (log 48). -/
def decideServing (v : Base) (ps : List Passage) (f : Flow) : Flow :=
  match oldestOf ps with
  | none => if f.toPlant.flightEmpty then followIdle v (schedTo v .idleHold .noEligible f) else f
  | some o =>
    if o.dir = f.sched.dir then prepareEntry v ps none f
    else if o.priority then drain v .priority f
    else if v.settings.bypassLimit ≤ o.bypass then drain v .bypassLimit f
    else if ps.any fun p => p.dir == f.sched.dir then prepareEntry v ps (some o) f
    else drain v .otherWay f

/-- 06/R108: the decision in IDLE_HOLD. -/
def decideIdle (v : Base) (ps : List Passage) (f : Flow) : Flow :=
  let expired := f.sched.idle == .expired
  if ps.any fun p => p.dir == f.sched.dir then prepareEntry v ps none (schedTo v .serving .unnamed f)
  else if expired && (!ps.isEmpty || f.sched.dir != v.settings.restDir) then drain v .holdExpired f
  else f

/-- 06/R100: every condition of an opportunity but the log room. -/
def opportunityOpen (v : Base) (f : Plant) : Bool :=
  let g := f.sched.dir.entryGate
  let c := f.channels.nth g
  f.works && (f.sched.st == .serving || f.sched.st == .idleHold)
    && (f.occupants f.sched.dir.entryChamber).isEmpty
    && !((c.req == some .entry || c.req == some .turn) && c.st != .level)
    && !retryWaits v f

/-- 06/R100 to R103, R108: an opportunity taken whole, where its conditions hold; with every condition but the log room,
the short mark is set (R101). -/
def takeOpportunity (v : Base) (f : Flow) : Flow :=
  if opportunityOpen v f.toPlant = false then f
  else if logRoom v f.toPlant 1 = false then
    if f.sched.short then f else logFullReport v false (setSched (fun s => { s with short := true }) f)
  else
    let f := formationCheck v f
    let ps := eligible f.toPlant
    let f := setSched (fun s => { s with
      oldest := (oldestOf ps).map (·.number),
      prep := match s.prep with | .failed _ _ _ => .absent | k => k }) f
    if f.sched.st = .serving then decideServing v ps f else decideIdle v ps f

/-- The Scheduler's part of a round. -/
def schedulerRound (v : Base) (f : Flow) : Flow :=
  let f := followLogRoom v (followTurn v (turn v (followPrep v (followIdle v f))))
  if f.opp then takeOpportunity v { f with opp := false } else f

end Sys2Proof.Machine
end

