-- ==== Sys2Proof/Machine/Regime.lean ====
section
/-! DEFINITION. The Regime Unit (spec 09): causes, mode, the closing deadline, stand-down and resume. -/

namespace Sys2Proof.Machine

/-- 09/R157: the causes of a change, as the model numbers them (log 14). -/
inductive StateCause where
  | start
  | mode
  | flood
  | mains
  | keeper
  | deadline
  | battery
  | resume
  deriving DecidableEq, Repr

/-- Log 14. -/
def StateCause.code : StateCause → Nat
  | .start => 0
  | .mode => 1
  | .flood => 2
  | .mains => 3
  | .keeper => 4
  | .deadline => 5
  | .battery => 6
  | .resume => 7

/-- 11, section 11.4: the cause set as bits FLOOD, MAINS, KEEPER. -/
def Regime.causeByte (r : Regime) : List Byte := bits1 [r.flood, r.mainsCause, r.keeper]

/-- The closing deadline: its state (IDLE 0, RUNNING 1, EXPIRED 2) and the seconds remaining, 0xFFFF when not running
(11/R181; log 14, 15). -/
def Deadline.bytes (d : Deadline) (now : Nat) : List Byte :=
  match d with
  | .idle => u1 0 ++ u2 0xFFFF
  | .running t => u1 1 ++ u2 (secondsLeft now t)
  | .expired => u1 2 ++ u2 0xFFFF

/-- 09/R157: the report FLIGHT_STATE. -/
def flightReport (v : Base) (c : StateCause) (f : Flow) : Flow :=
  let r := f.regime
  raise v .alarm 0x0D
    (u1 r.condition.code ++ r.causeByte ++ u1 r.mode.code ++ r.deadline.bytes v.elapsed ++ u1 c.code) f

/-- 09/R157: one event that changes the regime record: one FLIGHT_STATE where the cause set, the condition, the mode or
the deadline's state changes; the heads held by no one take the rest aspect of a new condition (04/R65), and the
Scheduler examines an opportunity (06/R100). -/
def changeRegime (v : Base) (c : StateCause) (fn : Regime → Regime) (f : Flow) : Flow :=
  let old := f.regime
  let f := setRegime fn f
  if f.regime = old then f
  else
    let f := flightReport v c f
    if f.regime.condition = old.condition then f else askOpportunity (restHeads v f)

/-! ## Causes and the deadline (09/R159, R160) -/

/-- 09/R160: the deadline that MAINS starts: the setting, or 120 s when the battery is LOW and the setting is longer. -/
def startDeadline (v : Base) (low : Bool) : Deadline :=
  let whole := 10 * v.settings.closingDeadline
  .running (v.elapsed + if low then min whole Config.shortDeadline else whole)

/-- 09/R159, R160: the mains-present input has changed. -/
def mainsChanged (v : Base) (f : Flow) : Flow :=
  let present := v.pins.mains
  changeRegime v .mains (fun r =>
    if present then { r with mainsPresent := true, mainsCause := false, deadline := .idle }
    else if r.mainsCause then { r with mainsPresent := false }
    else { r with mainsPresent := false, mainsCause := true, deadline := startDeadline v r.batteryLow }) f

/-- 09/R160: the battery-low input has changed: BATTERY with the reading and the deadline, and a deadline with more
than 120 s remaining shortened to 120 s, with FLIGHT_STATE. -/
def batteryChanged (v : Base) (f : Flow) : Flow :=
  let low := v.pins.batteryLow
  let f := setRegime (fun r => { r with batteryLow := low }) f
  let short :=
    match f.regime.deadline with
    | .running t => low && decide (v.elapsed + Config.shortDeadline < t)
    | _ => false
  let g := if short then setRegime (fun r => { r with deadline := .running (v.elapsed + Config.shortDeadline) }) f else f
  let g := raise v .alarm 0x0E (b1 low ++ g.regime.deadline.bytes v.elapsed) g
  if short then flightReport v .battery g else g

/-- 09/R159: FLOOD added to or removed from the cause set. -/
def floodSignal (v : Base) (raised : Bool) (f : Flow) : Flow :=
  changeRegime v .flood (fun r => { r with flood := raised }) f

/-- 09/R161: KEEPER added to or removed from the cause set. -/
def keeperCause (v : Base) (x : Bool) (f : Flow) : Flow := changeRegime v .keeper (fun r => { r with keeper := x }) f

/-! ## Stand-down (09/R162, R163) -/

/-- 09/R163: a gate or sluice moved to the left list with a reason, in place of the entry it may have there. The list
is sent in this order: a new entry, and one whose reason changes, at the tail (log 71). -/
def addLeft (sluice : Bool) (g : Fin 4) (r : LeftReason) (f : Flow) : Flow :=
  setRegime (fun x => { x with
    left := (x.left.filter fun e => e.sluice != sluice || e.index != g) ++ [⟨sluice, g, r⟩] }) f

/-- The progress record changed, where there is one. -/
def setProgress (fn : Progress → Progress) (f : Flow) : Flow :=
  setRegime (fun r => { r with progress := r.progress.map fn }) f

/-- 09/R162, items 2 and 3: a sluice that is above 0 or commanded so, or whose channel was just cancelled (`was`), is
commanded to 0 and awaited; one in FAULT goes on the left list. -/
def standDownSluice (v : Base) (was : Tbl 4 Bool) (g : Fin 4) (f : Flow) : Flow :=
  let x := f.sluices.nth g
  let worked := was.nth g || decide (x.pos ≠ 0) || decide (x.cmd ≠ 0)
  if !worked then f
  else if x.st = .fault then addLeft true g .fault f
  else
    let f := commandSluice v g 0 f
    let y := f.sluices.nth g
    if y.st = .steady ∧ y.pos = 0 then f else setProgress (fun p => { p with sluices := p.sluices.put g true }) f

/-- 09/R162, item 4: why a gate that is not SHUT is left; of several reasons, the first in the order of the rule
(log 59). -/
def leftReason (v : Base) (f : Plant) (g : Fin 4) : Option LeftReason :=
  let x := f.gates.nth g
  if v.pins.beam.nth g then some .beam
  else if f.passingSet.nth g then some .shifting
  else if x.st = .fault then some .fault
  else if x.hold then some .held
  else none

/-- 02/R31, 09/R162: a Regime close sent; the gate is awaited while a stand-down is in progress, its entry on the left
list kept where it has one (log 36), or left REFUSED. -/
def sendClose (v : Base) (g : Fin 4) (f : Flow) : Flow :=
  match regimeClose v g f with
  | (.accepted, f) => setProgress (fun p => { p with gates := p.gates.put g true }) f
  | (.refused, f) => if f.regime.progress.isSome then addLeft false g .refused f else f

/-- 09/R162, item 4: one gate judged. -/
def standDownGate (v : Base) (g : Fin 4) (f : Flow) : Flow :=
  if (f.gates.nth g).st = .shut then f
  else
    match leftReason v f.toPlant g with
    | some r => addLeft false g r f
    | none => sendClose v g f

/-- 09/R162: entry to STOOD_DOWN, with its cause. -/
def standDown (v : Base) (c : StateCause) (f : Flow) : Flow :=
  let none4 : Tbl 4 Bool := Vector.replicate 4 false
  let f := setRegime (fun r => { r with
    stoodDown := true, left := [], progress := some ⟨none4, none4, true, v.elapsed⟩ }) f
  let f := flightReport v c f
  let f := freezeBatches v (standDownHeads v f)
  let f := setRegime (fun r => { r with passing := f.toPlant.passingSet }) f
  let was : Tbl 4 Bool := Vector.ofFn fun g => decide ((f.channels.nth g).st ≠ .idle)
  let f := overAll allGates (cancelChannel v) f
  let f := overAll allGates (standDownSluice v was) f
  overAll allGates (standDownGate v) f

/-- 09/R163: the report STOOD_DOWN: the left list (a count, then for each whether it is a sluice, its gate and its
reason), the seconds since entry, what was then unsettled (the gates, the sluices and the heads), and whether it was ended
early (log 14). -/
def stoodDownReport (v : Base) (p : Progress) (early : Bool) (f : Flow) : Flow :=
  let left := f.regime.left
  raise v .alarm 0x10
    (u1 left.length ++ (left.flatMap fun e => b1 e.sluice ++ u1 e.index ++ u1 e.reason.code)
      ++ u4 ((v.elapsed - p.since) / 10) ++ bits1 p.gates.toList ++ bits1 p.sluices.toList ++ b1 p.heads ++ b1 early) f

/-- 09/R163: the outcome of an awaited sluice. -/
def settleSluice (g : Fin 4) (f : Flow) : Flow :=
  let x := f.sluices.nth g
  if (f.regime.progress.any fun p => p.sluices.nth g) = false then f
  else if x.st = .fault then
    addLeft true g .fault (setProgress (fun p => { p with sluices := p.sluices.put g false }) f)
  else if x.st = .steady ∧ x.pos = 0 then setProgress (fun p => { p with sluices := p.sluices.put g false }) f
  else f

/-- 09/R163: the outcome of an awaited gate; a STOPPED gate is awaited while its beam is clear and it is not held for the
keeper (log 22). -/
def settleGate (v : Base) (g : Fin 4) (f : Flow) : Flow :=
  let x := f.gates.nth g
  let done := setProgress (fun p => { p with gates := p.gates.put g false }) f
  if (f.regime.progress.any fun p => p.gates.nth g) = false then f
  else
    match x.st with
    | .shut => done
    | .fault => addLeft false g .fault done
    | .stopped => if x.hold || v.pins.beam.nth g then addLeft false g .obstructed done else f
    | _ => f

/-- Nothing is awaited any longer. -/
def Progress.settled (p : Progress) : Bool := !p.gates.toList.any id && !p.sluices.toList.any id && !p.heads

/-- 09/R163: a gate on the left list with reason BEAM or SHIFTING, re-examined: one neither blocked nor in the set nor
SHUT is sent a Regime close. -/
def reexamineLeft (v : Base) (g : Fin 4) (f : Flow) : Flow :=
  let listed := f.regime.left.any fun e => !e.sluice && e.index == g && (e.reason == .beam || e.reason == .shifting)
  if f.regime.stoodDown && listed && !v.pins.beam.nth g && !f.toPlant.passingSet.nth g
      && (f.gates.nth g).st != .shut then sendClose v g f
  else f

/-- 07/R120, 09/R163: the Tracker's set handed over at each change, and the left gates re-examined then. -/
def followPassing (v : Base) (f : Flow) : Flow :=
  let s := f.toPlant.passingSet
  if s = f.regime.passing then f
  else overAll allGates (reexamineLeft v) (setRegime (fun r => { r with passing := s }) f)

/-- 09/R163: the stand-down progress takes the outcomes; when nothing is awaited STOOD_DOWN is raised. -/
def followProgress (v : Base) (f : Flow) : Flow :=
  if f.regime.progress.isNone then f
  else
    let f := overAll allGates settleSluice (overAll allGates (settleGate v) f)
    let f := if headsAtRest f then setProgress (fun p => { p with heads := false }) f else f
    match f.regime.progress with
    | none => f
    | some p =>
      if p.settled then stoodDownReport v p false (setRegime (fun r => { r with progress := none }) f) else f

/-- 09/R165: what RESUME is refused for, in the order of the rule. -/
inductive ResumeBar where
  | notStoodDown
  | mainsOrFlood
  | unresolved
  deriving DecidableEq, Repr

/-- 09/R165: the first reason for which RESUME would be refused; none when it would be accepted. -/
def resumeBar (f : Plant) : Option ResumeBar :=
  if !f.regime.stoodDown then some .notStoodDown
  else if f.regime.mainsCause || f.regime.flood then some .mainsOrFlood
  else if f.batches.any fun b => b.step == .unresolved then some .unresolved
  else none

/-- 09/R165: an accepted RESUME: the progress ended early, the mark cleared, the heads at the rest aspect of the new
condition, the batches thawed and re-entered while the mode is AUTO. -/
def resumeFlight (v : Base) (f : Flow) : Flow :=
  let f := match f.regime.progress with | some p => stoodDownReport v p true f | none => f
  let f := changeRegime v .resume (fun r => { r with stoodDown := false, progress := none, left := [] }) f
  let f := thawBatches f
  if trackerWorks f.toPlant then reenterAll v f else f

/-- 09/R158: a change of mode. -/
def changeMode (v : Base) (m : Mode) (f : Flow) : Flow :=
  if f.regime.mode = m then f
  else
    let f := changeRegime v .mode (fun r => { r with mode := m }) f
    match m with
    | .manual => pauseBerths v (discardTrackerAsks f)
    | .auto =>
      let f := releaseKeeperHeads v f
      askOpportunity (if trackerWorks f.toPlant then reenterAll v f else f)

/-- 09/R160: the deadline expires: DEADLINE with whether the flight was already stood down, 1 or 0 in one byte of both uses
(log 14), then STOOD_DOWN entered, or FLIGHT_STATE alone (log 21). -/
def expireDeadline (v : Base) (f : Flow) : Flow :=
  let f := setRegime (fun r => { r with deadline := .expired }) f
  let f := raise v .alarm 0x0F (b1 f.regime.stoodDown) f
  if f.regime.stoodDown then flightReport v .deadline f else standDown v .deadline f

/-- The Regime Unit's part of a round. -/
def regimeRound (v : Base) (f : Flow) : Flow := followProgress v (followPassing v f)

end Sys2Proof.Machine
end

