-- ==== Sys2Proof/Machine/Settle.lean ====
section
/-! DEFINITION. What the blocks tell one another inside one step. A step's own effect is followed by rounds in which
each block reacts to the states of the others, until a round changes nothing (log 8). -/

namespace Sys2Proof.Machine

/-- One round: signals, gates and levellings, the Tracker, the Scheduler, the Regime Unit. -/
def round (v : Base) (f : Flow) : Flow :=
  regimeRound v (schedulerRound v (trackerRound v (waterRound v (signalRound v f))))

/-- Rounds until one changes nothing, `n` at most. -/
def settle (v : Base) : Nat → Flow → Flow
  | 0, f => f
  | n + 1, f =>
    let g := round v f
    if g = f then f else settle v n g

/-- The most rounds of one step (log 8). -/
def maxRounds : Nat := 24

/-- A step's own effect `f`, settled, handed back to the state. -/
def State.conclude (s : State) (f : Flow) : State := s.deliver (settle s.base maxRounds f)

end Sys2Proof.Machine
end

