-- ==== Sys2Proof/Machine/Start.lean ====
section
/-! DEFINITION. The start sequence (spec 09, section 9.5, R166) that POWER_ON and WARM_START share, with each block's
start state (R20, R43, R45, R80, R99, R117, R137, R156, R167, R169), and the loss of power. -/

namespace Sys2Proof.Machine

/-- 09/R166, 10/R179: the settings image after a store that was cut short has a bad checksum. -/
def State.imageNow (s : State) : NvImage := if s.link.store.isSome then { s.nv with good := false } else s.nv

/-- 10/R179, 00: the supply is gone: the ports are silent and empty, and a store in progress leaves a bad image. -/
def State.losePower (s : State) : State :=
  { s with
    powered := false
    nv := s.imageNow
    link := { s.link with
      console := PortRec.start s.link.console.rate 0b11111#5
      network := PortRec.start s.link.network.rate 0b00010#5
      store := none
      restartDue := false } }

/-- 02/R43: a gate takes its state from its limits. -/
def startGate (now : Nat) (sh op : Bool) : Gate :=
  let st := if sh && !op then GateSt.shut else if op && !sh then .opened else .fault
  { st := st, owner := if st = .fault then .keeper else .none, travel := none, limit := 0, obstructions := 0,
    beamClear := none, lastShut := now, ask := none, hold := false,
    cause := if st = .fault then some (if sh then .limitBoth else .limitLost) else none }

/-- 02/R43: a sluice reads its position input: at 1 to 4 it is commanded to 0 and driven down; at 5 to 7 it is in FAULT
at its last valid reading, `before`, its commanded position 0 (log 49). -/
def startSluice (now before : Nat) (code : Fin 8) : Sluice :=
  if code.val = 0 then ⟨.steady, 0, 0, none⟩
  else if code.val ≤ 4 then ⟨.moving, code.val, 0, some now⟩
  else ⟨.fault, before, 0, none⟩

/-- 04/R80: a head after a start: its rest aspect in STOOD_DOWN, lamps GOOD, proving begun. -/
def startHead (v : Base) (h : Fin 8) : Head :=
  let a := restAspect .stoodDown h
  let x : Head := {
    shown := a, staged := a, pending := false, holder := .none, goEnd := v.elapsed, waved := false,
    good := ⟨true, true, true⟩, prove := ⟨none, none, none⟩, stray := ⟨none, none, none⟩,
    mark := ⟨false, false, false⟩ }
  x.retimed v (v.pins.lampCurrent.nth h)

/-- 06/R117: the scheduler after a start. -/
def startSched (kept : Bool) (rest : Dir) (s : Scheduler) : Scheduler where
  dir := if kept then s.dir else rest
  st := .idleHold
  idle := .stopped
  prep := .absent
  refusal := none
  short := false
  saving := kept && s.saving
  draws := if kept then s.draws else []
  permit := none
  oldest := none

/-- 09/R167: the Regime Unit after a start. -/
def startRegime (v : Base) : Regime where
  mode := .auto
  flood := false
  mainsCause := !v.pins.mains
  keeper := false
  stoodDown := true
  deadline := if v.pins.mains then .idle else startDeadline v v.pins.batteryLow
  batteryLow := v.pins.batteryLow
  mainsPresent := v.pins.mains
  progress := none
  left := []
  passing := Vector.replicate 4 false

/-- 07/R137: a batch after a start. -/
def startBatch (now : Nat) (b : Batch) : Batch :=
  { b.clearFlags with
    step := .unresolved, heldStep := none, causes := HeldCauses.none, stepStart := now, berth := ⟨0, none⟩,
    overdue := none, waved := false, frozen := true, own := none }

/-- 05/R99: a waiting or held passage that the settings loaded at start no longer fit. -/
def unfit (v : Settings) (p : Passage) : Bool :=
  p.st.waits && (decide (v.flightLength < p.length) || decide (min v.maxBeam v.flightWidth < p.beam))

/-- 05/R99: one passage at the start: ended as withdrawn, made UNRESOLVED, or kept with its bypass count lowered. -/
def startPassage (v : Base) (n : Nat) (f : Flow) : Flow :=
  match f.toPlant.passage? n with
  | none => f
  | some p =>
    if unfit v.settings p then endPassage v p .withdrawn 0 f
    else
      let f := setPassage n (fun p => { p with bypass := min p.bypass v.settings.bypassLimit }) f
      if p.st.waits ∨ p.st = .unresolved then f
      else changePassage v n .start (fun p => { p with st := .unresolved }) f

/-- 02/R43: GATE_FAULT of a gate that starts in FAULT; it left no state, and FAULT itself stands in that field (log 49). -/
def startGateReport (v : Base) (g : Fin 4) (f : Flow) : Flow :=
  match (f.gates.nth g).cause with
  | none => f
  | some c =>
    raise v .alarm 0x03
      (u1 g ++ u1 c.code ++ u1 (f.gates.nth g).st.code ++ b1 (v.pins.shutLimit.nth g) ++ b1 (v.pins.openLimit.nth g)) f

/-- 02/R43: SLUICE_FAULT of a sluice that starts in FAULT. -/
def startSluiceReport (v : Base) (g : Fin 4) (f : Flow) : Flow :=
  let x := f.sluices.nth g
  if x.st = .fault then raise v .alarm 0x05 (u1 g ++ u1 3 ++ u1 x.pos ++ u1 x.cmd) f else f

/-- What a start reads: the settings loaded, the clock and elapsed count, the pins, a scanner and books at their start
values (09/R166, 01/R20, 08/R141, R156). -/
def startBase (cold kept : Bool) (set : Settings) (v : Base) : Base :=
  let clock := if cold then Clock.reset else v.clock
  { settings := set
    clock := clock
    elapsed := if kept then v.elapsed else 0
    pins := v.pins
    scanner := Scanner.start
    books := if kept then v.books else ⟨[], [], clock⟩ }

/-- The position a sluice whose input reads 5 to 7 starts at: its last valid reading where the part has kept running, and
a free value after a power-on (log 18). -/
def startPosition (cold : Bool) (p : Plant) (g : Fin 4) : Nat :=
  if cold then (Config.unreadPosition (p.freeIndex + g.val)).val else (p.sluices.nth g).pos

/-- The blocks' state after a start, before the start reports. -/
def startPlant (cold kept : Bool) (v : Base) (p : Plant) : Plant where
  gates := Vector.ofFn fun g => startGate v.elapsed (v.pins.shutLimit.nth g) (v.pins.openLimit.nth g)
  sluices := Vector.ofFn fun g => startSluice v.elapsed (startPosition cold p g) (v.pins.sluicePos.nth g)
  grants := Vector.replicate 4 false
  waiting := []
  channels := Vector.replicate 4 Channel.idle
  heads := Vector.ofFn (startHead v)
  passages := if kept then p.passages else []
  nextPassage := if kept then p.nextPassage else 1
  sched := startSched kept v.settings.restDir p.sched
  batches := if kept then p.batches.map (startBatch v.elapsed) else []
  nextBatch := if kept then p.nextBatch else 1
  errands := Vector.replicate 4 none
  accounts := if kept then p.accounts else []
  regime := startRegime v
  freeIndex := if cold && allGates.any fun g => decide (4 < (v.pins.sluicePos.nth g).val) then p.freeIndex + 4
    else p.freeIndex

/-- 09/R166: the start reports, block by block (log 8): gates and sluices in FAULT, the first aspect of each head, by
number (04/R80; log 8), the passages, the batches, and FLIGHT_STATE with cause start. The passages report one after another
in list order, so PASSAGE_ENDED and PASSAGE_STATE come mixed, each with the queue position of its moment (log 8). -/
def startReports (v : Base) (f : Flow) : Flow :=
  let f := overAll allGates (startGateReport v) f
  let f := overAll allGates (startSluiceReport v) f
  let f := overAll allHeads (fun h f => aspectReport v h (f.heads.nth h) f) f
  let f := overAll (f.passages.map (·.number)) (startPassage v) f
  let f := overAll (f.batches.map (·.id)) (stepReport v) f
  flightReport v .start f

/-- 09/R166: the start sequence. `cold` is a power-on, `kept` a retained image that is good. -/
def State.start (cold kept : Bool) (s : State) : State :=
  let nv := s.imageNow
  let set := if nv.good then nv.settings else Settings.default
  let v := startBase cold kept set s.base
  let p := startPlant cold kept v s.plant
  let t : State := {
    pending := s.pending
    powered := true
    nv := nv
    link := {
      console := PortRec.start set.consoleRate 0b11111#5
      network := PortRec.start set.networkRate 0b00010#5
      store := none
      restartDue := false
      settingsDefaulted := !nv.good
      retainedLost := !kept || s.link.retainedLost }
    base := v
    plant := p }
  t.deliver (startReports v t.flow)

end Sys2Proof.Machine
end

