-- ==== Sys2Proof/Machine/LinkRequests.lean ====
section
/-! DEFINITION. The supply, the settings store, the Link Unit's own requests, the settings and the clock
(spec 10; 09/R166; 08/R141): POWER_ON, WARM_START, POWER_LOSS, STATUS, SUBSCRIBE, NET_LEVEL, SETTING_GET, SETTING_SET,
SETTINGS_STORE, SETTINGS_STORE_DONE, RESTART, CLOCK_SET. -/

namespace Sys2Proof.Machine

/-- What a command answers: the state after it. -/
abbrev Result := Host.Outcome State Fault Refusal

/-! ## Supply and start -/

/-- POWER_ON (09/R166): the start sequence with the clock unset; a part that is powered loses its power first. -/
def execPowerOn (kept : Bool) (s : State) : Result :=
  .next ((if s.powered then s.losePower else s).start true kept)

/-- WARM_START (10/R180): the start sequence of a RESTART, once its reply has been sent in full. The retained image is as
the running part left it (09, section 9.5). -/
def execWarmStart (s : State) : Result := .next (if s.powered && s.link.restartDue then s.start false true else s)

/-- POWER_LOSS (10/R179; 09/R166): the supply goes; the retained state stands. -/
def execPowerLoss (s : State) : Result := .next (if s.powered then s.losePower else s)

/-! ## STATUS, SUBSCRIBE, NET_LEVEL -/

/-- 10/R177: the body of a STATUS reply on a port. -/
def statusBody (s : State) (p : Port) : List Byte :=
  let r := s.plant.regime
  let k := s.link.port p
  b1 s.link.settingsDefaulted ++ b1 s.link.retainedLost ++ b1 s.link.store.isSome
    ++ u1 r.condition.code ++ u1 r.mode.code ++ r.causeByte ++ stampBytes s.base.clock
    ++ u1 (ceiling s.base.settings p) ++ u1 k.mask.toNat ++ u1 k.reports.length ++ b1 k.overflow

/-- STATUS (10/R177): shows the alarm-overflow flag of its port, then clears it. -/
def execStatus (rq : Rq) (s : State) : Result :=
  .next (serve rq 0x01 2 (fun s =>
    accept { s with link := s.link.setPort rq.port { s.link.port rq.port with overflow := false } }
      (statusBody s rq.port)) s)

/-- SUBSCRIBE (10/R175): replaces the mask of its port. -/
def execSubscribe (rq : Rq) (mask : Nat) (s : State) : Result :=
  .next (serve rq 0x02 2 (fun s =>
    if 32 ≤ mask then badField s 1
    else
      accept { s with link := s.link.setPort rq.port { s.link.port rq.port with mask := BitVec.ofNat 5 mask } }
        (u1 mask)) s)

/-- The working settings replaced. -/
def State.withSettings (s : State) (v : Settings) : State := { s with base := { s.base with settings := v } }

/-- NET_LEVEL (10/R174): sets the network ceiling. -/
def execNetLevel (rq : Rq) (level : Nat) (s : State) : Result :=
  .next (serve rq 0x03 0 (fun s =>
    if level = 1 ∨ level = 2 then
      accept (s.withSettings { s.base.settings with networkCeiling := level }) (u1 level)
    else badField s 1) s)

/-! ## Settings -/

/-- SETTING_GET (10/R178): the working value, the default and the range. -/
def execSettingGet (rq : Rq) (ident : Nat) (s : State) : Result :=
  .next (serve rq 0x04 1 (fun s =>
    match setting? ident with
    | none => badField s 1
    | some k =>
      accept s (s4 (s.base.settings.value k) ++ s4 (Settings.default.value k) ++ s4 k.range.1 ++ s4 k.range.2)) s)

/-- 01, section 1.1: the body of a gauge channel. -/
def bodyOf (c : Fin 8) : Fin 5 :=
  match c with
  | 0 => 0
  | 1 | 2 => 1
  | 3 | 4 => 2
  | 5 | 6 => 3
  | 7 => 4

/-- 01/R19, 03/R61: the effect of a new gain or offset: the re-initialise flag is set, and the calibration change is
handed to the Levelling Unit. -/
def State.recalibrated (s : State) (c : Fin 8) : State :=
  let t := { s with base := { s.base with scanner := { s.base.scanner with
    gauges := s.base.scanner.gauges.upd c fun g => { g with reinit := true } } } }
  t.deliver (calibrationChanged t.base (bodyOf c) t.flow)

/-- 06/R116: a running idle-hold timer that has already reached the new value expires at once. -/
def testIdle (v : Base) (f : Flow) : Flow :=
  match f.sched.idle with
  | .running k =>
    if k + 10 * v.settings.idleHold ≤ v.elapsed then
      askOpportunity (setSched (fun s => { s with idle := .expired }) f)
    else f
  | _ => f

/-- What an accepted SETTING_SET does at once beside writing the setting (01/R19; 06/R115, R116); every other setting is
read at its next use (10/R178). -/
def State.settingTaken (s : State) (k : Setting) : State :=
  match k with
  | .gain c | .offset c => s.recalibrated c
  | .idleHold => s.conclude (testIdle s.base s.flow)
  | .drawCount | .drawWindow => s.conclude (redecidePermit s.base s.flow)
  | _ => s

/-- 10/R169: a change of a port's rate takes effect once the reply has been sent in full. -/
def rateAfter (old : Settings) (k : Setting) (x : Int) : AfterSent :=
  match k with
  | .consoleRate => if old.consoleRate = x.toNat then .nothing else .rate .console x.toNat
  | .networkRate => if old.networkRate = x.toNat then .nothing else .rate .network x.toNat
  | _ => .nothing

/-- SETTING_SET (10/R178 and the rule of the chapter that owns the setting). -/
def execSettingSet (rq : Rq) (ident : Nat) (value : Int) (s : State) : Result :=
  .next (serve rq 0x05 0 (fun s =>
    match setting? ident with
    | none => badField s 1
    | some k =>
      if k.admits value = false then badField s 2
      else
        match settingRefusal s.base.settings s.plant.passages k value with
        | some .together => badTogether s
        | some .state => refuse s .state
        | none =>
          let t := s.withSettings (s.base.settings.write k value)
          { accept (t.settingTaken k) (s4 value) with after := rateAfter s.base.settings k value }) s)

/-- SETTINGS_STORE (10/R179): the working settings are copied; the reply is owed until the write is done. -/
def execSettingsStore (rq : Rq) (s : State) : Result :=
  .next (serve rq 0x06 0 (fun s =>
    if s.link.store.isSome then refuse s .busy
    else ⟨{ s with link := { s.link with store := some ⟨rq.port, rq.tag, s.base.settings⟩ } }, none, .nothing⟩) s)

/-- 10/R179: the OK of a store: on the reply line, or owed while that is full (log 7). -/
def State.storeReply (s : State) (p : Port) (tag : Nat) : State :=
  let k := s.link.port p
  if k.replies.length < Config.maxReplies then s.reply p 0x06 tag .ok [] .nothing
  else { s with link := s.link.setPort p { k with owed := some tag } }

/-- SETTINGS_STORE_DONE (10/R179): the write completes: the image is good, SETTINGS_DEFAULTED is cleared, and the reply
is given. -/
def execSettingsStoreDone (s : State) : Result :=
  .next (match s.powered, s.link.store with
    | true, some st =>
      { s with
        nv := ⟨true, st.image⟩
        link := { s.link with store := none, settingsDefaulted := false } }.storeReply st.port st.tag
    | _, _ => s)

/-- RESTART (10/R180): refused BUSY while a store is in progress; the start begins once the reply has been sent. -/
def execRestart (rq : Rq) (s : State) : Result :=
  .next (serve rq 0x07 0 (fun s =>
    if s.link.store.isSome then refuse s .busy else { accept s [] with after := .restart }) s)

/-! ## The clock -/

/-- CLOCK_SET (10/R180, 08/R141). -/
def execClockSet (rq : Rq) (hour minute second day : Nat) (s : State) : Result :=
  .next (serve rq 0x08 1 (fun s =>
    if 23 < hour then badField s 1
    else if 59 < minute then badField s 2
    else if 59 < second then badField s 3
    else if 65535 < day then badField s 4
    else
      let c : Clock := ⟨day, ((hour * 60 + minute) * 60 + second) * 10, false⟩
      accept { s with base := { s.base with clock := c } } (stampBytes c)) s)

end Sys2Proof.Machine
end

