-- ==== Sys2Proof/Machine/Gauges.lean ====
section
/-! DEFINITION. The Gauge Scanner (spec 01): SCAN, FLOOD_CLEARED, CAL_CAPTURED, LEVELS, GAUGE_SUBST,
GAUGE_SUBST_WITHDRAWAL, CAL_POINT, CAL_COMMIT. -/

namespace Sys2Proof.Machine

/-! ## Samples (01, sections 1.2 to 1.4) -/

/-- 01/R2: a raw code below 16 or above 4079 is a faulted sample. -/
def faultedSample (x : Nat) : Bool := decide (x < 16 ∨ 4079 < x)

/-- 01/R3: the level of a raw code before clamping. -/
def rawLevel (gain : Nat) (offset : Int) (x : Nat) : Int := roundHalfAway ((x : Int) * gain) 1024 + offset

/-- 01/R3: a level clamped to −2000..20000 mm. -/
def clampLevel (l : Int) : Int := max (-2000) (min l 20000)

/-- 01/R4: one smoothing step of a gauge on a level. -/
def Gauge.smooth (g : Gauge) (l : Int) : Gauge :=
  match g.reinit, g.level with
  | false, some m => { g with level := some (m + roundHalfAway (l - m) 4) }
  | _, _ => { g with level := some l, reinit := false }

/-- 01/R17: an in-range code taken into a capture that still gathers samples. -/
def Capture.take (x : Nat) (c : Capture) : Capture :=
  if c.taken < 8 then { c with taken := c.taken + 1, sum := c.sum + x } else c

/-- 01/R2, R3, R6, R17: a gauge takes its sample. -/
def sampleGauge (gain : Nat) (offset : Int) (x : Nat) (g : Gauge) : Gauge :=
  let g := { g with raw := x }
  if faultedSample x then
    let g := { g with capture := g.capture.filter (·.taken == 8) }
    match g.status with
    | .good => { g with status := .fault, clamped := false, reinit := true }
    | .fault => g
    | .subst => match g.subst with | some l => g.smooth l | none => g
  else
    let l := rawLevel gain offset x
    let g := if g.status = .good then g else { g with status := .good, subst := none, reinit := true }
    { g.smooth (clampLevel l) with clamped := decide (l ≠ clampLevel l), capture := g.capture.map (Capture.take x) }

/-- 01/R2, R17, R20: the reports of a gauge's sample, in this order (log 8): GAUGE_FAULT (also at the first scan),
CAL_ABANDONED, and GAUGE_RESTORED (not at the first scan). -/
def gaugeReports (v : Base) (first : Bool) (c : Fin 8) (old new : Gauge) (f : Flow) : Flow :=
  let f :=
    if new.status = .fault ∧ (first ∨ old.status = .good) then raise v .alarm 0x01 (u1 c ++ u2 new.raw) f else f
  let f :=
    match old.capture, new.capture with
    | some k, none => raise v .water 0x46 (u1 c ++ u1 k.index) f
    | _, _ => f
  if new.status = .good ∧ old.status ≠ .good ∧ first = false then raise v .water 0x40 (u1 c ++ lvl2 new.level) f else f

/-! ## Bodies (01, section 1.5) -/

/-- 01, section 1.1: gauges a and b of a chamber. -/
def chamberGauges (b : Fin 5) : Option (Fin 8 × Fin 8) :=
  match b with
  | 1 => some (1, 2)
  | 2 => some (3, 4)
  | 3 => some (5, 6)
  | _ => none

/-- 01/R9: the M nearer the last GOOD level; gauge a's at equal distance or without one. -/
def nearer (last : Option Int) (a b : Int) : Int :=
  match last with
  | none => a
  | some l => if mag (b - l) < mag (a - l) then b else a

/-- 01/R8, R9: a chamber derived from its gauges. -/
def deriveChamber (tol : Nat) (a b : Gauge) (old : Body) : Body :=
  let m (g : Gauge) : Int := g.level.getD 0
  let set (st : BodyStatus) (l : Int) : Body := { old with status := st, level := some l }
  match a.status, b.status with
  | .good, .good =>
    if mag (m a - m b) ≤ tol then
      let l := meanDown (m a) (m b)
      { set .good l with lastGood := some l }
    else set .doubtful (nearer old.lastGood (m a) (m b))
  | .good, _ => set .single (m a)
  | _, .good => set .single (m b)
  | .subst, .subst =>
    (match a.level, b.level with
    | some x, some y => set .subst (meanDown x y)
    | some x, none => set .subst x
    | none, _ => { old with status := .subst, level := b.level })
  | .subst, .fault => { old with status := .subst, level := a.level }
  | .fault, .subst => { old with status := .subst, level := b.level }
  | .fault, .fault => { old with status := .fault }

/-- 01/R10: a reach derived from its one gauge. -/
def deriveReach (g : Gauge) (old : Body) : Body :=
  match g.status with
  | .good => { old with status := .good, level := g.level }
  | .subst => { old with status := .subst, level := g.level }
  | .fault => { old with status := .fault }

/-- 01/R8 to R10: a body derived from its gauges. -/
def deriveBody (v : Settings) (gs : Tbl 8 Gauge) (b : Fin 5) (old : Body) : Body :=
  match chamberGauges b with
  | some (x, y) => deriveChamber v.agreeTol (gs.nth x) (gs.nth y) old
  | none => deriveReach (gs.nth (if b = 0 then 0 else 7)) old

/-- 01/R13: the high and low limit states after a test with a hysteresis of 20 mm. -/
def testLimits (high low : Int) (b : Body) : Body :=
  match b.status, b.level with
  | .fault, _ => b
  | _, none => b
  | _, some l =>
    { b with
      high := if b.high then decide (high - 20 ≤ l) else decide (high < l)
      low := if b.low then decide (l ≤ low + 20) else decide (l < low) }

/-- 01/R11, R20: the report of a body: on a change of its status, and at the first scan. An absent level is sent as
−32768, as in a reply (log 14). -/
def bodyReport (v : Base) (first : Bool) (k : Fin 5) (old new : Body) (f : Flow) : Flow :=
  let fields := u1 k ++ u1 old.status.code ++ u1 new.status.code ++ lvl2 new.level
  if new.status = old.status ∧ first = false then f
  else if new.status = .doubtful ∨ new.status = .fault then raise v .alarm 0x02 fields f
  else raise v .water 0x41 fields f

/-- 01/R13: the limit reports of a body: the body, the limit (0 high, 1 low) and the level; of two the high one first
(log 8). -/
def limitReports (v : Base) (k : Fin 5) (old new : Body) (f : Flow) : Flow :=
  let one (which code : Nat) (was is : Bool) (f : Flow) : Flow :=
    if was = is then f else raise v .water (if is then code else 0x44) (u1 k ++ u1 which ++ lvl2 new.level) f
  one 1 0x43 old.low new.low (one 0 0x42 old.high new.high f)

/-! ## Heads and flood (01, sections 1.6 and 1.7) -/

/-- 01/R12: the head across a gate. -/
def deriveHead (lower upper : Body) (old : WaterHead) : WaterHead :=
  let value := match lower.level, upper.level with | some a, some b => some (b - a) | _, _ => none
  let usable := lower.status.usable && upper.status.usable
  { value := value
    usable := usable
    usableForcing := lower.status.usableForcing && upper.status.usableForcing
    sign :=
      if !usable then .none
      else
        match value with
        | none => .none
        | some h => if 0 < h then .pos else if h < 0 then .neg else old.sign }

/-- 01/R15: the flood state and the clear timer after a scan. -/
def testFlood (limit : Int) (now : Nat) (up : Body) (s : Scanner) : Scanner :=
  let l := up.level.getD (limit - 101)
  let live := up.status == .good || up.status == .subst
  if s.flood then
    { s with clearSince := if live && decide (l < limit - 100) then some (s.clearSince.getD now) else none }
  else if live && up.level.isSome && decide (limit ≤ l) then { s with flood := true, clearSince := none }
  else s

/-! ## The scan -/

/-- 01/R1, R21: the scanner after a scan of eight codes; what it leaves is what LEVELS gives until the next one ends. -/
def scanned (v : Base) (codes : Tbl 8 Nat) : Scanner :=
  let s := v.scanner
  let set := v.settings
  let gs : Tbl 8 Gauge := Vector.ofFn fun c => sampleGauge (set.gain.nth c) (set.offset.nth c) (codes.nth c) (s.gauges.nth c)
  let bs : Tbl 5 Body := Vector.ofFn fun b =>
    testLimits (set.highLimit.nth b) (set.lowLimit.nth b) (deriveBody set gs b (s.bodies.nth b))
  let hs : Tbl 4 WaterHead := Vector.ofFn fun g => deriveHead (bs.nth (lowerBody g)) (bs.nth (upperBody g)) (s.heads.nth g)
  let t := testFlood set.floodLimit v.elapsed (bs.nth 4) { s with gauges := gs, bodies := bs, heads := hs, first := false }
  { t with shown := gs, shownFlood := t.flood }

/-- 01/R11: the reports of a scan, in the order of its stages. -/
def scanReports (v : Base) (old new : Scanner) (f : Flow) : Flow :=
  let f := overAll allGauges (fun c f => gaugeReports v old.first c (old.gauges.nth c) (new.gauges.nth c) f) f
  let f := overAll allBodies (fun b f => bodyReport v old.first b (old.bodies.nth b) (new.bodies.nth b) f) f
  overAll allBodies (fun b f => limitReports v b (old.bodies.nth b) (new.bodies.nth b) f) f

/-- The scanner of a state replaced. -/
def State.withScanner (s : State) (x : Scanner) : State := { s with base := { s.base with scanner := x } }

/-- What the other blocks take from a scan: the sign memories before it, its reports, the flood-raised signal (01/R15),
the levellings and the permit, and an opportunity (06/R100). -/
def afterScan (v : Base) (old : Scanner) (f : Flow) : Flow :=
  let f := scanReports v old v.scanner f
  let f := if v.scanner.flood && !old.flood then floodSignal v true f else f
  let signs : Tbl 4 Sign := Vector.ofFn fun g => (old.heads.nth g).sign
  askOpportunity (scanLevellings v signs { f with scanEnd := true })

/-- SCAN (01/R1): the eight codes are sampled, and the results published. A sample is 12 bits wide. -/
def execScan (codes : Tbl 8 Nat) (s : State) : Result :=
  .next (if s.powered then
      let t := s.withScanner (scanned s.base (codes.map (· % 4096)))
      t.conclude (afterScan t.base s.base.scanner t.flow)
    else s)

/-- FLOOD_CLEARED (01/R15): the clear timer has reached 600 s. LEVELS shows the flood state of the last scan (log 53). -/
def execFloodCleared (s : State) : Result :=
  .next (if s.powered && s.base.scanner.flood && ranFor s.base s.base.scanner.clearSince Config.floodClearTime then
      let t := s.withScanner { s.base.scanner with flood := false, clearSince := none }
      t.conclude (floodSignal t.base false t.flow)
    else s)

/-! ## Calibration (01, section 1.8) -/

/-- One gauge record of the state changed. -/
def State.updGauge (s : State) (c : Fin 8) (fn : Gauge → Gauge) : State :=
  s.withScanner { s.base.scanner with gauges := s.base.scanner.gauges.upd c fn }

/-- 01/R17: a completed capture becomes its point. -/
def Gauge.captured (k : Capture) (g : Gauge) : Gauge :=
  let p : CalPoint := ⟨(roundHalfAway k.sum 8).toNat, k.staff⟩
  if k.index = 1 then { g with capture := none, point1 := some p } else { g with capture := none, point2 := some p }

/-- One gauge record changed, in what the last scan left too: an effect that belongs to that scan (log 11, 53). -/
def State.updShown (s : State) (c : Fin 8) (fn : Gauge → Gauge) : State :=
  (s.updGauge c fn).withScanner
    { (s.updGauge c fn).base.scanner with shown := s.base.scanner.shown.upd c fn }

/-- CAL_CAPTURED (01/R17): the eighth sample has been taken; CAL_CAPTURED carries the channel, the index, X and Y. LEVELS
shows the point at once, since the capture completes with the scan of its eighth sample (log 11, 53). -/
def execCalCaptured (c : Fin 8) (s : State) : Result :=
  .next (match s.powered, (s.base.scanner.gauges.nth c).capture with
    | true, some k =>
      if k.taken = 8 then
        let t := s.updShown c (Gauge.captured k)
        t.deliver (raise t.base .water 0x45
          (u1 c ++ u1 k.index ++ u2 (roundHalfAway k.sum 8).toNat ++ s2 k.staff) t.flow)
      else s
    | _, _ => s)

/-- CAL_POINT (01/R16). -/
def execCalPoint (rq : Rq) (channel index : Nat) (staff : Int) (s : State) : Result :=
  .next (serve rq 0x12 0 (fun s =>
    match unit? 8 channel with
    | none => badField s 1
    | some c =>
      let g := s.base.scanner.gauges.nth c
      if index ≠ 1 ∧ index ≠ 2 then badField s 2
      else if levelInRange staff = false then badField s 3
      else if g.capture.isSome then refuse s .busy
      else if g.status ≠ .good then refuse s .state
      else accept (s.updGauge c fun g => { g with capture := some ⟨index, staff, 0, 0⟩ }) []) s)

/-- 01/R18: the gain and offset of two points; none when they are refused. -/
def calibrate (p q : CalPoint) : Option (Int × Int) :=
  let dx : Int := (q.raw : Int) - p.raw
  let dy := q.staff - p.staff
  if mag dx < 200 ∨ mag dy < 500 then none
  else
    let gain := if 0 < dx then roundHalfAway (1024 * dy) dx.toNat else roundHalfAway (-(1024 * dy)) (-dx).toNat
    let offset := p.staff - roundHalfAway (gain * p.raw) 1024
    if gain < 1 ∨ 65535 < gain ∨ offset < -32768 ∨ 32767 < offset then none else some (gain, offset)

/-- 01/R18: an accepted commit: gain and offset written, points cleared, the calibration change handed over, CAL_DONE. -/
def State.committed (s : State) (c : Fin 8) (gain offset : Int) : State :=
  let v := s.base.settings
  let t := s.withSettings { v with gain := v.gain.put c gain.toNat, offset := v.offset.put c offset }
  let t := (t.updGauge c fun g => { g with point1 := none, point2 := none }).recalibrated c
  t.deliver (raise t.base .water 0x47 (u1 c ++ settingBytes t.base.settings [.gain c, .offset c]) t.flow)

/-- CAL_COMMIT (01/R18). -/
def execCalCommit (rq : Rq) (channel : Nat) (s : State) : Result :=
  .next (serve rq 0x13 0 (fun s =>
    match unit? 8 channel with
    | none => badField s 1
    | some c =>
      let g := s.base.scanner.gauges.nth c
      if g.capture.isSome then refuse s .busy
      else
        match g.point1, g.point2 with
        | some p, some q =>
          (match calibrate p q with
          | none => badTogether s
          | some (gain, offset) => accept (s.committed c gain offset) (s4 gain ++ s4 offset))
        | _, _ => refuse s .state) s)

/-! ## Substitution and LEVELS -/

/-- GAUGE_SUBST (01/R5). -/
def execGaugeSubst (rq : Rq) (channel : Nat) (level : Int) (s : State) : Result :=
  .next (serve rq 0x11 0 (fun s =>
    match unit? 8 channel with
    | none => badField s 1
    | some c =>
      let g := s.base.scanner.gauges.nth c
      if levelInRange level = false then badField s 2
      else if g.status = .good then refuse s .state
      else
        accept (s.updGauge c fun g =>
            { g with status := .subst, subst := some level, reinit := if g.status = .fault then true else g.reinit })
          (u1 channel ++ u1 GaugeStatus.subst.code)) s)

/-- GAUGE_SUBST_WITHDRAWAL (01/R7). -/
def execGaugeSubstWithdrawal (rq : Rq) (channel : Nat) (s : State) : Result :=
  .next (serve rq 0x11 0 (fun s =>
    match unit? 8 channel with
    | none => badField s 1
    | some c =>
      if (s.base.scanner.gauges.nth c).status ≠ .subst then refuse s .state
      else accept (s.updGauge c fun g => { g with status := .fault, subst := none, reinit := true }) []) s)

/-- 01/R21: the body of a LEVELS reply: the values of the most recently completed scan. The calibration points held are
bits 0 and 1 of one byte, and the index of a capture is 0 where none runs (log 14). -/
def levelsBody (x : Scanner) : List Byte :=
  (allGauges.flatMap fun c =>
    let g := x.shown.nth c
    u1 c ++ u2 g.raw ++ lvl2 g.level ++ u1 g.status.code ++ b1 g.clamped ++ lvl2 g.subst
      ++ opt1 (g.capture.map (·.index)) ++ bits1 [g.point1.isSome, g.point2.isSome])
  ++ (allBodies.flatMap fun k =>
    let b := x.bodies.nth k
    lvl2 b.level ++ u1 b.status.code ++ b1 b.high ++ b1 b.low)
  ++ (allGates.flatMap fun k =>
    let h := x.heads.nth k
    lvl2 h.value ++ b1 h.usable ++ b1 h.usableForcing)
  ++ b1 x.shownFlood

/-- LEVELS (01/R21). -/
def execLevels (rq : Rq) (s : State) : Result := .next (serve rq 0x10 2 (fun s => accept s (levelsBody s.base.scanner)) s)

end Sys2Proof.Machine
end

