-- ==== Sys2Proof/Machine/GateCommands.lean ====
section
/-! DEFINITION. The commands of the Gate and Sluice Unit (spec 02): GATES, GATE_CMD_OPEN, GATE_CMD_FORCE_OPEN,
GATE_CMD_CLOSE, GATE_CMD_RESET, GATE_CMD_RELEASE, GATE_LIMIT_INPUT, BEAM_INPUT, BEAM_CLEAR_EXPIRY, TRAVEL_TIMEOUT,
SLUICE_POSITION_INPUT, SLUICE_STEP_TIMEOUT, INTERVAL_MET, SLUICE_CMD_POSITION, SLUICE_CMD_RESET. -/

namespace Sys2Proof.Machine

/-! ## The query -/

/-- The seconds since a time of the elapsed count. -/
def secondsSince (v : Base) (t : Nat) : Nat := (v.elapsed - t) / 10

/-- 02/R44: a pending request and its requester: 0xFF 0 for none, else OPEN 0, CLOSE 1 or a Regime close 2, and the
batch id (log 14). -/
def askBytes : Option GateAsk → List Byte
  | none => u1 0xFF ++ u1 0
  | some (.openFor b) => u1 0 ++ u1 b
  | some (.closeFor b) => u1 1 ++ u1 b
  | some .regimeClose => u1 2 ++ u1 0

/-- 02/R44: one gate in a GATES reply; the fault cause of a gate not in FAULT is sent as 0xFF (log 14). -/
def gateEntry (v : Base) (p : Plant) (g : Fin 4) : List Byte :=
  let x := p.gates.nth g
  u1 x.st.code ++ ownerBytes x.owner ++ u1 x.obstructions ++ b1 x.hold ++ optFF (x.cause.map GateCause.code)
    ++ askBytes x.ask ++ b1 (v.pins.shutLimit.nth g) ++ b1 (v.pins.openLimit.nth g) ++ b1 (v.pins.beam.nth g)
    ++ u4 (secondsSince v x.lastShut) ++ u1 ((intervalLeft v p g + 9) / 10) ++ b1 (p.connected g) ++ b1 (p.grants.nth g)

/-- 02/R44: one sluice in a GATES reply; the controller is 0 for the levelling channel, 1 for the keeper (log 14). -/
def sluiceEntry (p : Plant) (g : Fin 4) : List Byte :=
  let x := p.sluices.nth g
  u1 x.st.code ++ u1 x.pos ++ u1 x.cmd ++ b1 ((p.channels.nth g).st == .idle)

/-- 02/R44: the body of a GATES reply. -/
def gatesBody (v : Base) (p : Plant) : List Byte :=
  (allGates.flatMap (gateEntry v p)) ++ (allGates.flatMap (sluiceEntry p))
    ++ u1 p.waiting.length ++ (p.waiting.flatMap fun g => u1 g)

/-- GATES (02/R44). -/
def execGates (rq : Rq) (s : State) : Result :=
  .next (serve rq 0x18 2 (fun s => accept s (gatesBody s.base s.plant)) s)

/-! ## The keeper's gate commands -/

/-- 02/R32: an accepted command answers at once with the gate's state after it, before the other blocks react. -/
def gateTaken (s : State) (g : Fin 4) (f : Flow) : Answer := accept (s.conclude f) (u1 (f.gates.nth g).st.code)

/-- 02/R32: the checks that every action shares: the gate in range, not OPENING or CLOSING, and not a batch's in AUTO. -/
def gateCommand (rq : Rq) (gate : Nat) (act : Fin 4 → State → Answer) (s : State) : State :=
  serve rq 0x19 0 (fun s =>
    match unit? 4 gate with
    | none => badField s 1
    | some g =>
      let x := s.plant.gates.nth g
      let byBatch : Bool := match x.owner with | .batch _ => true | _ => false
      if x.st = .opening ∨ x.st = .closing then refuse s .state
      else if byBatch ∧ s.plant.regime.mode = .auto then refuse s .state
      else act g s) s

/-- 02/R26: a gate that a STOPPED opening finds at its open limit already is OPEN (log 12). -/
def openFromStopped (v : Base) (g : Fin 4) (f : Flow) : Flow :=
  let f := startOpening v g (setGate g (fun x => { x with hold := false, obstructions := 0 }) f)
  if v.pins.openLimit.nth g && !v.pins.shutLimit.nth g then reachOpen v g f else f

/-- 02/R33: OPEN and FORCE_OPEN, with what a SHUT gate requires in MANUAL. -/
def keeperOpen (ready : Base → Plant → Fin 4 → Bool) (g : Fin 4) (s : State) : Answer :=
  let own := setOwner g .keeper s.flow
  match (s.plant.gates.nth g).st with
  | .shut =>
    if s.plant.regime.mode = .auto ∨ ready s.base s.plant g = false then refuse s .state
    else gateTaken s g (startOpening s.base g own)
  | .stopped => gateTaken s g (openFromStopped s.base g own)
  | .opened => gateTaken s g (ownGate s.base g .keeper s.flow)
  | _ => refuse s .state

/-- GATE_CMD_OPEN (02/R32, R33): a SHUT gate opens under the open interlock. -/
def execGateCmdOpen (rq : Rq) (gate : Nat) (s : State) : Result := .next (gateCommand rq gate (keeperOpen openInterlock) s)

/-- GATE_CMD_FORCE_OPEN (02/R32, R33): a SHUT gate opens within the forcing limit. -/
def execGateCmdForceOpen (rq : Rq) (gate : Nat) (s : State) : Result := .next (gateCommand rq gate (keeperOpen forceReady) s)

/-- 02/R34: CLOSE. -/
def keeperClose (g : Fin 4) (s : State) : Answer :=
  match (s.plant.gates.nth g).st with
  | .opened | .stopped =>
    if s.plant.gateLit g then refuse s .state
    else gateTaken s g (takeCloseFor s.base g .keeper (setGate g (fun x => { x with ask := none }) s.flow))
  | .shut => gateTaken s g (ownGate s.base g .keeper s.flow)
  | _ => refuse s .state

/-- GATE_CMD_CLOSE (02/R32, R34). -/
def execGateCmdClose (rq : Rq) (gate : Nat) (s : State) : Result := .next (gateCommand rq gate keeperClose s)

/-- 02/R34: RESET reads the limits. -/
def keeperReset (g : Fin 4) (s : State) : Answer :=
  let sh := s.base.pins.shutLimit.nth g
  let op := s.base.pins.openLimit.nth g
  if (s.plant.gates.nth g).st ≠ .fault then refuse s .state
  else if sh && !op then
    gateTaken s g (moveGate s.base g
      (fun x => { x with st := .shut, lastShut := s.base.elapsed, cause := none }) s.flow)
  else if op && !sh then gateTaken s g (moveGate s.base g (fun x => { x with st := .opened, cause := none }) s.flow)
  else refuse s .state

/-- GATE_CMD_RESET (02/R32, R34). -/
def execGateCmdReset (rq : Rq) (gate : Nat) (s : State) : Result := .next (gateCommand rq gate keeperReset s)

/-- 02/R34: RELEASE. -/
def keeperRelease (g : Fin 4) (s : State) : Answer :=
  let x := s.plant.gates.nth g
  if x.owner = .keeper ∧ (x.st = .shut ∨ x.st = .opened) then
    gateTaken s g (ownGate s.base g .none s.flow)
  else refuse s .state

/-- GATE_CMD_RELEASE (02/R32, R34). -/
def execGateCmdRelease (rq : Rq) (gate : Nat) (s : State) : Result := .next (gateCommand rq gate keeperRelease s)

/-! ## Inputs and expiries of gates -/

/-- The pins of a state replaced. -/
def State.withPins (s : State) (p : Pins) : State := { s with base := { s.base with pins := p } }

/-- GATE_LIMIT_INPUT (02/R22, R26, R28): both limit readings of a gate as they now stand. -/
def execGateLimitInput (g : Fin 4) (sh op : Bool) (s : State) : Result :=
  let p := s.base.pins
  let t := s.withPins { p with shutLimit := p.shutLimit.put g sh, openLimit := p.openLimit.put g op }
  .next (if s.powered then t.conclude (judgeLimits t.base g (p.shutLimit.nth g) (p.openLimit.nth g) t.flow) else t)

/-- BEAM_INPUT (02/R29; 09/R163): the sill-zone beam of a gate as it now stands. -/
def execBeamInput (g : Fin 4) (blocked : Bool) (s : State) : Result :=
  let t := s.withPins { s.base.pins with beam := s.base.pins.beam.put g blocked }
  .next (if s.powered then t.conclude (reexamineLeft t.base g (judgeBeam t.base g t.flow)) else t)

/-- BEAM_CLEAR_EXPIRY (02/R27, R29): the beam of a STOPPED gate not held for the keeper has been clear for 10 s; the gate
resumes while neither of its heads has GN lit. -/
def execBeamClearExpiry (g : Fin 4) (s : State) : Result :=
  let x := s.plant.gates.nth g
  .next (if s.powered && x.st == .stopped && !x.hold && ranFor s.base x.beamClear Config.beamClearTime
      && !s.plant.gateLit g then s.conclude (startClosing s.base g s.flow)
    else s)

/-- TRAVEL_TIMEOUT (02/R30): the travel time limit the movement was taken with has elapsed. -/
def execTravelTimeout (g : Fin 4) (s : State) : Result :=
  let x := s.plant.gates.nth g
  .next (if s.powered && (x.st == .opening || x.st == .closing) && ranFor s.base x.travel (10 * x.limit) then
      s.conclude (faultGate s.base g .travel s.flow)
    else s)

/-! ## Sluices -/

/-- SLUICE_POSITION_INPUT (02/R35, R36): the position input of a sluice as it now stands. -/
def execSluicePositionInput (g : Fin 4) (code : Fin 8) (s : State) : Result :=
  let t := s.withPins { s.base.pins with sluicePos := s.base.pins.sluicePos.put g code }
  .next (if s.powered then t.conclude (judgePosition t.base g t.flow) else t)

/-- SLUICE_STEP_TIMEOUT (02/R36): a one-step move has not completed in 15 s. -/
def execSluiceStepTimeout (g : Fin 4) (s : State) : Result :=
  let x := s.plant.sluices.nth g
  .next (if s.powered && x.st == .moving && ranFor s.base x.step Config.sluiceStepLimit then
      s.conclude (faultSluice s.base g 0 s.flow)
    else s)

/-- INTERVAL_MET (02/R41): a held opening starts when the gate-to-sluice interval is first met. -/
def execIntervalMet (g : Fin 4) (s : State) : Result :=
  .next (if s.powered then s.conclude (startHeld s.base g s.flow) else s)

/-- 02/R42: what a position command to a sluice is refused STATE for; whether it raises or opens the sluice is judged by
the position it stands at (log 73). -/
def sluiceBarred (v : Base) (p : Plant) (g : Fin 4) (n : Nat) : Bool :=
  let x := p.sluices.nth g
  let opens := decide (x.pos = 0 ∧ 0 < n)
  (p.channels.nth g).st != .idle || x.st == .fault || (decide (x.pos < n) && p.regime.mode == .auto)
    || (opens && !(p.clearOfConnections g && p.clearOfGrants g)) || (opens && !intervalMet v p g)

/-- SLUICE_CMD_POSITION (02/R42): the reply carries the commanded position, after R38. -/
def execSluiceCmdPosition (rq : Rq) (gate position : Nat) (s : State) : Result :=
  .next (serve rq 0x1A 0 (fun s =>
    match unit? 4 gate with
    | none => badField s 1
    | some g =>
      if 4 < position then badField s 2
      else if sluiceBarred s.base s.plant g position then refuse s .state
      else accept (s.conclude (commandSluice s.base g position s.flow)) (u1 (reducedTo s.flow g position))) s)

/-- SLUICE_CMD_RESET (02/R42). -/
def execSluiceCmdReset (rq : Rq) (gate : Nat) (s : State) : Result :=
  .next (serve rq 0x1A 0 (fun s =>
    match unit? 4 gate with
    | none => badField s 1
    | some g =>
      let code := (s.base.pins.sluicePos.nth g).val
      if (s.plant.sluices.nth g).st ≠ .fault ∨ 4 < code then refuse s .state
      else accept (s.conclude (setSluice g (fun _ => ⟨.steady, code, code, none⟩) s.flow)) (u1 code)) s)

end Sys2Proof.Machine
end

