-- ==== Sys2Proof/Machine/LevellingCommands.lean ====
section
/-! DEFINITION. The commands of the Levelling Unit (spec 03): STEP_TIMER_EXPIRY, LEVELLING_COMPLETE,
LEVELLING_TIME_LIMIT, SUSPENSION_TIMEOUT, LEVEL_CMD_START, LEVEL_CMD_CANCEL, LEVELLING_STATUS. -/

namespace Sys2Proof.Machine

/-- STEP_TIMER_EXPIRY (03/R50, R51). -/
def execStepTimerExpiry (g : Fin 4) (s : State) : Result :=
  let c := s.plant.channels.nth g
  .next (if s.powered && c.st == .running && ranFor s.base c.stepT (10 * s.base.settings.stepInterval) then
      s.conclude (raiseStep s.base g s.flow)
    else s)

/-- LEVELLING_COMPLETE (03/R52, R54): the settle timer has reached the settle time. An opportunity is examined when it is
the entry gate's levelling (06/R100). -/
def execLevellingComplete (g : Fin 4) (s : State) : Result :=
  let c := s.plant.channels.nth g
  .next (if s.powered && c.st == .holding && ranFor s.base c.settleT (10 * s.base.settings.settleTime) then
      let f := completeLevelling s.base g s.flow
      s.conclude (if g = f.sched.dir.entryGate then askOpportunity f else f)
    else s)

/-- LEVELLING_TIME_LIMIT (03/R56): the time limit the levelling began with has elapsed. -/
def execLevellingTimeLimit (g : Fin 4) (s : State) : Result :=
  let c := s.plant.channels.nth g
  .next (if s.powered && (c.st == .running || c.st == .holding || c.st == .suspended)
      && (c.limit.any fun t => ranFor s.base c.start (10 * t)) then s.conclude (failChannel s.base g .time s.flow)
    else s)

/-- SUSPENSION_TIMEOUT (03/R57): 120 s have passed without a resumption. -/
def execSuspensionTimeout (g : Fin 4) (s : State) : Result :=
  let c := s.plant.channels.nth g
  .next (if s.powered && c.st == .suspended && ranFor s.base c.susp Config.resumeWindow then
      s.conclude (failChannel s.base g .suspension s.flow)
    else s)

/-- 03/R62: what LEVEL_CMD START is refused STATE for. -/
def levelStartBarred (v : Base) (p : Plant) (g : Fin 4) : Bool :=
  p.regime.mode == .auto || (p.channels.nth g).st != .idle || (p.gates.nth g).st != .shut
    || !levelsUsable v g (some .keeper)

/-- LEVEL_CMD_START (03/R62): the reply carries the state the start checks reached; where the sluice then refuses its
command the levelling fails, and LEVELLING_FAILED tells of it (R58, log 37). -/
def execLevelCmdStart (rq : Rq) (gate : Nat) (s : State) : Result :=
  .next (serve rq 0x21 0 (fun s =>
    match unit? 4 gate with
    | none => badField s 1
    | some g =>
      if levelStartBarred s.base s.plant g then refuse s .state
      else
        let f := startChecks s.base g .keeper s.flow
        accept (s.conclude (failRefused s.base g f)) (u1 (f.channels.nth g).st.code)) s)

/-- LEVEL_CMD_CANCEL (03/R59, R62): in AUTO only of the keeper's own levelling; an IDLE channel is left. -/
def execLevelCmdCancel (rq : Rq) (gate : Nat) (s : State) : Result :=
  .next (serve rq 0x21 0 (fun s =>
    match unit? 4 gate with
    | none => badField s 1
    | some g =>
      let c := s.plant.channels.nth g
      if c.st ≠ .idle ∧ s.plant.regime.mode = .auto ∧ c.req ≠ some .keeper then refuse s .state
      else accept (s.conclude (cancelChannel s.base g s.flow)) (u1 ChanSt.idle.code)) s)

/-- Seconds since a time, in 4 bytes; 0xFFFFFFFF when there is none (log 14). -/
def sinceBytes (v : Base) : Option Nat → List Byte
  | none => u4 0xFFFFFFFF
  | some t => u4 (secondsSince v t)

/-- 03/R63: one channel in a LEVELLING_STATUS reply; an absent time limit is sent as 0, and the fail cause of a channel
that is not FAILED as 0xFF (log 14). -/
def channelEntry (v : Base) (p : Plant) (g : Fin 4) : List Byte :=
  let c := p.channels.nth g
  let run (t : Option Nat) : Option Nat := t.map fun k => v.elapsed - k
  u1 c.st.code ++ purposeBytes c.req ++ b1 (p.grants.nth g) ++ u1 c.permit.code ++ u1 c.cmd ++ timer2 (run c.stepT)
    ++ timer2 (run c.settleT) ++ u1 c.surge ++ sinceBytes v c.start ++ u2 (c.limit.getD 0) ++ sinceBytes v c.susp ++ b1 c.opened
    ++ optFF (c.cause.map ChanCause.code)

/-- LEVELLING_STATUS (03/R63). -/
def execLevellingStatus (rq : Rq) (s : State) : Result :=
  .next (serve rq 0x20 2 (fun s => accept s (allGates.flatMap (channelEntry s.base s.plant))) s)

end Sys2Proof.Machine
end

