-- ==== Sys2Proof/Machine/SignalCommands.lean ====
section
/-! DEFINITION. The commands of the Signal Unit (spec 04): CLEARANCE_MARGIN_EXPIRY, LAMP_FAIL, LAMP_CURRENT_INPUT,
LAMP_STRAY, LAMP_RESET, HEAD_CMD_ASPECT, HEAD_CMD_RELEASE, SIGNALS. -/

namespace Sys2Proof.Machine

/-- CLEARANCE_MARGIN_EXPIRY (04/R68): the margin, as now set, in the way of a pending green of a head has run out. -/
def execClearanceMarginExpiry (h : Fin 8) (s : State) : Result :=
  .next (if s.powered then s.conclude (tryGreen s.base h s.flow) else s)

/-- LAMP_FAIL (04/R72, R74, R75): the proving timer of a lamp has reached the proving time it started with. -/
def execLampFail (h : Fin 8) (l : Lamp) (s : State) : Result :=
  let x := s.plant.heads.nth h
  .next (if s.powered && x.good.nth l && x.driven.nth l && LampTimer.due s.base (x.prove.nth l) then
      s.conclude (failLamp s.base h l s.flow)
    else s)

/-- LAMP_CURRENT_INPUT (04/R72, R73): the current sense of a lamp as it now stands. -/
def execLampCurrentInput (h : Fin 8) (l : Lamp) (sensed : Bool) (s : State) : Result :=
  let t := s.withPins { s.base.pins with
    lampCurrent := s.base.pins.lampCurrent.upd h fun x => x.put l sensed }
  .next (if s.powered then t.conclude (senseLamp t.base h l t.flow) else t)

/-- LAMP_STRAY (04/R73): the stray timer of a lamp has run its time. -/
def execLampStray (h : Fin 8) (l : Lamp) (s : State) : Result :=
  let x := s.plant.heads.nth h
  .next (if s.powered && !x.mark.nth l && LampTimer.due s.base (x.stray.nth l) then
      s.conclude (markStray s.base h l s.flow)
    else s)

/-- The lamp health and the lamps driven of a head, one bit for each of RA, RB and GN, 1 for GOOD and for driven
(log 14). -/
def lampBits (x : Lamps Bool) : List Byte := bits1 [x.ra, x.rb, x.gn]

/-- LAMP_RESET (04/R77): the reply carries the head's lamp health and lamps driven as the unit's own work leaves them,
before the other blocks, told of a restored stopping signal, react to it (log 8). -/
def execLampReset (rq : Rq) (head lamp : Nat) (s : State) : Result :=
  .next (serve rq 0x2A 0 (fun s =>
    match unit? 8 head, lamps? lamp with
    | none, _ => badField s 1
    | some _, none => badField s 2
    | some h, some ls =>
      let f := resetLamps s.base h ls s.flow
      let x := f.heads.nth h
      accept (s.conclude f) (lampBits x.good ++ lampBits x.driven)) s)

/-- 04/R78: an aspect that the head could not show. -/
def aspectBarred (x : Head) (a : Aspect) : Bool :=
  (!a.stopping && !x.good.gn) || (a == .prepare && x.lostRed)

/-- 04/R78: the keeper stages an aspect: the holder becomes KEEPER, and the aspect is taken under R67 or R68. -/
def keeperStage (v : Base) (h : Fin 8) (a : Aspect) (f : Flow) : Flow :=
  if a.stopping then changeHead v h (fun x => { x.stop v a with holder := .keeper }) f
  else if (f.heads.nth h).shown = a ∧ (f.heads.nth h).pending = false then
    changeHead v h (fun x => { x with holder := .keeper }) f
  else tryGreen v h (changeHead v h (Head.stageGreen a .keeper) f)

/-- HEAD_CMD_ASPECT (04/R78): the reply carries the shown aspect and the pending flag. -/
def execHeadCmdAspect (rq : Rq) (head aspect : Nat) (s : State) : Result :=
  .next (serve rq 0x29 0 (fun s =>
    match unit? 8 head, aspect? aspect with
    | none, _ => badField s 1
    | some _, none => badField s 2
    | some h, some a =>
      if s.plant.regime.mode = .auto ∨ aspectBarred (s.plant.heads.nth h) a then refuse s .state
      else
        let f := keeperStage s.base h a s.flow
        let x := f.heads.nth h
        accept (s.conclude f) (u1 x.shown.code ++ b1 x.pending)) s)

/-- HEAD_CMD_RELEASE (04/R78): the reply carries the shown aspect and the pending flag, as that of an aspect does
(log 41). -/
def execHeadCmdRelease (rq : Rq) (head : Nat) (s : State) : Result :=
  .next (serve rq 0x29 0 (fun s =>
    match unit? 8 head with
    | none => badField s 1
    | some h =>
      if s.plant.regime.mode = .auto ∨ (s.plant.heads.nth h).holder ≠ .keeper then refuse s .state
      else
        let f := giveHead s.base h s.flow
        let x := f.heads.nth h
        accept (s.conclude f) (u1 x.shown.code ++ b1 x.pending)) s)

/-- 04/R81: one head in a SIGNALS reply; the time since GO-end and the margin remaining are in tenths, and the health of
a lamp is 1 for GOOD, 0 for FAILED (log 14). -/
def headEntry (v : Base) (p : Plant) (h : Fin 8) : List Byte :=
  let x := p.heads.nth h
  let cur := v.pins.lampCurrent.nth h
  u1 x.shown.code ++ u1 x.staged.code ++ b1 x.pending ++ ownerBytes x.holder ++ b1 x.waved
    ++ u4 (v.elapsed - x.goEnd) ++ b1 x.showsDark ++ u2 (marginLeft v p h)
    ++ [Lamp.ra, .rb, .gn].flatMap fun l =>
      b1 (x.good.nth l) ++ b1 (x.driven.nth l) ++ b1 (cur.nth l) ++ b1 (x.mark.nth l)

/-- SIGNALS (04/R81). -/
def execSignals (rq : Rq) (s : State) : Result :=
  .next (serve rq 0x28 2 (fun s =>
    accept s ((allHeads.flatMap (headEntry s.base s.plant))
      ++ settingBytes s.base.settings [.clearMargin, .lampProving])) s)

end Sys2Proof.Machine
end

