-- ==== Sys2Proof/Machine/QueueRequests.lean ====
section
/-! DEFINITION. The requests of the Passage Queue (spec 05): PASS_REQUEST, PASS_WITHDRAW, PASS_QUERY, QUEUE_LIST. -/

namespace Sys2Proof.Machine

/-- 05/R84: a declaration whose fields are all in range, as the passage it asks for; the record's other fields stand as
acceptance sets them (R86). -/
def passageFrom (d : Declaration) (number : Nat) (now : Clock) (p : Port) (dir : Dir) (cls : Fin 8)
    (pay : Option Nat) : Passage where
  number := number
  mark := d.mark
  dir := dir
  length := d.length
  beam := d.beam
  draught := d.draught
  tonnes := d.tonnes
  cls := cls
  payment := pay
  priority := d.priority == 1
  arrival := now
  origin := p
  st := .waiting
  bypass := 0
  misses := 0
  batch := none
  chamber := none
  committed := none
  basis := none
  berthedAt := none

/-- 05/R84: the position of the first field out of range; none when every field is in range. -/
def badDeclaration (d : Declaration) : Option Nat :=
  if hullMarkOk d.mark = false then some 1
  else if (dir? d.direction).isNone then some 2
  else if d.length < 100 ∨ 1500 < d.length then some 3
  else if d.beam < 30 ∨ 200 < d.beam then some 4
  else if d.draught < 500 ∨ 4000 < d.draught then some 5
  else if 4000 < d.tonnes then some 6
  else if 8 ≤ d.cls then some 7
  else if (payment? d.payment).isNone then some 8
  else if 1 < d.priority then some 9
  else none

/-- 05/R85: the first check of the flight that fails; none when all pass. Of a length and a beam that both exceed the
flight, BAD_FIELD names the length, the earlier field (log 50). -/
def flightCheck (s : State) (d : Declaration) (pay : Option Nat) : Option Answer :=
  let set := s.base.settings
  if Config.maxPassages ≤ s.plant.passages.length then some (refuse s .full)
  else if s.plant.passages.any fun p => p.mark == d.mark then some (refuse s .duplicate)
  else if set.flightLength < d.length then some (badField s 3)
  else if min set.maxBeam set.flightWidth < d.beam then some (badField s 4)
  else
    match pay with
    | none => none
    | some id =>
      match s.plant.account? id with
      | none => some (refuse s .notFound)
      | some a => if a.blocked then some (refuse s .state) else none

/-- 05/R86: the acceptance of a passage: the hull looked up, the record at the tail, the counter advanced. -/
def State.joined (s : State) (p : Passage) : State × Flow :=
  match lookUpHull s.base p s.flow with
  | (hulls, f) =>
    let v := { s.base with books := { s.base.books with hulls := hulls } }
    let f := { f with passages := f.passages ++ [p] }
    let f := { f with nextPassage := advanceNumber (f.passages.map (·.number)) 33 p.number }
    ({ s with base := v }, askOpportunity (passageReport v p.number 0xFF .acceptance f))

/-- 05/R84 to R86: the answer to a PASS_REQUEST at its effective level. -/
def passRequest (rq : Rq) (d : Declaration) (s : State) : Answer :=
  match badDeclaration d, dir? d.direction, unit? 8 d.cls, payment? d.payment with
  | none, some dir, some cls, some pay =>
    if d.priority = 1 ∧ effectiveLevel s rq = 2 then refuse s .denied
    else
      match flightCheck s d pay with
      | some a => a
      | none =>
        let p := passageFrom d s.plant.nextPassage s.base.clock rq.port dir cls pay
        let r := s.joined p
        accept (r.1.conclude r.2)
          (u4 p.number ++ u1 (s.plant.passages.length + 1) ++ u4 (quote r.1.base r.2.toPlant p).1)
  | some k, _, _, _ => badField s k
  | none, _, _, _ => badTogether s

/-- PASS_REQUEST (05/R84 to R86): the reply carries the number, the queue position and the quote. -/
def execPassRequest (rq : Rq) (d : Declaration) (s : State) : Result := .next (serve rq 0x30 2 (passRequest rq d) s)

/-- 05/R94, R95: a withdrawal taken: the reservation released, the passage ended, its batch left. -/
def withdrawPassage (v : Base) (p : Passage) (f : Flow) : Flow :=
  leaveItsBatch v p .dissolved (endPassage v p .withdrawn 0 (releaseReserve p f))

/-- PASS_WITHDRAW (05/R95): the reply carries the number and the state withdrawn from. -/
def execPassWithdraw (rq : Rq) (number : Nat) (s : State) : Result :=
  .next (serve rq 0x31 2 (fun s =>
    match s.plant.passage? number with
    | none => refuse s .notFound
    | some p =>
      if effectiveLevel s rq = 2 ∧ p.origin ≠ rq.port then refuse s .denied
      else if p.st.waits ∨ p.st = .called then
        accept (s.conclude (withdrawPassage s.base p s.flow)) (u4 p.number ++ u1 p.st.code)
      else refuse s .state) s)

/-- 05/R96: the passage that a key names; malformed marks are refused before it is looked for. -/
def passageOf (p : Plant) : PassKey → Option Passage
  | .number n => p.passage? n
  | .hull m => p.passages.find? fun x => x.mark == m

/-- 05/R96: a hull mark that is malformed. -/
def keyMalformed : PassKey → Bool
  | .number _ => false
  | .hull m => !hullMarkOk m

/-- PASS_QUERY (05/R96; 11, section 11.5). -/
def execPassQuery (rq : Rq) (key : PassKey) (s : State) : Result :=
  .next (serve rq 0x32 2 (fun s =>
    if keyMalformed key then badField s 1
    else
      match passageOf s.plant key with
      | none => refuse s .notFound
      | some p =>
        let q := if p.committed.isSome then 0 else (quote s.base s.plant p).1
        accept s (p.bytes (queuePosition s.plant.passages p.number) q)) s)

/-- QUEUE_LIST (05/R97; 11, section 11.5). -/
def execQueueList (rq : Rq) (first count : Nat) (s : State) : Result :=
  .next (serve rq 0x33 2 (fun s =>
    if first < 1 ∨ 32 < first then badField s 1
    else if count < 1 ∨ 8 < count then badField s 2
    else
      let ps := s.plant.passages
      accept s (u1 ps.length ++ ((ps.drop (first - 1)).take count).flatMap Passage.summary)) s)

end Sys2Proof.Machine
end

