-- ==== Sys2Proof/Machine/SchedulerCommands.lean ====
section
/-! DEFINITION. The commands of the Flight Scheduler (spec 06): IDLE_HOLD_EXPIRY, PREPARATION_RETRY_EXPIRY,
DRAW_LEAVES_WINDOW, DRAW_ENTRY_EXPIRY, SCHEDULER_STATUS, REGIME. -/

namespace Sys2Proof.Machine

/-- IDLE_HOLD_EXPIRY (06/R108): the idle-hold timer has reached the idle hold; an opportunity is taken. -/
def execIdleHoldExpiry (s : State) : Result :=
  .next (match s.powered, s.plant.sched.idle with
    | true, .running k =>
      if k + 10 * s.base.settings.idleHold ≤ s.base.elapsed then
        s.conclude (askOpportunity (setSched (fun x => { x with idle := .expired }) s.flow))
      else s
    | _, _ => s)

/-- PREPARATION_RETRY_EXPIRY (06/R105, R110): 120 s after a failed preparation: a TURN levelling is asked again; after an
ENTRY preparation an opportunity is examined (log 20). -/
def execPreparationRetryExpiry (s : State) : Result :=
  .next (match s.powered, s.plant.sched.prep with
    | true, .failed _ isTurn _ =>
      if retryWaits s.base s.plant then s
      else if isTurn then
        s.conclude (if s.plant.sched.st = .turning then askTurn s.base s.flow else s.flow)
      else s.conclude (askOpportunity s.flow)
    | _, _ => s)

/-- DRAW_LEAVES_WINDOW (06/R115): an entry of the draw list has left the window: a deferred permit is decided again. -/
def execDrawLeavesWindow (s : State) : Result :=
  .next (if s.powered then s.conclude (redecidePermit s.base s.flow) else s)

/-- 06/R113: an entry is removed when its age reaches 86,400 s. -/
def dropOldDraws (v : Base) (f : Flow) : Flow :=
  setSched (fun s => { s with draws := s.draws.filter fun d => decide (v.elapsed - d.start < Config.drawLife) }) f

/-- DRAW_ENTRY_EXPIRY (06/R113). -/
def execDrawEntryExpiry (s : State) : Result :=
  .next (if s.powered then s.deliver (dropOldDraws s.base s.flow) else s)

/-- 06/R118: the idle-hold timer: its seconds run, 0xFFFF when it does not run, and in a byte of its own whether it has
expired (log 14); past 65,534 s its low 16 bits (log 80). -/
def idleBytes (v : Base) : IdleTimer → List Byte
  | .stopped => u2 0xFFFF ++ b1 false
  | .running k => u2 (secondsSince v k) ++ b1 false
  | .expired => u2 0xFFFF ++ b1 true

/-- 06/R118: the entry preparation: absent 0, asked 1, failed 2; the gate; the purpose; the seconds left of a failed
one's retry interval, 0 for one absent or asked (log 14). -/
def prepBytes (v : Base) : Prep → List Byte
  | .absent => u1 0 ++ u1 0xFF ++ u1 0xFF ++ u1 0
  | .asked g isTurn _ => u1 1 ++ u1 g ++ u1 (if isTurn then 2 else 1) ++ u1 0
  | .failed g isTurn t =>
    u1 2 ++ u1 g ++ u1 (if isTurn then 2 else 1) ++ u1 (secondsLeft v.elapsed (t + Config.retryInterval))

/-- 06/R118: the oldest passage found at the last opportunity, with its direction and its present bypass count; 0, 0xFF
and 0 where there was none (log 14) or it has left the queue (log 72). -/
def oldestBytes (p : Plant) : List Byte :=
  match p.sched.oldest.bind p.passage? with
  | some x => u4 x.number ++ u1 x.dir.code ++ u1 x.bypass
  | none => u4 0 ++ u1 0xFF ++ u1 0

/-- 06/R118: the permit request: its purpose, the seconds it has waited, its cause; of an absent one all bytes are 0xFF
(log 14). -/
def permitBytes (v : Base) : Option PermitRequest → List Byte
  | none => u1 0xFF ++ u4 0xFFFFFFFF ++ u1 0xFF
  | some r => u1 r.purpose.code ++ u4 (secondsSince v r.askedAt) ++ u1 r.cause.code

/-- 06/R118: the body of a SCHEDULER_STATUS reply; an absent refusal cause is sent as 0xFF (log 14). -/
def schedulerBody (v : Base) (p : Plant) : List Byte :=
  let s := p.sched
  u1 s.dir.code ++ u1 s.st.code ++ idleBytes v s.idle ++ prepBytes v s.prep ++ optFF (s.refusal.map AskRefusal.code)
    ++ b1 s.short ++ u2 v.books.log.length ++ u1 p.memberCount ++ oldestBytes p ++ b1 s.saving
    ++ u1 s.draws.length ++ (s.draws.flatMap fun d => u4 (secondsSince v d.start) ++ u1 d.purpose.code)
    ++ u1 (countingDraws v s.draws).length ++ permitBytes v s.permit
    ++ settingBytes v.settings [.restDir, .idleHold, .bypassLimit, .drawCount, .drawWindow]

/-- SCHEDULER_STATUS (06/R118). -/
def execSchedulerStatus (rq : Rq) (s : State) : Result :=
  .next (serve rq 0x38 2 (fun s => accept s (schedulerBody s.base s.plant)) s)

/-- 06/R112: the water-saving flag set; a change raises SAVING_STATE and a deferred permit is decided again (R115). -/
def setSaving (v : Base) (x : Bool) (f : Flow) : Flow :=
  if f.sched.saving = x then f
  else redecidePermit v (raise v .water 0x4C (b1 x) (setSched (fun s => { s with saving := x }) f))

/-- REGIME (06/R112): the reply carries the flag. -/
def execRegime (rq : Rq) (saving : Nat) (s : State) : Result :=
  .next (serve rq 0x39 1 (fun s =>
    if 1 < saving then badField s 1
    else accept (s.conclude (setSaving s.base (saving == 1) s.flow)) (u1 saving)) s)

end Sys2Proof.Machine
end

