-- ==== Sys2Proof/Machine/LockageCommands.lean ====
section
/-! DEFINITION. The commands of the Lockage Tracker (spec 07): BATCHES, BERTHED, MISSED, ENTRY_BERTH_EXPIRY,
SHIFT_BERTH_EXPIRY, OVERDUE_REPEAT, CLEARED, EJECT, REMOVE, WAVED, CONFIRM. -/

namespace Sys2Proof.Machine

/-! ## BATCHES (07/R139; 11, section 11.5) -/

/-- One member in a batch entry: its number, then its state in bits 0 to 3 and its berthed flag in bit 7. -/
def memberEntry (p : Plant) (m : Member) : List Byte :=
  u4 m.number ++ u1 (((p.memberSt m).map PassSt.code).getD 15 + if m.flag then 128 else 0)

/-- 11, section 11.5: the batch entry. -/
def batchEntry (v : Base) (p : Plant) (b : Batch) : List Byte :=
  u1 b.id ++ u1 b.dir.code ++ opt1 b.chamber ++ opt1 b.target ++ u1 b.step.code ++ optFF (b.heldStep.map Step.code)
    ++ b.causes.bytes ++ u4 ((v.elapsed - b.stepStart) / 10)
    ++ timer2 (b.berth.since.map fun _ => b.berth.value v.elapsed) ++ timer2 (b.overdue.map fun t => v.elapsed - t)
    ++ bits1 [b.waved, b.frozen]
    ++ optFF (b.own.map fun o => o.1.val) ++ optFF (b.own.map fun o => o.2.code)
    ++ u1 b.members.length ++ b.members.flatMap (memberEntry p)

/-- 11, section 11.5: the batch id that names each chamber, 0 for none. -/
def occupantBytes (p : Plant) : List Byte := [1, 2, 3].flatMap fun k => opt1 ((p.batchIn? k).map (·.id))

/-- 11, section 11.5: the number of close errands, then the gate and batch id of each. -/
def errandBytes (p : Plant) : List Byte :=
  let standing := allGates.filterMap fun g => (p.errands.nth g).map fun id => (g, id)
  u1 standing.length ++ standing.flatMap fun e => u1 e.1 ++ u1 e.2

/-- The body of a BATCHES reply. -/
def batchesBody (v : Base) (p : Plant) : List Byte :=
  u1 p.batches.length ++ p.batches.flatMap (batchEntry v p) ++ occupantBytes p ++ errandBytes p ++ u1 p.nextBatch

/-- BATCHES (07/R139). -/
def execBatches (rq : Rq) (s : State) : Result :=
  .next (serve rq 0x40 2 (fun s => accept s (batchesBody s.base s.plant)) s)

/-! ## The keeper's confirmations of members (07/R122, R126, R127, R132, R133) -/

/-- The batch of a passage. -/
def Plant.batchOf (p : Plant) (x : Passage) : Option Batch := x.batch.bind p.batch?

/-- The step, or held step, of the batch of a passage; none for a passage in no batch. -/
def Plant.stepOf (p : Plant) (x : Passage) : Option Step := (p.batchOf x).map Batch.effective

/-- The berthed flag of a member of its batch set. -/
def flagMember (x : Passage) (f : Flow) : Flow :=
  match x.batch with
  | none => f
  | some id => setBatch id (Batch.setFlag x.number) f

/-- 05/R92: a first berthing: BERTHED at the clock's time, and the fee fixed (08/R144). -/
def berthFirst (v : Base) (x : Passage) (f : Flow) : Flow :=
  fixFee v x.number
    (changePassage v x.number .movement (fun p => { p with st := .berthed, berthedAt := some v.clock })
      (flagMember x f))

/-- 05/R92, 07/R126: a berthing beyond entry. -/
def berthAhead (v : Base) (x : Passage) (f : Flow) : Flow :=
  changePassage v x.number .movement (fun p => { p with st := .berthed }) (flagMember x f)

/-- 07/R122: what a BERTHED does to a passage; none where it is refused STATE. -/
def berthing (v : Base) (x : Passage) (f : Flow) : Option Flow :=
  match x.st with
  | .called => if f.toPlant.stepOf x = some .entering then some (berthFirst v x f) else none
  | .shifting => some (berthAhead v x f)
  | _ => none

/-- BERTHED (07/R122, R126): the reply carries the member's new state and its committed amount. -/
def execBerthed (rq : Rq) (number : Nat) (s : State) : Result :=
  .next (serve rq 0x41 0 (fun s =>
    match s.plant.passage? number with
    | none => refuse s .notFound
    | some x =>
      match berthing s.base x s.flow with
      | none => refuse s .state
      | some f =>
        accept (s.conclude f)
          (u1 PassSt.berthed.code ++ u4 (((f.toPlant.passage? number).map Passage.amount).getD 0))) s)

/-- MISSED (07/R122, 05/R93): the reply carries the member's resulting state, 0xFF when it has ended (log 28). -/
def execMissed (rq : Rq) (number : Nat) (s : State) : Result :=
  .next (serve rq 0x42 0 (fun s =>
    match s.plant.passage? number with
    | none => refuse s .notFound
    | some x =>
      if x.st = .called ∧ s.plant.stepOf x = some .entering then
        let f := missPassage s.base number s.flow
        accept (s.conclude f) (optFF ((f.toPlant.passage? number).map fun p => p.st.code))
      else refuse s .state) s)

/-- The books of the Toll Unit replaced. -/
def State.withBooks (s : State) (b : Books) : State := { s with base := { s.base with books := b } }

/-- 08/R146, R152: the books after a CLEARED. -/
def clearedBooks (v : Base) (x : Passage) (charge : Nat) : Books :=
  appendLog (logRecord x charge false v.clock) (countHull x.mark v.clock v.books)

/-- 08/R152: the books after a REMOVE. -/
def removedBooks (v : Base) (x : Passage) (charge : Nat) : Books :=
  appendLog (logRecord x charge true v.clock) v.books

/-- 05/R94, 08/R151: a passage ends with its charge posted, and leaves its batch. -/
def endCharged (v : Base) (x : Passage) (e : PassEnd) (be : BatchEnd) (charge : Nat) (f : Flow) : Flow :=
  leaveItsBatch v x be (endPassage v x e charge (postCharge v x charge f))

/-- CLEARED (07/R127; 08/R146, R151, R152): the reply carries the fee. -/
def execCleared (rq : Rq) (number : Nat) (s : State) : Result :=
  .next (serve rq 0x43 0 (fun s =>
    match s.plant.passage? number with
    | none => refuse s .notFound
    | some x =>
      if x.st = .leaving ∧ s.plant.stepOf x = some .leaving then
        let charge := clearedCharge s.base.settings x
        let t := s.withBooks (clearedBooks s.base x charge)
        accept (t.conclude (endCharged t.base x .completed .completed charge t.flow)) (u4 charge)
      else refuse s .state) s)

/-- 07/R132: a member that the keeper may eject. -/
def mayEject (p : Plant) (x : Passage) : Bool :=
  (x.st == .called || x.st == .berthed) &&
    (match p.batchOf x with
    | none => false
    | some b =>
      (b.effective == .entering || b.effective == .sealing) && b.chamber == some b.dir.entryChamber)

/-- EJECT (07/R132): no charge and no log record; the reservation is released. -/
def execEject (rq : Rq) (number : Nat) (s : State) : Result :=
  .next (serve rq 0x44 0 (fun s =>
    match s.plant.passage? number with
    | none => refuse s .notFound
    | some x =>
      if mayEject s.plant x then
        accept (s.conclude
          (leaveItsBatch s.base x .dissolved (endPassage s.base x .ejected 0 (releaseReserve x s.flow)))) []
      else refuse s .state) s)

/-- REMOVE (07/R133; 08/R151, R152): the class minimum is posted; the reply carries the charge. -/
def execRemove (rq : Rq) (number : Nat) (s : State) : Result :=
  .next (serve rq 0x45 0 (fun s =>
    match s.plant.passage? number with
    | none => refuse s .notFound
    | some x =>
      if x.st.waits then refuse s .state
      else
        let charge := classMinimum s.base.settings x
        let t := s.withBooks (removedBooks s.base x charge)
        accept (t.conclude (endCharged t.base x .removed .removed charge t.flow)) (u4 charge)) s)

/-! ## The berth and overdue timers (07/R122, R126) -/

/-- The berth timer of a batch that is worked in a step has reached the berth limit. -/
def berthDue (v : Base) (p : Plant) (st : Step) (b : Batch) : Bool :=
  b.step == st && !b.frozen && p.regime.mode == .auto && b.berth.since.isSome
    && decide (10 * v.settings.berthLimit ≤ b.berth.value v.elapsed)

/-- ENTRY_BERTH_EXPIRY (07/R122): each member not yet berthed is missed. -/
def execEntryBerthExpiry (batch : Nat) (s : State) : Result :=
  .next (match s.powered, s.plant.batch? batch with
    | true, some b =>
      if berthDue s.base s.plant .entering b then
        s.conclude (overAll (lateMembers s.plant b) (missPassage s.base) s.flow)
      else s
    | _, _ => s)

/-- 07/R126: a batch whose members are late in a shift is held OVERDUE, BERTH_OVERDUE is raised, and the overdue timer
starts. -/
def holdOverdue (v : Base) (b : Batch) (f : Flow) : Flow :=
  overdueReport v b (setBatch b.id (fun x => { x with overdue := some v.elapsed }) (hold v b.id .overdue f))

/-- SHIFT_BERTH_EXPIRY (07/R126). -/
def execShiftBerthExpiry (batch : Nat) (s : State) : Result :=
  .next (match s.powered, s.plant.batch? batch with
    | true, some b =>
      if berthDue s.base s.plant .shifting b && anyShifting s.plant b then s.conclude (holdOverdue s.base b s.flow)
      else s
    | _, _ => s)

/-- OVERDUE_REPEAT (07/R126): 300 s after the last BERTH_OVERDUE it is raised again, and the timer restarts. -/
def execOverdueRepeat (batch : Nat) (s : State) : Result :=
  .next (match s.powered, s.plant.batch? batch with
    | true, some b =>
      if ranFor s.base b.overdue Config.overdueRepeat then
        s.deliver (overdueReport s.base b
          (setBatch batch (fun x => { x with overdue := some s.base.elapsed }) s.flow))
      else s
    | _, _ => s)

/-! ## WAVED and CONFIRM (07/R131, R138) -/

/-- 07/R131, 04/R76: the waiver of the head that a batch's step stages; none where the Signal Unit refuses it. -/
def waiveBatch (v : Base) (b : Batch) (f : Flow) : Option Flow :=
  match b.headOf b.effective with
  | none => none
  | some h => (waiveHead v b.id h f).map (setBatch b.id fun x => { x with waved := true })

/-- WAVED (07/R131): accepted in any mode for a batch HELD with cause GREEN. -/
def execWaved (rq : Rq) (batch : Nat) (s : State) : Result :=
  .next (serve rq 0x46 0 (fun s =>
    match s.plant.batch? batch with
    | none => refuse s .notFound
    | some b =>
      if b.step = .held ∧ b.causes.green then
        match waiveBatch s.base b s.flow with
        | none => refuse s .state
        | some f => accept (s.conclude f) []
      else refuse s .state) s)

/-- The batch names chamber k, as its chamber or its target. -/
def Batch.names (b : Batch) (k : Nat) : Bool := b.chamber == some k || b.target == some k

/-- 07/R138: the chamber confirmed is the batch's; an UNRESOLVED batch that claimed it loses that claim. -/
def placeBatch (id k : Nat) (f : Flow) : Flow :=
  { f with batches := f.batches.map fun b =>
      if b.id = id then { b with chamber := some k, target := none }
      else if b.step = .unresolved then
        { b with chamber := if b.chamber = some k then none else b.chamber,
                 target := if b.target = some k then none else b.target }
      else b }

/-- 05/R92, 07/R138: a member confirmed in a chamber, with the cause of a Tracker movement (log 75); its fee is fixed where
it had no first berthing. -/
def confirmMember (v : Base) (k n : Nat) (f : Flow) : Flow :=
  match f.toPlant.passage? n with
  | none => f
  | some x =>
    let g := changePassage v n .movement (fun p =>
      { p with st := .berthed, chamber := some k, berthedAt := some (p.berthedAt.getD v.clock) }) f
    if x.berthedAt.isNone then fixFee v n g else g

/-- 07/R138: the step a confirmed batch takes. -/
def confirmedStep (f : Plant) (d : Dir) (k : Nat) : Step :=
  if k = d.lastChamber ∧ (f.gates.nth d.exitGate).st = .opened then .leaving else .waitingAhead

/-- 07/R138: an accepted CONFIRM. -/
def confirmBatch (v : Base) (b : Batch) (k : Nat) (f : Flow) : Flow :=
  let f := overAll (b.members.map (·.number)) (confirmMember v k) (tellOccupied v (placeBatch b.id k) f)
  enterStep v b.id (confirmedStep f.toPlant b.dir k) f

/-- CONFIRM (07/R138): the reply carries the step. -/
def execConfirm (rq : Rq) (batch chamber : Nat) (s : State) : Result :=
  .next (serve rq 0x47 0 (fun s =>
    if chamber < 1 ∨ 3 < chamber then badField s 2
    else
      match s.plant.batch? batch with
      | none => refuse s .notFound
      | some b =>
        if b.step ≠ .unresolved ∨ s.plant.batches.any (fun x => x.step != .unresolved && x.names chamber) then
          refuse s .state
        else
          accept (s.conclude (confirmBatch s.base b chamber s.flow))
            (u1 (confirmedStep s.plant b.dir chamber).code)) s)

end Sys2Proof.Machine
end

