-- ==== Sys2Proof/Machine/TollCommands.lean ====
section
/-! DEFINITION. The requests of the Toll Unit (spec 08): TARIFF_GET, TARIFF_SET, HULL_QUERY, ACCOUNT_QUERY, ACCOUNT_SET,
ACCOUNT_CREDIT, LOG_READ, LOG_DROP, PERIOD_CLOSE. -/

namespace Sys2Proof.Machine

/-! ## The tariff (08/R140) -/

/-- A tariff row in a reply, in the widths of TARIFF_SET (11, section 11.3). -/
def Tariff.bytes (t : Tariff) : List Byte := u4 t.base ++ u2 t.perMetre ++ u2 t.perTonne ++ u4 t.minimum

/-- 08, section 8.1: the six global settings, each in the 4 bytes of a setting value (11/R181). -/
def globalBytes (v : Settings) : List Byte :=
  settingBytes v [.nightStart, .nightEnd, .nightSurcharge, .waterSurcharge, .frequentThreshold, .frequentDiscount]

/-- TARIFF_GET (08/R140). -/
def execTariffGet (rq : Rq) (cls : Nat) (s : State) : Result :=
  .next (serve rq 0x50 2 (fun s =>
    match unit? 8 cls with
    | none => badField s 1
    | some c => accept s ((s.base.settings.tariff.nth c).bytes ++ globalBytes s.base.settings)) s)

/-- 08/R140: the position of the first field of a tariff row out of range; none when all are in range. -/
def badTariff (t : Tariff) : Option Nat :=
  if 100000 < t.base then some 2
  else if 10000 < t.perMetre then some 3
  else if 10000 < t.perTonne then some 4
  else if 1000000 < t.minimum then some 5
  else none

/-- The settings with one tariff row replaced. -/
def Settings.withTariff (v : Settings) (c : Fin 8) (t : Tariff) : Settings := { v with tariff := v.tariff.put c t }

/-- TARIFF_SET (08/R140): replaces the whole row of a class; the reply carries the row. -/
def execTariffSet (rq : Rq) (cls base perMetre perTonne minimum : Nat) (s : State) : Result :=
  .next (serve rq 0x51 0 (fun s =>
    let t : Tariff := ⟨base, perMetre, perTonne, minimum⟩
    match unit? 8 cls, badTariff t with
    | none, _ => badField s 1
    | some _, some k => badField s k
    | some c, none => accept (s.withSettings (s.base.settings.withTariff c t)) t.bytes) s)

/-! ## Hulls and accounts (08/R146 to R149) -/

/-- HULL_QUERY (08/R146): the entry, its rank, and whether the hull belongs to an open passage. -/
def execHullQuery (rq : Rq) (mark : List Byte) (s : State) : Result :=
  .next (serve rq 0x52 1 (fun s =>
    if hullMarkOk mark = false then badField s 1
    else
      match s.base.books.hulls.find? fun h => h.mark == mark with
      | none => refuse s .notFound
      | some h =>
        accept s (h.bytes ((s.base.books.hulls.findIdx fun x => x.mark == mark) + 1)
          (s.plant.passages.any fun p => p.mark == mark))) s)

/-- 08, section 8.6: account ids are 1 to 64. -/
def accountIdOk (id : Nat) : Bool := decide (1 ≤ id ∧ id ≤ 64)

/-- 11/R182: one passage in an ACCOUNT_QUERY reply; an absent committed amount is sent as 0 (log 14). -/
def accountPassage (p : Passage) : List Byte :=
  u4 p.number ++ u1 p.st.code ++ u1 (commitCode p.committed) ++ u4 p.amount

/-- 11/R182: the most passages one ACCOUNT_QUERY reply lists. -/
def maxListed : Nat := 22

/-- ACCOUNT_QUERY (08/R149; 11/R182). -/
def execAccountQuery (rq : Rq) (id : Nat) (s : State) : Result :=
  .next (serve rq 0x53 1 (fun s =>
    if accountIdOk id = false then badField s 1
    else
      match s.plant.account? id with
      | none => refuse s .notFound
      | some a =>
        let ps := s.plant.passages.filter fun p => p.payment == some id
        let shown := ps.take maxListed
        accept s (a.bytes ++ s4 a.headroom ++ u1 ps.length ++ u1 shown.length ++ shown.flatMap accountPassage)) s)

/-- The account of an id, put in its place by id, or replacing the one that is there. -/
def putAccount (a : Account) (xs : List Account) : List Account :=
  xs.filter (fun x => decide (x.id < a.id)) ++ a :: xs.filter fun x => decide (a.id < x.id)

/-- 08/R147: an account that has just been created, before its fields are applied. -/
def newAccount (id : Nat) : Account := ⟨id, false, 0, 0, 0, 0⟩

/-- 08/R147; 11, section 11.3: the fields of an ACCOUNT_SET applied where they are present. -/
def Account.apply (a : Account) (presence state limit : Nat) : Account :=
  { a with
    blocked := if presence % 2 = 1 then state == 1 else a.blocked
    limit := if presence / 2 % 2 = 1 then limit else a.limit }

/-- 08/R147: the position of the first field of an ACCOUNT_SET out of range; none when all that are present are in
range. -/
def badAccountSet (id presence state limit : Nat) : Option Nat :=
  if accountIdOk id = false then some 1
  else if 3 < presence then some 2
  else if presence % 2 = 1 ∧ 1 < state then some 3
  else if presence / 2 % 2 = 1 ∧ 99999999 < limit then some 4
  else none

/-- ACCOUNT_SET (08/R147): creates an account or changes it; ACCOUNT_STATE on a creation or change. -/
def execAccountSet (rq : Rq) (id presence state limit : Nat) (s : State) : Result :=
  .next (serve rq 0x54 1 (fun s =>
    match badAccountSet id presence state limit with
    | some k => badField s k
    | none =>
      let old := s.plant.account? id
      let a := (old.getD (newAccount id)).apply presence state limit
      if old = some a then accept s a.bytes
      else
        accept (s.deliver
          (accountReport s.base a { s.flow with accounts := putAccount a s.plant.accounts })) a.bytes) s)

/-- 08/R148: the amount applied. -/
def creditApplied (a : Account) (amount : Nat) : Nat := min amount (Config.maxBalance - a.balance).toNat

/-- ACCOUNT_CREDIT (08/R148): the reply carries the amount applied and the new balance. -/
def execAccountCredit (rq : Rq) (id amount : Nat) (s : State) : Result :=
  .next (serve rq 0x55 1 (fun s =>
    if accountIdOk id = false then badField s 1
    else if amount < 1 ∨ 99999999 < amount then badField s 2
    else
      match s.plant.account? id with
      | none => refuse s .notFound
      | some a =>
        let n := creditApplied a amount
        let b := { a with balance := a.balance + n }
        let body := u4 n ++ s4 b.balance
        if n = 0 then accept s body
        else accept (s.deliver (accountReport s.base b (setAccount id (fun _ => b) s.flow))) body) s)

/-! ## The log and the period (08/R153 to R155) -/

/-- LOG_READ (08/R153). -/
def execLogRead (rq : Rq) (count : Nat) (s : State) : Result :=
  .next (serve rq 0x56 1 (fun s =>
    if count < 1 ∨ 4 < count then badField s 1
    else
      let log := s.base.books.log
      accept s (u2 log.length ++ (log.take count).flatMap LogRec.bytes)) s)

/-- 08/R154: the passage number sent is not that of the oldest record. -/
def oldestDiffers (log : List LogRec) (oldest : Option Nat) : Bool :=
  match oldest, log with
  | some n, r :: _ => r.number != n
  | _, _ => false

/-- LOG_DROP (08/R154): the reply carries the number of records remaining, in 2 bytes as the log count (log 14); the
Scheduler is told. -/
def execLogDrop (rq : Rq) (count : Nat) (oldest : Option Nat) (s : State) : Result :=
  .next (serve rq 0x57 1 (fun s =>
    let log := s.base.books.log
    if count < 1 ∨ 256 < count then badField s 1
    else if log.length < count then badTogether s
    else if oldestDiffers log oldest then refuse s .state
    else
      let t := s.withBooks { s.base.books with log := log.drop count }
      accept (t.conclude (askOpportunity t.flow)) (u2 (log.length - count))) s)

/-- 08/R155: the books of a new period. -/
def Books.closed (b : Books) (now : Clock) : Books :=
  { b with hulls := b.hulls.map fun h => { h with passages := 0 }, periodStart := now }

/-- PERIOD_CLOSE (08/R155): the counts zeroed, the period start stamped, RETAINED_LOST cleared, PERIOD_CLOSED raised. -/
def execPeriodClose (rq : Rq) (s : State) : Result :=
  .next (serve rq 0x58 0 (fun s =>
    let now := s.base.clock
    let t := s.withBooks (s.base.books.closed now)
    let t := { t with link := { t.link with retainedLost := false } }
    let f := { t.flow with accounts := s.plant.accounts.map fun a => { a with posted := 0 } }
    let fields := stampBytes s.base.books.periodStart ++ stampBytes now
    accept (t.deliver (raise t.base .account 0x74 fields f)) (stampBytes now)) s)

end Sys2Proof.Machine
end

