-- ==== Sys2Proof/Machine/RegimeCommands.lean ====
section
/-! DEFINITION. The commands of the Regime Unit (spec 09): FLIGHT_STATUS, MODE, FLIGHT_CLOSE, FLIGHT_OPEN, STANDDOWN,
RESUME, MAINS_INPUT, BATTERY_INPUT, DEADLINE_EXPIRY. -/

namespace Sys2Proof.Machine

/-! ## FLIGHT_STATUS (09/R168) -/

/-- 09/R168: the stand-down progress: whether one is in progress, and then the gates, the sluices and the heads awaited
and the left list (a count, then for each whether it is a sluice, its gate and its reason). -/
def progressBytes (r : Regime) : List Byte :=
  match r.progress with
  | none => b1 false
  | some p =>
    b1 true ++ bits1 p.gates.toList ++ bits1 p.sluices.toList ++ b1 p.heads ++ u1 r.left.length
      ++ r.left.flatMap fun e => b1 e.sluice ++ u1 e.index ++ u1 e.reason.code

/-- 09/R168: whether RESUME would be accepted now, and the first reason against it: 1 to 3 in the order of R165,
0 for none (log 14). -/
def resumeBytes : Option ResumeBar → List Byte
  | none => b1 true ++ u1 0
  | some .notStoodDown => b1 false ++ u1 1
  | some .mainsOrFlood => b1 false ++ u1 2
  | some .unresolved => b1 false ++ u1 3

/-- 09/R168: the body of a FLIGHT_STATUS reply; the mains and battery readings are 1 for ABSENT and for LOW. -/
def flightBody (v : Base) (p : Plant) : List Byte :=
  let r := p.regime
  u1 r.condition.code ++ u1 r.mode.code ++ r.causeByte ++ r.deadline.bytes v.elapsed ++ b1 (!r.mainsPresent)
    ++ b1 r.batteryLow ++ progressBytes r ++ u1 (p.batches.filter fun b => b.step == .unresolved).length
    ++ resumeBytes (resumeBar p) ++ settingBytes v.settings [.closingDeadline]

/-- FLIGHT_STATUS (09/R168). -/
def execFlightStatus (rq : Rq) (s : State) : Result :=
  .next (serve rq 0x60 2 (fun s => accept s (flightBody s.base s.plant)) s)

/-! ## MODE and the keeper's orders (09/R158, R161, R164, R165) -/

/-- MODE (09/R158): the reply carries the mode and the flight condition. -/
def execMode (rq : Rq) (m : Nat) (s : State) : Result :=
  .next (serve rq 0x61 0 (fun s =>
    match mode? m with
    | none => badField s 1
    | some m =>
      let body := u1 m.code ++ u1 s.plant.regime.condition.code
      if s.plant.regime.mode = m then accept s body else accept (s.conclude (changeMode s.base m s.flow)) body) s)

/-- 09/R161: KEEPER put in or taken out of the cause set; the answer carries the cause set and the flight condition. -/
def keeperOrder (x : Bool) (s : State) : Answer :=
  let f := keeperCause s.base x s.flow
  accept (s.conclude f) (f.regime.causeByte ++ u1 f.regime.condition.code)

/-- FLIGHT_CLOSE (09/R161). -/
def execFlightClose (rq : Rq) (s : State) : Result := .next (serve rq 0x62 0 (keeperOrder true) s)

/-- FLIGHT_OPEN (09/R161). -/
def execFlightOpen (rq : Rq) (s : State) : Result := .next (serve rq 0x63 0 (keeperOrder false) s)

/-- STANDDOWN (09/R164): the reply carries the condition and whether the stand-down is still in progress, once the other
blocks have reacted (log 8). -/
def execStanddown (rq : Rq) (s : State) : Result :=
  .next (serve rq 0x64 0 (fun s =>
    let t := if s.plant.regime.stoodDown then s else s.conclude (standDown s.base .keeper s.flow)
    accept t (u1 t.plant.regime.condition.code ++ b1 t.plant.regime.progress.isSome)) s)

/-- RESUME (09/R165): the reply carries the new condition. -/
def execResume (rq : Rq) (s : State) : Result :=
  .next (serve rq 0x65 0 (fun s =>
    match resumeBar s.plant with
    | some _ => refuse s .state
    | none =>
      let f := resumeFlight s.base s.flow
      accept (s.conclude f) (u1 f.regime.condition.code)) s)

/-! ## The supply inputs and the deadline (09/R159, R160) -/

/-- MAINS_INPUT (09/R159, R160): the mains-present input as it now stands. -/
def execMainsInput (present : Bool) (s : State) : Result :=
  let t := s.withPins { s.base.pins with mains := present }
  .next (if s.powered && s.plant.regime.mainsPresent != present then t.conclude (mainsChanged t.base t.flow) else t)

/-- BATTERY_INPUT (09/R160): the battery-low input as it now stands. -/
def execBatteryInput (low : Bool) (s : State) : Result :=
  let t := s.withPins { s.base.pins with batteryLow := low }
  .next (if s.powered && s.plant.regime.batteryLow != low then t.conclude (batteryChanged t.base t.flow) else t)

/-- The running deadline has come to its end. -/
def Deadline.due (d : Deadline) (now : Nat) : Bool :=
  match d with
  | .running t => decide (t ≤ now)
  | _ => false

/-- DEADLINE_EXPIRY (09/R160). -/
def execDeadlineExpiry (s : State) : Result :=
  .next (if s.powered && s.plant.regime.deadline.due s.base.elapsed then s.conclude (expireDeadline s.base s.flow)
    else s)

end Sys2Proof.Machine
end

