-- ==== Sys2Proof/Machine/Frames.lean ====
section
/-! DEFINITION. The lines (spec 10, sections 10.2 to 10.4; 11): RECEIVE_BYTE, FRAMING_ERROR_BYTE, FRAME_GAP_TIMEOUT,
FRAME_TAKEN, TRANSMITTER_FREE, with the decoding of request frames (11, section 11.3). -/

namespace Sys2Proof.Machine

/-- The record of a port changed. -/
def State.updPort (s : State) (p : Port) (fn : PortRec → PortRec) : State :=
  { s with link := s.link.setPort p (fn (s.link.port p)) }

/-! ## Assembly (10/R170, R171) -/

/-- 10, section 10.2: the lengths of a frame. -/
def lengthOk (b : Byte) : Bool := decide (3 ≤ b.toNat ∧ b.toNat ≤ 249)

/-- 11, section 11.1: the frame that the bytes after the start byte hold; the length stands first, and the CRC, not
part of the frame, last. -/
def frameOf (bytes : List Byte) : Frame :=
  ⟨natOf ((bytes.drop 1).take 1), natOf ((bytes.drop 2).take 1), natOf ((bytes.drop 3).take 1),
    (bytes.drop 4).take (natOf (bytes.take 1) - 3)⟩

/-- 10, section 10.2: the CRC over the length byte through the end of the body matches the two bytes after it. -/
def crcMatches (bytes : List Byte) : Bool :=
  let n := natOf (bytes.take 1) + 1
  (crc16 (bytes.take n)).toNat == natOf ((bytes.drop n).take 2)

/-- What a byte does to an assembly: the assembly after it, and the frame it completes, its CRC matching. -/
def Assembly.take (now : Nat) (b : Byte) : Assembly → Assembly × Option Frame
  | .hunting => (if b = 0xA5#8 then .part [] now else .hunting, none)
  | .part [] _ => (if lengthOk b then .part [b] now else .hunting, none)
  | .part (n :: bs) _ =>
    let bytes := n :: bs ++ [b]
    if bytes.length < n.toNat + 3 then (.part bytes now, none)
    else (.hunting, if crcMatches bytes then some (frameOf bytes) else none)

/-- 10/R171: a complete frame joins the receive buffer, is answered BUSY, or is dropped. -/
def State.joinBuffer (s : State) (p : Port) (x : Frame) : State :=
  if (s.link.port p).buffer.length < Config.maxBuffer then s.updPort p fun k => { k with buffer := k.buffer ++ [x] }
  else if (s.link.port p).replies.length < Config.maxReplies then s.reply p x.kind x.tag .busy [] .nothing
  else s

/-- RECEIVE_BYTE (10/R170, R171). -/
def execReceiveByte (p : Port) (b : Byte) (s : State) : Result :=
  .next (if s.powered then
      match (s.link.port p).asm.take s.base.elapsed b with
      | (asm, none) => s.updPort p fun k => { k with asm := asm }
      | (asm, some x) => (s.updPort p fun k => { k with asm := asm }).joinBuffer p x
    else s)

/-- FRAMING_ERROR_BYTE (10/R170): the partial frame and the byte are discarded. -/
def execFramingErrorByte (p : Port) (s : State) : Result :=
  .next (if s.powered then s.updPort p fun k => { k with asm := .hunting } else s)

/-- FRAME_GAP_TIMEOUT (10/R170): the partial frame is discarded; the next byte is taken as a hunting byte. -/
def execFrameGapTimeout (p : Port) (s : State) : Result :=
  .next (if s.powered then s.updPort p fun k => { k with asm := .hunting } else s)

/-! ## Request kinds (11, section 11.3) -/

/-- 11, section 11.3: the required level of a kind and the body lengths it allows; none for a kind outside the
catalogue. -/
def kindOf (kind : Nat) : Option (Nat × List Nat) :=
  match kind with
  | 0x01 => some (2, [0])
  | 0x02 => some (2, [1])
  | 0x03 => some (0, [1])
  | 0x04 => some (1, [2])
  | 0x05 => some (0, [6])
  | 0x06 => some (0, [0])
  | 0x07 => some (0, [0])
  | 0x08 => some (1, [5])
  | 0x10 => some (2, [0])
  | 0x11 => some (0, [1, 3])
  | 0x12 => some (0, [4])
  | 0x13 => some (0, [1])
  | 0x18 => some (2, [0])
  | 0x19 => some (0, [2])
  | 0x1A => some (0, [2])
  | 0x20 => some (2, [0])
  | 0x21 => some (0, [2])
  | 0x28 => some (2, [0])
  | 0x29 => some (0, [2])
  | 0x2A => some (0, [2])
  | 0x30 => some (2, [20])
  | 0x31 => some (2, [4])
  | 0x32 => some (2, [4, 8])
  | 0x33 => some (2, [2])
  | 0x38 => some (2, [0])
  | 0x39 => some (1, [1])
  | 0x40 => some (2, [0])
  | 0x41 => some (0, [4])
  | 0x42 => some (0, [4])
  | 0x43 => some (0, [4])
  | 0x44 => some (0, [4])
  | 0x45 => some (0, [4])
  | 0x46 => some (0, [1])
  | 0x47 => some (0, [2])
  | 0x50 => some (2, [1])
  | 0x51 => some (0, [13])
  | 0x52 => some (1, [8])
  | 0x53 => some (1, [1])
  | 0x54 => some (1, [7])
  | 0x55 => some (1, [5])
  | 0x56 => some (1, [1])
  | 0x57 => some (1, [2, 6])
  | 0x58 => some (0, [0])
  | 0x60 => some (2, [0])
  | 0x61 => some (0, [1])
  | 0x62 => some (0, [0])
  | 0x63 => some (0, [0])
  | 0x64 => some (0, [0])
  | 0x65 => some (0, [0])
  | _ => none

/-- An unsigned field of a body. -/
def field (body : List Byte) (offset size : Nat) : Nat := natOf ((body.drop offset).take size)

/-- A signed field of a body. -/
def fieldS (body : List Byte) (offset size : Nat) : Int := intOf ((body.drop offset).take size)

/-- 11, section 11.3: the fields of a PASS_REQUEST body. -/
def declarationOf (b : List Byte) : Declaration where
  mark := b.take 8
  direction := field b 8 1
  length := field b 9 2
  beam := field b 11 2
  draught := field b 13 2
  tonnes := field b 15 2
  cls := field b 17 1
  payment := field b 18 1
  priority := field b 19 1

/-- 11, section 11.4: the command of a GATE_CMD frame; none for an action code that names no action. -/
def gateAction (rq : Rq) (gate action : Nat) : Option Instr :=
  match action with
  | 0 => some (.gateCmdOpen rq gate)
  | 1 => some (.gateCmdForceOpen rq gate)
  | 2 => some (.gateCmdClose rq gate)
  | 3 => some (.gateCmdReset rq gate)
  | 4 => some (.gateCmdRelease rq gate)
  | _ => none

/-- 11, section 11.4: the command of a LEVEL_CMD frame; none for an action code that names no action. -/
def levelAction (rq : Rq) (gate action : Nat) : Option Instr :=
  match action with
  | 0 => some (.levelCmdStart rq gate)
  | 1 => some (.levelCmdCancel rq gate)
  | _ => none

/-- 11, section 11.3: the command that a request frame of the catalogue spells, its body of an allowed length; none for
an action code that names no action. -/
def decodeRequest (rq : Rq) (kind : Nat) (b : List Byte) : Option Instr :=
  match kind with
  | 0x01 => some (.status rq)
  | 0x02 => some (.subscribe rq (field b 0 1))
  | 0x03 => some (.netLevel rq (field b 0 1))
  | 0x04 => some (.settingGet rq (field b 0 2))
  | 0x05 => some (.settingSet rq (field b 0 2) (fieldS b 2 4))
  | 0x06 => some (.settingsStore rq)
  | 0x07 => some (.restart rq)
  | 0x08 => some (.clockSet rq (field b 0 1) (field b 1 1) (field b 2 1) (field b 3 2))
  | 0x10 => some (.levels rq)
  | 0x11 =>
    some (if b.length = 1 then .gaugeSubstWithdrawal rq (field b 0 1) else .gaugeSubst rq (field b 0 1) (fieldS b 1 2))
  | 0x12 => some (.calPoint rq (field b 0 1) (field b 1 1) (fieldS b 2 2))
  | 0x13 => some (.calCommit rq (field b 0 1))
  | 0x18 => some (.gates rq)
  | 0x19 => gateAction rq (field b 0 1) (field b 1 1)
  | 0x1A =>
    some (if field b 1 1 = 0xFF then .sluiceCmdReset rq (field b 0 1)
      else .sluiceCmdPosition rq (field b 0 1) (field b 1 1))
  | 0x20 => some (.levellingStatus rq)
  | 0x21 => levelAction rq (field b 0 1) (field b 1 1)
  | 0x28 => some (.signals rq)
  | 0x29 =>
    some (if field b 1 1 = 0xFF then .headCmdRelease rq (field b 0 1)
      else .headCmdAspect rq (field b 0 1) (field b 1 1))
  | 0x2A => some (.lampReset rq (field b 0 1) (field b 1 1))
  | 0x30 => some (.passRequest rq (declarationOf b))
  | 0x31 => some (.passWithdraw rq (field b 0 4))
  | 0x32 => some (.passQuery rq (if b.length = 4 then .number (field b 0 4) else .hull b))
  | 0x33 => some (.queueList rq (field b 0 1) (field b 1 1))
  | 0x38 => some (.schedulerStatus rq)
  | 0x39 => some (.regime rq (field b 0 1))
  | 0x40 => some (.batches rq)
  | 0x41 => some (.berthed rq (field b 0 4))
  | 0x42 => some (.missed rq (field b 0 4))
  | 0x43 => some (.cleared rq (field b 0 4))
  | 0x44 => some (.eject rq (field b 0 4))
  | 0x45 => some (.remove rq (field b 0 4))
  | 0x46 => some (.waved rq (field b 0 1))
  | 0x47 => some (.confirm rq (field b 0 1) (field b 1 1))
  | 0x50 => some (.tariffGet rq (field b 0 1))
  | 0x51 => some (.tariffSet rq (field b 0 1) (field b 1 4) (field b 5 2) (field b 7 2) (field b 9 4))
  | 0x52 => some (.hullQuery rq b)
  | 0x53 => some (.accountQuery rq (field b 0 1))
  | 0x54 => some (.accountSet rq (field b 0 1) (field b 1 1) (field b 2 1) (field b 3 4))
  | 0x55 => some (.accountCredit rq (field b 0 1) (field b 1 4))
  | 0x56 => some (.logRead rq (field b 0 1))
  | 0x57 => some (.logDrop rq (field b 0 2) (if b.length = 6 then some (field b 2 4) else none))
  | 0x58 => some (.periodClose rq)
  | 0x60 => some (.flightStatus rq)
  | 0x61 => some (.mode rq (field b 0 1))
  | 0x62 => some (.flightClose rq)
  | 0x63 => some (.flightOpen rq)
  | 0x64 => some (.standdown rq)
  | 0x65 => some (.resume rq)
  | _ => none

/-- 10/R171: a request handed to the block that owns its kind; what is no request has no effect here. -/
def runRequest (i : Instr) (s : State) : Result :=
  match i with
  | .status rq => execStatus rq s
  | .subscribe rq m => execSubscribe rq m s
  | .netLevel rq l => execNetLevel rq l s
  | .settingGet rq k => execSettingGet rq k s
  | .settingSet rq k x => execSettingSet rq k x s
  | .settingsStore rq => execSettingsStore rq s
  | .restart rq => execRestart rq s
  | .clockSet rq h m sec d => execClockSet rq h m sec d s
  | .levels rq => execLevels rq s
  | .gaugeSubst rq c l => execGaugeSubst rq c l s
  | .gaugeSubstWithdrawal rq c => execGaugeSubstWithdrawal rq c s
  | .calPoint rq c k y => execCalPoint rq c k y s
  | .calCommit rq c => execCalCommit rq c s
  | .gates rq => execGates rq s
  | .gateCmdOpen rq g => execGateCmdOpen rq g s
  | .gateCmdForceOpen rq g => execGateCmdForceOpen rq g s
  | .gateCmdClose rq g => execGateCmdClose rq g s
  | .gateCmdReset rq g => execGateCmdReset rq g s
  | .gateCmdRelease rq g => execGateCmdRelease rq g s
  | .sluiceCmdPosition rq g x => execSluiceCmdPosition rq g x s
  | .sluiceCmdReset rq g => execSluiceCmdReset rq g s
  | .levelCmdStart rq g => execLevelCmdStart rq g s
  | .levelCmdCancel rq g => execLevelCmdCancel rq g s
  | .levellingStatus rq => execLevellingStatus rq s
  | .lampReset rq h l => execLampReset rq h l s
  | .headCmdAspect rq h a => execHeadCmdAspect rq h a s
  | .headCmdRelease rq h => execHeadCmdRelease rq h s
  | .signals rq => execSignals rq s
  | .passRequest rq d => execPassRequest rq d s
  | .passWithdraw rq n => execPassWithdraw rq n s
  | .passQuery rq k => execPassQuery rq k s
  | .queueList rq k n => execQueueList rq k n s
  | .schedulerStatus rq => execSchedulerStatus rq s
  | .regime rq x => execRegime rq x s
  | .batches rq => execBatches rq s
  | .berthed rq n => execBerthed rq n s
  | .missed rq n => execMissed rq n s
  | .cleared rq n => execCleared rq n s
  | .eject rq n => execEject rq n s
  | .remove rq n => execRemove rq n s
  | .waved rq b => execWaved rq b s
  | .confirm rq b k => execConfirm rq b k s
  | .tariffGet rq c => execTariffGet rq c s
  | .tariffSet rq c b m t n => execTariffSet rq c b m t n s
  | .hullQuery rq m => execHullQuery rq m s
  | .accountQuery rq a => execAccountQuery rq a s
  | .accountSet rq a p st l => execAccountSet rq a p st l s
  | .accountCredit rq a n => execAccountCredit rq a n s
  | .logRead rq n => execLogRead rq n s
  | .logDrop rq n o => execLogDrop rq n o s
  | .periodClose rq => execPeriodClose rq s
  | .flightStatus rq => execFlightStatus rq s
  | .mode rq m => execMode rq m s
  | .flightClose rq => execFlightClose rq s
  | .flightOpen rq => execFlightOpen rq s
  | .standdown rq => execStanddown rq s
  | .resume rq => execResume rq s
  | _ => .next s

/-! ## Taking a frame (10/R171, R173) -/

/-- 10/R173: a frame taken is judged on its kind, its claimed level, its effective level and its body length, in that
order, and then handed to its block; an action code that names none is a field out of range (11/R181, R182). -/
def judgeFrame (p : Port) (x : Frame) (s : State) : Result :=
  let rq : Rq := ⟨p, x.level, x.tag⟩
  let refusal (st : Status) (body : List Byte) : Result := .next (s.reply p x.kind x.tag st body .nothing)
  match kindOf x.kind with
  | none => refusal .unknown []
  | some (required, lengths) =>
    if 2 < x.level then refusal .badField (u1 0)
    else if required < effectiveLevel s rq then refusal .denied []
    else if !lengths.contains x.body.length then refusal .badField (u1 0)
    else
      match decodeRequest rq x.kind x.body with
      | some i => runRequest i s
      | none => refusal .badField (u1 (if 4 ≤ field x.body 0 1 then 1 else 2))

/-- FRAME_TAKEN (10/R171, R173): the frame at the head of a receive buffer leaves it and is judged. -/
def execFrameTaken (p : Port) (s : State) : Result :=
  if s.takes p then
    match (s.link.port p).buffer with
    | [] => .next s
    | x :: rest => judgeFrame p x (s.updPort p fun k => { k with buffer := rest })
  else .next s

/-! ## Sending (10/R172) -/

/-- 11/R183: a report as a frame. -/
def Report.frame (r : Report) : OutFrame := ⟨0x7F, 0, r.cls.code, r.body, .nothing⟩

/-- 10/R180, R169: what follows when a frame has been sent in full. -/
def State.afterSent (s : State) (a : AfterSent) : State :=
  match a with
  | .nothing => s
  | .restart => { s with link := { s.link with restartDue := true } }
  | .rate p r => s.updPort p fun k => { k with rate := r, asm := .hunting }

/-- 10/R172: the frame being sent on a port is finished. -/
def State.finishSending (s : State) (p : Port) : State :=
  match (s.link.port p).sending with
  | none => s
  | some o => (s.updPort p fun k => { k with sending := none }).afterSent o.after

/-- 10/R172: the oldest reply, or else the oldest report, begins to be sent. A reply leaves its line then, as R172 says of
a report, and no longer counts among the 8 (log 6). -/
def PortRec.sendNext (k : PortRec) : PortRec :=
  match k.replies, k.reports with
  | o :: rest, _ => { k with replies := rest, sending := some o }
  | [], r :: rest => { k with reports := rest, sending := some r.frame }
  | [], [] => k

/-- 10/R179: the reply of a store that was owed joins the line when there is room (log 7). -/
def State.payOwed (s : State) (p : Port) : State :=
  match (s.link.port p).owed with
  | none => s
  | some tag =>
    if (s.link.port p).replies.length < Config.maxReplies then
      (s.updPort p fun k => { k with owed := none }).reply p 0x06 tag .ok [] .nothing
    else s

/-- TRANSMITTER_FREE (10/R172): the frame before is finished, and the next begins; a RESTART that is due lets nothing more
be sent (10/R180). -/
def execTransmitterFree (p : Port) (s : State) : Result :=
  .next (if s.powered then
      let s := s.finishSending p
      if s.link.restartDue then s else (s.updPort p PortRec.sendNext).payOwed p
    else s)

end Sys2Proof.Machine
end

