-- ==== Sys2Proof/Machine/Dispatch.lean ====
section
/-! DEFINITION. One arm per command: its meaning. -/

namespace Sys2Proof.Machine

/-- The effect of a command on everything but the queue. -/
def exec (i : Instr) (s : State) : Host.Outcome State Fault Refusal :=
  match i with
  -- supply and start
  | .powerOn retainedKept => Sys2Proof.Machine.execPowerOn retainedKept s
  | .warmStart => Sys2Proof.Machine.execWarmStart s
  | .powerLoss => Sys2Proof.Machine.execPowerLoss s
  -- the lines
  | .receiveByte p b => Sys2Proof.Machine.execReceiveByte p b s
  | .framingErrorByte p => Sys2Proof.Machine.execFramingErrorByte p s
  | .frameGapTimeout p => Sys2Proof.Machine.execFrameGapTimeout p s
  | .frameTaken p => Sys2Proof.Machine.execFrameTaken p s
  | .transmitterFree p => Sys2Proof.Machine.execTransmitterFree p s
  -- the Link Unit, the settings and the clock
  | .status rq => Sys2Proof.Machine.execStatus rq s
  | .subscribe rq mask => Sys2Proof.Machine.execSubscribe rq mask s
  | .netLevel rq level => Sys2Proof.Machine.execNetLevel rq level s
  | .settingGet rq ident => Sys2Proof.Machine.execSettingGet rq ident s
  | .settingSet rq ident value => Sys2Proof.Machine.execSettingSet rq ident value s
  | .settingsStore rq => Sys2Proof.Machine.execSettingsStore rq s
  | .settingsStoreDone => Sys2Proof.Machine.execSettingsStoreDone s
  | .restart rq => Sys2Proof.Machine.execRestart rq s
  | .clockSet rq hour minute second day => Sys2Proof.Machine.execClockSet rq hour minute second day s
  -- the Gauge Scanner
  | .scan codes => Sys2Proof.Machine.execScan codes s
  | .floodCleared => Sys2Proof.Machine.execFloodCleared s
  | .calCaptured ch => Sys2Proof.Machine.execCalCaptured ch s
  | .levels rq => Sys2Proof.Machine.execLevels rq s
  | .gaugeSubst rq channel level => Sys2Proof.Machine.execGaugeSubst rq channel level s
  | .gaugeSubstWithdrawal rq channel => Sys2Proof.Machine.execGaugeSubstWithdrawal rq channel s
  | .calPoint rq channel index staff => Sys2Proof.Machine.execCalPoint rq channel index staff s
  | .calCommit rq channel => Sys2Proof.Machine.execCalCommit rq channel s
  -- the Gate and Sluice Unit
  | .gates rq => Sys2Proof.Machine.execGates rq s
  | .gateCmdOpen rq gate => Sys2Proof.Machine.execGateCmdOpen rq gate s
  | .gateCmdForceOpen rq gate => Sys2Proof.Machine.execGateCmdForceOpen rq gate s
  | .gateCmdClose rq gate => Sys2Proof.Machine.execGateCmdClose rq gate s
  | .gateCmdReset rq gate => Sys2Proof.Machine.execGateCmdReset rq gate s
  | .gateCmdRelease rq gate => Sys2Proof.Machine.execGateCmdRelease rq gate s
  | .gateLimitInput g shutLimit openLimit => Sys2Proof.Machine.execGateLimitInput g shutLimit openLimit s
  | .beamInput g blocked => Sys2Proof.Machine.execBeamInput g blocked s
  | .beamClearExpiry g => Sys2Proof.Machine.execBeamClearExpiry g s
  | .travelTimeout g => Sys2Proof.Machine.execTravelTimeout g s
  | .sluicePositionInput g code => Sys2Proof.Machine.execSluicePositionInput g code s
  | .sluiceStepTimeout g => Sys2Proof.Machine.execSluiceStepTimeout g s
  | .intervalMet g => Sys2Proof.Machine.execIntervalMet g s
  | .sluiceCmdPosition rq gate position => Sys2Proof.Machine.execSluiceCmdPosition rq gate position s
  | .sluiceCmdReset rq gate => Sys2Proof.Machine.execSluiceCmdReset rq gate s
  -- the Levelling Unit
  | .stepTimerExpiry g => Sys2Proof.Machine.execStepTimerExpiry g s
  | .levellingComplete g => Sys2Proof.Machine.execLevellingComplete g s
  | .levellingTimeLimit g => Sys2Proof.Machine.execLevellingTimeLimit g s
  | .suspensionTimeout g => Sys2Proof.Machine.execSuspensionTimeout g s
  | .levelCmdStart rq gate => Sys2Proof.Machine.execLevelCmdStart rq gate s
  | .levelCmdCancel rq gate => Sys2Proof.Machine.execLevelCmdCancel rq gate s
  | .levellingStatus rq => Sys2Proof.Machine.execLevellingStatus rq s
  -- the Signal Unit
  | .clearanceMarginExpiry h => Sys2Proof.Machine.execClearanceMarginExpiry h s
  | .lampFail h l => Sys2Proof.Machine.execLampFail h l s
  | .lampCurrentInput h l sensed => Sys2Proof.Machine.execLampCurrentInput h l sensed s
  | .lampStray h l => Sys2Proof.Machine.execLampStray h l s
  | .lampReset rq head lamp => Sys2Proof.Machine.execLampReset rq head lamp s
  | .headCmdAspect rq head aspect => Sys2Proof.Machine.execHeadCmdAspect rq head aspect s
  | .headCmdRelease rq head => Sys2Proof.Machine.execHeadCmdRelease rq head s
  | .signals rq => Sys2Proof.Machine.execSignals rq s
  -- the Passage Queue
  | .passRequest rq d => Sys2Proof.Machine.execPassRequest rq d s
  | .passWithdraw rq number => Sys2Proof.Machine.execPassWithdraw rq number s
  | .passQuery rq key => Sys2Proof.Machine.execPassQuery rq key s
  | .queueList rq first count => Sys2Proof.Machine.execQueueList rq first count s
  -- the Flight Scheduler
  | .idleHoldExpiry => Sys2Proof.Machine.execIdleHoldExpiry s
  | .preparationRetryExpiry => Sys2Proof.Machine.execPreparationRetryExpiry s
  | .drawLeavesWindow => Sys2Proof.Machine.execDrawLeavesWindow s
  | .drawEntryExpiry => Sys2Proof.Machine.execDrawEntryExpiry s
  | .schedulerStatus rq => Sys2Proof.Machine.execSchedulerStatus rq s
  | .regime rq saving => Sys2Proof.Machine.execRegime rq saving s
  -- the Lockage Tracker
  | .batches rq => Sys2Proof.Machine.execBatches rq s
  | .berthed rq number => Sys2Proof.Machine.execBerthed rq number s
  | .missed rq number => Sys2Proof.Machine.execMissed rq number s
  | .entryBerthExpiry batch => Sys2Proof.Machine.execEntryBerthExpiry batch s
  | .shiftBerthExpiry batch => Sys2Proof.Machine.execShiftBerthExpiry batch s
  | .overdueRepeat batch => Sys2Proof.Machine.execOverdueRepeat batch s
  | .cleared rq number => Sys2Proof.Machine.execCleared rq number s
  | .eject rq number => Sys2Proof.Machine.execEject rq number s
  | .remove rq number => Sys2Proof.Machine.execRemove rq number s
  | .waved rq batch => Sys2Proof.Machine.execWaved rq batch s
  | .confirm rq batch chamber => Sys2Proof.Machine.execConfirm rq batch chamber s
  -- the Toll Unit
  | .tariffGet rq cls => Sys2Proof.Machine.execTariffGet rq cls s
  | .tariffSet rq cls base perMetre perTonne minimum => Sys2Proof.Machine.execTariffSet rq cls base perMetre perTonne minimum s
  | .hullQuery rq mark => Sys2Proof.Machine.execHullQuery rq mark s
  | .accountQuery rq id => Sys2Proof.Machine.execAccountQuery rq id s
  | .accountSet rq id presence state limit => Sys2Proof.Machine.execAccountSet rq id presence state limit s
  | .accountCredit rq id amount => Sys2Proof.Machine.execAccountCredit rq id amount s
  | .logRead rq count => Sys2Proof.Machine.execLogRead rq count s
  | .logDrop rq count oldest => Sys2Proof.Machine.execLogDrop rq count oldest s
  | .periodClose rq => Sys2Proof.Machine.execPeriodClose rq s
  -- the Regime Unit
  | .flightStatus rq => Sys2Proof.Machine.execFlightStatus rq s
  | .mode rq m => Sys2Proof.Machine.execMode rq m s
  | .flightClose rq => Sys2Proof.Machine.execFlightClose rq s
  | .flightOpen rq => Sys2Proof.Machine.execFlightOpen rq s
  | .standdown rq => Sys2Proof.Machine.execStanddown rq s
  | .resume rq => Sys2Proof.Machine.execResume rq s
  | .mainsInput present => Sys2Proof.Machine.execMainsInput present s
  | .batteryInput low => Sys2Proof.Machine.execBatteryInput low s
  | .deadlineExpiry => Sys2Proof.Machine.execDeadlineExpiry s

end Sys2Proof.Machine
end

