-- ==== Sys2Proof/Machine/Step.lean ====
section
/-! DEFINITION. One step of the part: the command at the front of the queue, or, on an empty queue, 100 ms of the time
base (log 1, 2). -/

namespace Sys2Proof.Machine

/-- 00, "Units"; 06/R113; 08/R141: 100 ms pass: the elapsed count and the clock advance while the part is powered. What
falls due by then comes as a command (log 9). -/
def tick (s : State) : State :=
  if s.powered then { s with base := { s.base with elapsed := s.base.elapsed + 1, clock := s.base.clock.tick } } else s

/-- The queue without its front. -/
def State.withPending (s : State) (q : List Instr) : State := { s with pending := q }

/-- The command at the front runs on the state with the queue's rest; an empty queue lets 100 ms pass. -/
def step (s : State) : Host.Outcome State Fault Refusal :=
  match s.pending with
  | [] => .next (tick s)
  | c :: rest => exec c (s.withPending rest)

/-- The command that a word spells, put at the front of the queue; no word spells one (Sys2Proof/Decode.lean). -/
def State.withFetchWord (s : State) (nbits w : Nat) : State :=
  match decodeTableWord nbits w with
  | some c => s.withPending (c :: s.pending)
  | none => s

end Sys2Proof.Machine
end

