-- ==== Sys2Proof/Safety.lean ====
section
/-! DEFINITION. The terms in which claims about the part are made: when a request is admitted, how it is answered, what
a bounded line is, and what a safe signal is. -/

namespace Sys2Proof.Machine

/-! ## Requests -/

/-- A port takes a request (10/R171), it claims a level of 0 to 2 (10/R173, check 2), and its effective level is allowed
what the kind requires (check 3). -/
def Admitted (s : State) (rq : Rq) (required : Nat) : Prop :=
  s.takes rq.port = true ∧ rq.claimed ≤ 2 ∧ effectiveLevel s rq ≤ required

/-- The state after an OK reply with a body has joined the reply line of the request's port (10/R171, R172). -/
def State.ok (t : State) (rq : Rq) (kind : Nat) (body : List Byte) : State := t.reply rq.port kind rq.tag .ok body .nothing

/-- The state after a refusal has joined the reply line of the request's port. -/
def State.no (t : State) (rq : Rq) (kind : Nat) (st : Status) (body : List Byte) : State :=
  t.reply rq.port kind rq.tag st body .nothing

/-- The replies of `t` on port p are those of `s`, and one more, at the end: the OK of a request with a body
(10/R171, R173). -/
def AnsweredOk (s t : State) (rq : Rq) (kind : Nat) (body : List Byte) : Prop :=
  (t.link.port rq.port).replies = (s.link.port rq.port).replies ++ [⟨(kind + 0x80) % 256, rq.tag, 0, body, .nothing⟩]

/-- A report raised now for the subscribed ports alone: its class, its code, the clock and its fields (11/R183). -/
def reportNow (v : Base) (c : RClass) (code : Nat) (fields : List Byte) : Report :=
  ⟨c, u1 code ++ stampBytes v.clock ++ fields, none⟩

/-- A report raised now that also goes to the origin port of passage x (05/R91, 10/R175); it opens with the number and
the hull mark (11/R183). -/
def passageNow (v : Base) (x : Passage) (code : Nat) (fields : List Byte) : Report :=
  ⟨.passage, u1 code ++ stampBytes v.clock ++ (u4 x.number ++ x.mark ++ fields), some x.origin⟩

/-- GATE_STATE of gate g (02/R25). -/
def gateNow (v : Base) (g : Fin 4) (st : GateSt) (o : Owner) : Report :=
  reportNow v .water 0x48 (u1 g.val ++ u1 st.code ++ ownerBytes o)

/-- FLIGHT_STATE of a regime record (09/R157). -/
def flightNow (v : Base) (r : Regime) (c : StateCause) : Report :=
  reportNow v .alarm 0x0D
    (u1 r.condition.code ++ r.causeByte ++ u1 r.mode.code ++ r.deadline.bytes v.elapsed ++ u1 c.code)

/-- ASPECT of head h (04/R71). -/
def aspectNow (v : Base) (h : Fin 8) (x : Head) : Report :=
  reportNow v .signal 0x60 (u1 h.val ++ u1 x.shown.code ++ u1 x.staged.code ++ b1 x.pending
    ++ bits1 [x.driven.ra, x.driven.rb, x.driven.gn] ++ ownerBytes x.holder)

/-- PASSAGE_ENDED of passage x (05/R91). -/
def endedNow (v : Base) (x : Passage) (e : PassEnd) (charge : Nat) : Report :=
  passageNow v x 0x21 (u1 e.code ++ u4 charge ++ u1 x.st.code)

/-- BATCH_STEP of a batch whose members stand as in p (07/R119). -/
def batchNow (v : Base) (p : Plant) (b : Batch) : Report :=
  reportNow v .passage 0x24 (u1 b.id ++ u1 b.dir.code ++ u1 b.step.code ++ optFF (b.heldStep.map Step.code)
    ++ b.causes.bytes ++ opt1 b.chamber ++ opt1 b.target ++ memberFields p b)

/-- BATCH_HELD of a batch (07/R129). -/
def heldNow (v : Base) (b : Batch) : Report :=
  reportNow v .alarm 0x0B (u1 b.id ++ optFF (b.heldStep.map Step.code) ++ b.causes.bytes)

/-- STOOD_DOWN (09/R163): the left list, the seconds since the entry, the gates, the sluices and the heads unsettled, and
the early mark. -/
def stoodDownNow (v : Base) (left : List LeftEntry) (p : Progress) (early : Bool) : Report :=
  reportNow v .alarm 0x10 (u1 left.length ++ (left.flatMap fun e => b1 e.sluice ++ u1 e.index.val ++ u1 e.reason.code)
    ++ u4 ((v.elapsed - p.since) / 10) ++ bits1 p.gates.toList ++ bits1 p.sluices.toList ++ b1 p.heads ++ b1 early)

/-! ## Frames -/

/-- Apart from the reports placed on it, a port is as it was. -/
def SameLine (j k : PortRec) : Prop :=
  k.rate = j.rate ∧ k.asm = j.asm ∧ k.buffer = j.buffer ∧ k.replies = j.replies ∧ k.mask = j.mask
    ∧ k.sending = j.sending ∧ k.owed = j.owed

/-- What no reaction of one block to another touches: the queue, the supply, the stored settings, and everything of the
lines but the reports waiting on them. -/
def SameLink (s t : State) : Prop :=
  t.pending = s.pending ∧ t.powered = s.powered ∧ t.nv = s.nv ∧ SameLine s.link.console t.link.console
    ∧ SameLine s.link.network t.link.network ∧ t.link.store = s.link.store ∧ t.link.restartDue = s.link.restartDue
    ∧ t.link.settingsDefaulted = s.link.settingsDefaulted ∧ t.link.retainedLost = s.link.retainedLost

/-- Of the blocks' state, only the record of gate g differs. -/
def OnlyGate (g : Fin 4) (p q : Plant) : Prop := q = { p with gates := p.gates.put g (q.gates.nth g) }

/-- Of the blocks' state, only the record of sluice g differs. -/
def OnlySluice (g : Fin 4) (p q : Plant) : Prop := q = { p with sluices := p.sluices.put g (q.sluices.nth g) }

/-- Of the blocks' state, only the record of head h differs. -/
def OnlyHead (h : Fin 8) (p q : Plant) : Prop := q = { p with heads := p.heads.put h (q.heads.nth h) }

/-- Of the blocks' state, only the scheduler record differs. -/
def OnlySched (p q : Plant) : Prop := q = { p with sched := q.sched }

/-- Of the blocks' state, only the regime record differs. -/
def OnlyRegime (p q : Plant) : Prop := q = { p with regime := q.regime }

/-- The gates, heads, passages, batches, accounts and the regime record are as they were: what a levelling leaves. -/
def OnlyWater (p q : Plant) : Prop :=
  q.gates = p.gates ∧ q.heads = p.heads ∧ q.passages = p.passages ∧ q.nextPassage = p.nextPassage ∧ q.batches = p.batches
    ∧ q.nextBatch = p.nextBatch ∧ q.errands = p.errands ∧ q.accounts = p.accounts ∧ q.regime = p.regime

/-- Of the blocks' state, only the regime record and the heads, at their new rest aspects, differ (04/R65, 09/R157). -/
def OnlyCondition (p q : Plant) : Prop := q = { p with regime := q.regime, heads := q.heads }

/-- Of the blocks' state, only passages, batches and reserved amounts differ. -/
def OnlyMembers (p q : Plant) : Prop := q = { p with passages := q.passages, batches := q.batches, accounts := q.accounts }

/-- Of the blocks' state, only passages, batches and reserved amounts differ, and the sluices that were commanded to 4,
with their channels (02/R38). -/
def OnlyPlaced (p q : Plant) : Prop :=
  q = { p with passages := q.passages, batches := q.batches, accounts := q.accounts, sluices := q.sluices,
               channels := q.channels }
  ∧ ∀ g : Fin 4, (p.sluices.nth g).cmd ≠ 4 →
    q.sluices.nth g = p.sluices.nth g ∧ q.channels.nth g = p.channels.nth g

/-- Passage n has left the list, the others standing as they were; the counters, the regime record and all of the
scheduler but a permit request are as they were (05/R94, 07/R134). -/
def PassageGone (n : Nat) (p q : Plant) : Prop :=
  q.passages = p.passages.filter (fun x => x.number ≠ n) ∧ q.nextPassage = p.nextPassage ∧ q.nextBatch = p.nextBatch
    ∧ q.regime = p.regime ∧ q.sched = { p.sched with permit := q.sched.permit }

/-- Passage n, whose record was x, has left its batch: the batch stands without it, or is gone when n was its last; every
other batch stands (07/R132 to R134). -/
def LeavesBatch (n : Nat) (x : Passage) (p q : Plant) : Prop :=
  (x.batch = none → q.batches = p.batches)
    ∧ ∀ id, x.batch = some id →
      (∀ k, k ≠ id → q.batch? k = p.batch? k)
      ∧ ∀ b, p.batch? id = some b →
        ((∃ m ∈ b.members, m.number ≠ n) →
          q.batch? id = some { b with members := b.members.filter fun m => m.number ≠ n })
        ∧ ((∀ m ∈ b.members, m.number = n) → q.batch? id = none)

/-! ## Bounded lines (10/R171, R176) -/

/-- A port within its bounds: 4 frames, 8 replies, 24 reports. -/
def PortRec.bounded (k : PortRec) : Prop :=
  k.buffer.length ≤ Config.maxBuffer ∧ k.replies.length ≤ Config.maxReplies ∧ k.reports.length ≤ Config.maxReports

/-- Both ports are within their bounds. -/
def LinesBounded (s : State) : Prop := s.link.console.bounded ∧ s.link.network.bounded

/-! ## Settings in range (the settings tables of spec 00 to 10) -/

/-- 08/R140: a tariff row within its ranges. -/
def Tariff.inRange (t : Tariff) : Prop :=
  t.base ≤ 100000 ∧ t.perMetre ≤ 10000 ∧ t.perTonne ≤ 10000 ∧ t.minimum ≤ 1000000

/-- Every setting within its range, the limits of a body at least 100 mm apart (01/R13), and the near band above the open
tolerance (03/R45). -/
def Settings.inRange (v : Settings) : Prop :=
  (∀ k : Setting, k.admits (v.value k) = true) ∧ (∀ c : Fin 8, (v.tariff.nth c).inRange)
    ∧ (∀ b : Fin 5, 100 ≤ v.highLimit.nth b - v.lowLimit.nth b) ∧ v.openTol < v.nearBand

/-- The working settings, the stored image and an image being written are all within their ranges. -/
def SettingsInRange (s : State) : Prop :=
  s.base.settings.inRange ∧ s.nv.settings.inRange ∧ ∀ st, s.link.store = some st → st.image.inRange

/-- 08/R141: a clock within its ranges. -/
def Clock.inRange (c : Clock) : Prop := c.day ≤ 65535 ∧ c.tod < 864000

/-! ## Safe signals (04/R64, R68 to R70) -/

/-- A head that shows a green aspect has its GN in health, so the green is driven. -/
def GreensLit (p : Plant) : Prop := ∀ h : Fin 8, (p.heads.nth h).shown.stopping = false → (p.heads.nth h).good.gn = true

/-- 04/R70: no two heads in one conflict set have GN driven at once. -/
def GreensApart (p : Plant) : Prop :=
  ∀ h k : Fin 8, k ∈ conflictSet h → (p.heads.nth h).driven.gn = true → (p.heads.nth k).driven.gn = false

/-- 04/R69: GN is driven only while the gate is OPENING or OPEN, and GO is shown only while it is OPEN. -/
def GreensAtOpenGates (p : Plant) : Prop :=
  ∀ h : Fin 8,
    ((p.heads.nth h).driven.gn = true →
      (p.gates.nth (gateOf h)).st = .opening ∨ (p.gates.nth (gateOf h)).st = .opened)
    ∧ ((p.heads.nth h).shown = .go → (p.gates.nth (gateOf h)).st = .opened)

/-- The signals are safe. -/
def SafeSignals (s : State) : Prop := GreensLit s.plant ∧ GreensApart s.plant ∧ GreensAtOpenGates s.plant

end Sys2Proof.Machine
end

