-- ==== Sys2Proof/Certificates/Slice0/Obligations.lean ====
section
/-! DEFINITION. The statements for the provers. -/

section
open Sys2Proof Sys2Proof.Machine

/-! ## The queue and the time base -/

/-- Tier 1. A step takes the command at the front and runs it on the state with the queue's rest. The queue, first in,
first out, is the model's own (log 1). -/
def Obligations.StepRunsTheFrontOfTheQueue : Prop :=
  ∀ (c : Instr) (rest : List Instr) (s : State), step (s.withPending (c :: rest)) = exec c (s.withPending rest)

/-- Tier 1. On an empty queue 100 ms pass for a powered part, and nothing happens to an unpowered one: the elapsed count
rises by one and the time of day by one tenth; at midnight it returns to 0 and the day count rises, from 65535 to 0; the
unset mark stays (08/R141). That a step on an empty queue stands for 100 ms is the model's choice (log 2). -/
def Obligations.EmptyQueueLetsTimePass : Prop :=
  (∀ s : State, s.pending = [] →
    (s.powered = true → step s =
      .next { s with base := { s.base with elapsed := s.base.elapsed + 1, clock := s.base.clock.tick } })
    ∧ (s.powered = false → step s = .next s))
  ∧ ∀ c : Clock, c.inRange →
    (c.tod < 863999 → c.tick = { c with tod := c.tod + 1 })
    ∧ (c.tod = 863999 → c.day < 65535 → c.tick = { c with tod := 0, day := c.day + 1 })
    ∧ (c.tod = 863999 → c.day = 65535 → c.tick = { c with tod := 0, day := 0 })

/-- Tier 2. No command stops the part (log 42), and none touches the queue, which is the model's own (log 1). -/
def Obligations.EveryCommandAnswersAndKeepsTheQueue : Prop :=
  ∀ (c : Instr) (s : State), ∃ t, exec c s = .next t ∧ t.pending = s.pending

/-- Tier 2. What the blocks tell one another within a step changes no setting, no time, no pin, no scan result, no book
of the Toll Unit, no stored image, and nothing of the lines but the reports that wait; the reports it raises join them
after those of the step's own effect (10/R175). That the blocks react within the step is the model's choice (log 8). -/
def Obligations.ReactionsKeepBaseAndLines : Prop :=
  ∀ (s : State) (f : Flow), (s.conclude f).base = s.base ∧ SameLink s (s.conclude f)
    ∧ ∃ more, (s.conclude f).link = s.link.placeAll (f.out ++ more)

/-! ## The lines -/

/-- Tier 1. While hunting, 0xA5 opens a partial frame and any other byte is discarded; a framing error and a gap discard a
partial frame, and nothing else (10/R170). -/
def Obligations.HuntingTakesOnlyTheStartByte : Prop :=
  ∀ (p : Port) (s : State), s.powered = true →
    (∀ b : Byte, (s.link.port p).asm = .hunting → exec (.receiveByte p b) s =
      .next (s.updPort p fun k => { k with asm := if b = 0xA5#8 then .part [] s.base.elapsed else .hunting }))
    ∧ exec (.framingErrorByte p) s = .next (s.updPort p fun r => { r with asm := .hunting })
    ∧ exec (.frameGapTimeout p) s = .next (s.updPort p fun r => { r with asm := .hunting })

/-- Tier 1. The byte after the start byte is the length, discarded with the frame below 3 or above 249; the bytes after
it are collected until the frame holds its length and two more (10/R170). -/
def Obligations.PartialFrameCollectsBytes : Prop :=
  ∀ (p : Port) (b : Byte) (s : State), s.powered = true →
    (∀ k, (s.link.port p).asm = .part [] k →
      exec (.receiveByte p b) s = .next (s.updPort p fun r =>
        { r with asm := if 3 ≤ b.toNat ∧ b.toNat ≤ 249 then .part [b] s.base.elapsed else .hunting }))
    ∧ (∀ n bs k, (s.link.port p).asm = .part (n :: bs) k → bs.length + 2 < n.toNat + 3 →
      exec (.receiveByte p b) s =
        .next (s.updPort p fun r => { r with asm := .part (n :: bs ++ [b]) s.base.elapsed }))

/-- Tier 2. The byte that completes a frame ends the assembly. A frame whose CRC matches joins a buffer of fewer than 4; it
is answered BUSY when 4 wait and the reply line has room, and is dropped when it has none, as is one whose CRC fails
(10/R170, R171). -/
def Obligations.CompleteFrameIsBufferedOrAnsweredBusy : Prop :=
  ∀ (p : Port) (b n : Byte) (bs : List Byte) (k : Nat) (s : State), s.powered = true →
    (s.link.port p).asm = .part (n :: bs) k → bs.length + 2 = n.toNat + 3 →
    let x := frameOf (n :: bs ++ [b])
    let t := s.updPort p fun r => { r with asm := .hunting }
    (crcMatches (n :: bs ++ [b]) = false → exec (.receiveByte p b) s = .next t)
    ∧ (crcMatches (n :: bs ++ [b]) = true →
      ((s.link.port p).buffer.length < 4 →
        exec (.receiveByte p b) s = .next (t.updPort p fun r => { r with buffer := r.buffer ++ [x] }))
      ∧ (4 ≤ (s.link.port p).buffer.length → (s.link.port p).replies.length < 8 →
        exec (.receiveByte p b) s = .next (t.reply p x.kind x.tag .busy [] .nothing))
      ∧ (4 ≤ (s.link.port p).buffer.length → 8 ≤ (s.link.port p).replies.length →
        exec (.receiveByte p b) s = .next t))

/-- Tier 2. A frame taken leaves the buffer and is judged: UNKNOWN for a kind outside the catalogue, BAD_FIELD for a level
byte above 2, DENIED for a level that does not allow the kind, BAD_FIELD for a length that the kind does not allow, in that
order; otherwise the request it spells is run (10/R171, R173; 11/R182). -/
def Obligations.TakenFrameIsJudgedThenRun : Prop :=
  ∀ (p : Port) (x : Frame) (rest : List Frame) (s : State), s.takes p = true → (s.link.port p).buffer = x :: rest →
    let t := s.updPort p fun r => { r with buffer := rest }
    let rq : Rq := ⟨p, x.level, x.tag⟩
    (kindOf x.kind = none → exec (.frameTaken p) s = .next (t.no rq x.kind .unknown []))
    ∧ ∀ required lengths, kindOf x.kind = some (required, lengths) →
      (2 < x.level → exec (.frameTaken p) s = .next (t.no rq x.kind .badField (u1 0)))
      ∧ (x.level ≤ 2 → required < effectiveLevel s rq → exec (.frameTaken p) s = .next (t.no rq x.kind .denied []))
      ∧ (x.level ≤ 2 → effectiveLevel s rq ≤ required → x.body.length ∉ lengths →
        exec (.frameTaken p) s = .next (t.no rq x.kind .badField (u1 0)))
      ∧ (x.level ≤ 2 → effectiveLevel s rq ≤ required → x.body.length ∈ lengths →
        ∀ i, decodeRequest rq x.kind x.body = some i → exec (.frameTaken p) s = exec i t)

/-- Tier 1. A free transmitter sends the oldest reply if there is one, otherwise the oldest report, which leaves the queue
when its sending begins, as kind 0x7F and tag 0; with neither it is idle (10/R172). Where the frame it has just sent is the
reply that granted a new rate, that port first takes the rate, and its assembly hunts (10/R169, R178). That a reply leaves
its line, and the 8 it may hold, when its sending begins, as R172 says of reports alone, is the model's choice (log 6). -/
def Obligations.TransmitterSendsRepliesBeforeReports : Prop :=
  ∀ (p : Port) (s x : State), s.powered = true → s.link.restartDue = false → (s.link.port p).owed = none →
    (((∀ o, (s.link.port p).sending = some o → o.after = .nothing) ∧ x = s)
      ∨ ∃ o q n, (s.link.port p).sending = some o ∧ o.after = .rate q n
        ∧ x = s.updPort q fun r => { r with rate := n, asm := .hunting }) →
    (∀ o rest, (s.link.port p).replies = o :: rest →
      exec (.transmitterFree p) s = .next (x.updPort p fun r => { r with replies := rest, sending := some o }))
    ∧ (∀ r rest, (s.link.port p).replies = [] → (s.link.port p).reports = r :: rest →
      exec (.transmitterFree p) s = .next (x.updPort p fun k =>
        { k with reports := rest, sending := some ⟨0x7F, 0, r.cls.code, r.body, .nothing⟩ }))
    ∧ ((s.link.port p).replies = [] → (s.link.port p).reports = [] →
      exec (.transmitterFree p) s = .next (x.updPort p fun r => { r with sending := none }))

/-- Tier 2. A report placed on a queue of fewer than 24 joins its tail. On a full queue one that is no alarm is dropped; an
alarm displaces the oldest report that is none; when all are alarms it is dropped and the flag is set (10/R176). A report
raised is placed once on each port whose mask has its class and on the port it names beside, on no other, in the order of
the raising (10/R175). -/
def Obligations.FullReportQueueKeepsAlarms : Prop :=
  (∀ (l : Link) (r : Report) (p : Port),
    ((l.port p).mask.getLsbD r.cls.code = true ∨ r.also = some p → (l.place r).port p = (l.port p).queue r)
    ∧ ((l.port p).mask.getLsbD r.cls.code = false → r.also ≠ some p → (l.place r).port p = l.port p))
  ∧ (∀ (s : State) (f : Flow), (s.deliver f).link = s.link.placeAll f.out)
  ∧ (∀ (l : Link) (r : Report) (rs : List Report), l.placeAll [] = l ∧ l.placeAll (r :: rs) = (l.place r).placeAll rs)
  ∧ ∀ (k : PortRec) (r : Report),
    (k.reports.length < 24 → k.queue r = { k with reports := k.reports ++ [r] })
    ∧ (24 ≤ k.reports.length → r.cls ≠ .alarm → k.queue r = k)
    ∧ (24 ≤ k.reports.length → r.cls = .alarm → (∀ x ∈ k.reports, x.cls = .alarm) →
      k.queue r = { k with overflow := true })
    ∧ (24 ≤ k.reports.length → r.cls = .alarm →
      ∀ a x b, k.reports = a ++ x :: b → (∀ y ∈ a, y.cls = .alarm) → x.cls ≠ .alarm →
        k.queue r = { k with reports := a ++ b ++ [r] })

/-- Tier 3. Every step keeps both lines within their bounds: 4 frames, 8 replies, 24 reports (10/R171, R176). -/
def Obligations.StepKeepsLinesBounded : Prop :=
  ∀ s t : State, LinesBounded s → step s = .next t → LinesBounded t

/-! ## The Link Unit, the settings and the clock -/

/-- Tier 1. STATUS answers OK with the indications of the start, whether a store is in progress, the flight condition,
the mode, the cause set, the clock, and its port's ceiling, mask, number of reports and alarm-overflow flag; it clears that
flag, and changes nothing else (10/R177). -/
def Obligations.StatusShowsThenClearsOverflow : Prop :=
  ∀ (rq : Rq) (s : State), Admitted s rq 2 →
    let r := s.plant.regime
    let k := s.link.port rq.port
    exec (.status rq) s = .next ((s.updPort rq.port fun k => { k with overflow := false }).ok rq 0x01
      (b1 s.link.settingsDefaulted ++ b1 s.link.retainedLost ++ b1 s.link.store.isSome ++ u1 r.condition.code
        ++ u1 r.mode.code ++ bits1 [r.flood, r.mainsCause, r.keeper] ++ stampBytes s.base.clock
        ++ u1 (ceiling s.base.settings rq.port) ++ u1 k.mask.toNat ++ u1 k.reports.length ++ b1 k.overflow))

/-- Tier 1. SUBSCRIBE replaces the mask of its port; a mask with a bit outside the five classes is refused. NET_LEVEL sets
the network ceiling in the working settings to 1 or 2 and refuses any other level; on the network port it is denied
(10/R174, R175). That NET_LEVEL answers the ceiling in 1 byte is the model's choice (log 14). -/
def Obligations.SubscribeAndNetLevelAct : Prop :=
  (∀ (rq : Rq) (mask : Nat) (s : State), Admitted s rq 2 →
    (mask < 32 → exec (.subscribe rq mask) s =
      .next ((s.updPort rq.port fun k => { k with mask := BitVec.ofNat 5 mask }).ok rq 0x02 (u1 mask)))
    ∧ (32 ≤ mask → exec (.subscribe rq mask) s = .next (s.no rq 0x02 .badField (u1 1))))
  ∧ ∀ (rq : Rq) (level : Nat) (s : State), s.takes rq.port = true → rq.claimed ≤ 2 →
    (effectiveLevel s rq = 0 → (level = 1 ∨ level = 2) → exec (.netLevel rq level) s =
      .next ((s.withSettings { s.base.settings with networkCeiling := level }).ok rq 0x03 (u1 level)))
    ∧ (effectiveLevel s rq = 0 → level ≠ 1 → level ≠ 2 →
      exec (.netLevel rq level) s = .next (s.no rq 0x03 .badField (u1 1)))
    ∧ (rq.port = .network → 1 ≤ s.base.settings.networkCeiling →
      exec (.netLevel rq level) s = .next (s.no rq 0x03 .denied []))

/-- Tier 1. SETTING_GET answers the working value, the default and the range of the setting its identifier names, and
refuses an identifier that names none (10/R178). That the range of a port rate, which takes three values, is sent as the
least and the greatest of them is the model's choice (log 14). -/
def Obligations.SettingGetReadsValueDefaultRange : Prop :=
  ∀ (rq : Rq) (ident : Nat) (s : State), Admitted s rq 1 →
    (∀ k, setting? ident = some k → exec (.settingGet rq ident) s =
      .next (s.ok rq 0x04
        (s4 (s.base.settings.value k) ++ s4 (Settings.default.value k) ++ s4 k.range.1 ++ s4 k.range.2)))
    ∧ (setting? ident = none → exec (.settingGet rq ident) s = .next (s.no rq 0x04 .badField (u1 1)))

/-- Tier 2. SETTING_SET of an admitted value writes that setting and no other, and replies with the value; of the base it
changes nothing else but the re-initialise flag of a gauge whose gain or offset it is, and of the blocks only what that
setting touches at once: the holds of the channels beside a recalibrated gauge's body, a running idle hold, a deferred
permit (10/R178; 01/R19; 03/R61; 06/R115, R116). An identifier that names none, and a value out of range, are refused.
TARIFF_SET replaces the whole row of its class and no other setting, and is refused where a field is out of range;
ACCOUNT_SET creates an account, or replaces the state and the limit where they are given, the other accounts standing, and
raises ACCOUNT_STATE where it changed something (08/R140, R147). A limit of a body less than 100 mm from the other one and a
near band not above the open tolerance are refused BAD_FIELD, taken together; a usable length, a usable width or a maximum
beam that an open passage does not fit, and a bypass limit below an open passage's count, are refused STATE (01/R13; 03/R45;
05/R98; 06/R104). The reply of ACCOUNT_SET, and that SETTING_SET writes the network ceiling like any other setting, are the
model's (log 41, 32). -/
def Obligations.SettingSetWritesOneSetting : Prop :=
  (∀ (rq : Rq) (ident : Nat) (x : Int) (s : State), Admitted s rq 0 →
    (setting? ident = none → exec (.settingSet rq ident x) s = .next (s.no rq 0x05 .badField (u1 1)))
    ∧ ∀ k, setting? ident = some k →
      (k.admits x = false → exec (.settingSet rq ident x) s = .next (s.no rq 0x05 .badField (u1 2)))
      ∧ (k.admits x = true → settingRefusal s.base.settings s.plant.passages k x = some .state →
        exec (.settingSet rq ident x) s = .next (s.no rq 0x05 .state []))
      ∧ (k.admits x = true → settingRefusal s.base.settings s.plant.passages k x = some .together →
        exec (.settingSet rq ident x) s = .next (s.no rq 0x05 .badField (u1 0xFF)))
      ∧ (k.admits x = true → settingRefusal s.base.settings s.plant.passages k x = none →
        let w := s.withSettings (s.base.settings.write k x)
        let gauge : Prop := ∃ c, k = .gain c ∨ k = .offset c
        ∃ t, exec (.settingSet rq ident x) s =
            .next (t.reply rq.port 0x05 rq.tag .ok (s4 x) (rateAfter s.base.settings k x))
          ∧ t.base = { w.base with scanner := t.base.scanner } ∧ SameLink s t
          ∧ t.base.settings.value k = x
          ∧ (∀ j, j ≠ k → t.base.settings.value j = s.base.settings.value j)
          ∧ t.base.settings.tariff = s.base.settings.tariff
          ∧ (∀ c, (k = .gain c ∨ k = .offset c) →
            t.base.scanner = { s.base.scanner with
              gauges := s.base.scanner.gauges.upd c fun g => { g with reinit := true } }
            ∧ t.plant = { s.plant with channels := t.plant.channels }
            ∧ ∀ g : Fin 4, t.plant.channels.nth g =
              if (s.plant.channels.nth g).st = .holding ∧ (lowerBody g = bodyOf c ∨ upperBody g = bodyOf c) then
                { s.plant.channels.nth g with settleT := some s.base.elapsed, surge := 0 }
              else s.plant.channels.nth g)
          ∧ (¬ gauge → t.base.scanner = s.base.scanner)
          ∧ (¬ gauge → k ≠ .idleHold → k ≠ .drawCount → k ≠ .drawWindow → t = w)
          ∧ (k = .idleHold → ∃ f, t = w.conclude f ∧ f.toPlant = { s.plant with sched := { s.plant.sched with
              idle := match s.plant.sched.idle with
                | .running since => if since + 10 * x.toNat ≤ s.base.elapsed then .expired else .running since
                | i => i } })
          ∧ (k = .drawCount ∨ k = .drawWindow → ∃ f, t = w.conclude f ∧ OnlyWater s.plant f.toPlant
            ∧ (s.plant.sched.permit = none → f.toPlant = s.plant))))
  ∧ (∀ (rq : Rq) (c : Fin 8) (t : Tariff) (s : State), Admitted s rq 0 →
    (t.inRange → exec (.tariffSet rq c.val t.base t.perMetre t.perTonne t.minimum) s =
      .next ((s.withSettings { s.base.settings with tariff := s.base.settings.tariff.put c t }).ok rq 0x51 t.bytes))
    ∧ (¬ t.inRange → ∃ k, exec (.tariffSet rq c.val t.base t.perMetre t.perTonne t.minimum) s =
      .next (s.no rq 0x51 .badField (u1 k))))
  ∧ (∀ (v : Settings) (ps : List Passage) (k : Setting) (x : Int),
    let new := v.write k x
    (settingRefusal v ps k x = some .together ↔
      (∃ b, (k = .lowLimit b ∨ k = .highLimit b) ∧ new.highLimit.nth b - new.lowLimit.nth b < 100)
      ∨ ((k = .nearBand ∨ k = .openTol) ∧ new.nearBand ≤ new.openTol))
    ∧ (settingRefusal v ps k x = some .state ↔ ∃ y ∈ ps,
      ((∃ i, k = .usableLength i) ∧ ∃ j, new.usableLength.nth j < y.length)
      ∨ ((∃ i, k = .usableWidth i) ∧ ∃ j, new.usableWidth.nth j < y.beam)
      ∨ (k = .maxBeam ∧ new.maxBeam < y.beam) ∨ (k = .bypassLimit ∧ new.bypassLimit < y.bypass)))
  ∧ ∀ (rq : Rq) (id presence st limit : Nat) (s : State), Admitted s rq 1 →
    ((id < 1 ∨ 64 < id) → exec (.accountSet rq id presence st limit) s = .next (s.no rq 0x54 .badField (u1 1)))
    ∧ (1 ≤ id → id ≤ 64 → presence ≤ 3 → st ≤ 1 → limit ≤ 99999999 →
      let old := (s.plant.account? id).getD ⟨id, false, 0, 0, 0, 0⟩
      let a : Account := { old with
        blocked := if presence = 1 ∨ presence = 3 then decide (st = 1) else old.blocked
        limit := if presence = 2 ∨ presence = 3 then (limit : Int) else old.limit }
      ∃ f, exec (.accountSet rq id presence st limit) s = .next ((s.deliver f).ok rq 0x54 a.bytes)
        ∧ f.toPlant = { s.plant with accounts := f.accounts }
        ∧ f.toPlant.account? id = some a ∧ (∀ k, k ≠ id → f.toPlant.account? k = s.plant.account? k)
        ∧ f.out = if s.plant.account? id = some a then [] else [reportNow s.base .account 0x72 a.bytes])

/-- Tier 1. SETTINGS_STORE copies the working settings and owes its reply; it is refused BUSY while a store is in progress;
SETTINGS_STORE_DONE makes the copy the good image, clears SETTINGS_DEFAULTED and gives the reply (10/R179). -/
def Obligations.SettingsStoreCopiesThenReplies : Prop :=
  (∀ (rq : Rq) (s : State), Admitted s rq 0 →
    (s.link.store = none → exec (.settingsStore rq) s =
      .next { s with link := { s.link with store := some ⟨rq.port, rq.tag, s.base.settings⟩ } })
    ∧ (s.link.store.isSome = true → exec (.settingsStore rq) s = .next (s.no rq 0x06 .busy [])))
  ∧ ∀ (st : Store) (s : State), s.powered = true → s.link.store = some st →
    (s.link.port st.port).replies.length < 8 →
    exec .settingsStoreDone s = .next ({ s with
      nv := ⟨true, st.image⟩
      link := { s.link with store := none, settingsDefaulted := false } }.reply st.port 0x06 st.tag .ok [] .nothing)

/-- Tier 1. RESTART is answered OK, or BUSY while a store is in progress; once that reply has been sent the start is due,
and nothing more is sent; WARM_START then runs the start sequence with the clock running on (10/R180; 08/R141). That
between the two a free transmitter sends nothing, and the part is otherwise as before, is the model's choice (log 38). -/
def Obligations.RestartAnswersThenStarts : Prop :=
  (∀ (rq : Rq) (s : State), Admitted s rq 0 →
    (s.link.store = none → exec (.restart rq) s = .next (s.reply rq.port 0x07 rq.tag .ok [] .restart))
    ∧ (s.link.store.isSome = true → exec (.restart rq) s = .next (s.no rq 0x07 .busy [])))
  ∧ (∀ (p : Port) (o : OutFrame) (s : State), s.powered = true → (s.link.port p).sending = some o →
    o.after = .restart → ∃ t, exec (.transmitterFree p) s = .next t ∧ t.link.restartDue = true
      ∧ (t.link.port p).sending = none ∧ (t.link.port p).replies = (s.link.port p).replies
      ∧ t.base = s.base ∧ t.plant = s.plant)
  ∧ (∀ s : State, s.powered = true → s.link.restartDue = true →
    exec .warmStart s = .next (s.start false true)
    ∧ (s.start false true).base.clock = s.base.clock ∧ (s.start false true).base.elapsed = s.base.elapsed
    ∧ (s.start false true).link.restartDue = false)

/-- Tier 1. CLOCK_SET sets the clock to the whole second and clears its unset mark; a field out of range is refused and
the clock is then unchanged (10/R180, 08/R141). -/
def Obligations.ClockSetSetsTheClock : Prop :=
  ∀ (rq : Rq) (h m sec d : Nat) (s : State), Admitted s rq 1 →
    (h ≤ 23 → m ≤ 59 → sec ≤ 59 → d ≤ 65535 →
      let c : Clock := ⟨d, 36000 * h + 600 * m + 10 * sec, false⟩
      exec (.clockSet rq h m sec d) s =
        .next ({ s with base := { s.base with clock := c } }.ok rq 0x08 (stampBytes c)))
    ∧ ((23 < h ∨ 59 < m ∨ 59 < sec ∨ 65535 < d) →
      ∃ k, exec (.clockSet rq h m sec d) s = .next (s.no rq 0x08 .badField (u1 k)))

/-! ## Queries -/

/-- Tier 1. The queries are answered OK with what they show, and change nothing. Those without fields show the levels,
the gates, the channels, the heads, the scheduler, the batches and the flight (01/R21, 02/R44, 03/R63, 04/R81, 06/R118,
07/R139, 09/R168); LEVELS shows the gauges and the flood state as the last scan, or the start, left them (01/R20, R21);
PASS_QUERY shows the open passage that its number or hull mark names, with its place and, before it is committed, its
quote; QUEUE_LIST the number of open passages and a page of summaries (05/R96, R97); TARIFF_GET a row and the six global
settings; HULL_QUERY an entry with its rank and whether its hull is open; ACCOUNT_QUERY an account with its headroom and
its open passages (08/R140, R146, R149). A key that names nothing is refused NOT_FOUND, a field out of range BAD_FIELD.
Codes and widths that chapter 11 does not give, the rounding of times and the fields of some replies are the model's
(log 14, 15, 41), as is what of a capture that has completed LEVELS shows (log 53), of an
oldest passage SCHEDULER_STATUS (log 72), and of a timer that has run past 65,534 s BATCHES, LEVELLING_STATUS and
SCHEDULER_STATUS (log 80). -/
def Obligations.PlainQueriesChangeNothing : Prop :=
  (∀ (rq : Rq) (s : State), Admitted s rq 2 →
    let p := s.plant
    exec (.levels rq) s = .next (s.ok rq 0x10 (levelsBody s.base.scanner))
    ∧ exec (.gates rq) s = .next (s.ok rq 0x18 (gatesBody s.base p))
    ∧ exec (.levellingStatus rq) s = .next (s.ok rq 0x20 (allGates.flatMap (channelEntry s.base p)))
    ∧ exec (.signals rq) s = .next (s.ok rq 0x28
      ((allHeads.flatMap (headEntry s.base p)) ++ settingBytes s.base.settings [.clearMargin, .lampProving]))
    ∧ exec (.schedulerStatus rq) s = .next (s.ok rq 0x38 (schedulerBody s.base p))
    ∧ exec (.batches rq) s = .next (s.ok rq 0x40 (batchesBody s.base p))
    ∧ exec (.flightStatus rq) s = .next (s.ok rq 0x60 (flightBody s.base p)))
  ∧ (∀ x y : Scanner, x.shown = y.shown → x.shownFlood = y.shownFlood → x.bodies = y.bodies → x.heads = y.heads →
    levelsBody x = levelsBody y)
  ∧ Scanner.start.shown = Scanner.start.gauges ∧ Scanner.start.shownFlood = Scanner.start.flood
  ∧ (∀ (v : Base) (p : Plant) (h : Fin 8),
    let x := p.heads.nth h
    let green : Prop := ((x.shown = .prepare ∨ x.shown = .go) ∧ x.good.gn = true) ∨ x.mark.gn = true
    ((x.pending = false ∨ green) → marginLeft v p h = 0)
    ∧ (x.pending = true → ¬ green → ∀ n, marginLeft v p h ≤ n ↔
      ∀ k ∈ h :: conflictSet h, (p.heads.nth k).goEnd + v.settings.clearMargin ≤ v.elapsed + n))
  ∧ (∀ (rq : Rq) (s : State), Admitted s rq 2 →
    let shows (key : PassKey) (x : Passage) : Prop := exec (.passQuery rq key) s = .next (s.ok rq 0x32
      (x.bytes (queuePosition s.plant.passages x.number) (if x.committed.isSome then 0 else (quote s.base s.plant x).1)))
    (∀ n x, s.plant.passage? n = some x → shows (.number n) x)
    ∧ (∀ m x, hullMarkOk m = true → s.plant.passages.find? (fun y => y.mark == m) = some x → shows (.hull m) x)
    ∧ (∀ n, s.plant.passage? n = none → exec (.passQuery rq (.number n)) s = .next (s.no rq 0x32 .notFound []))
    ∧ (∀ m, hullMarkOk m = true → s.plant.passages.find? (fun y => y.mark == m) = none →
      exec (.passQuery rq (.hull m)) s = .next (s.no rq 0x32 .notFound []))
    ∧ (∀ m, hullMarkOk m = false → exec (.passQuery rq (.hull m)) s = .next (s.no rq 0x32 .badField (u1 1)))
    ∧ (∀ first count, 1 ≤ first → first ≤ 32 → 1 ≤ count → count ≤ 8 →
      exec (.queueList rq first count) s = .next (s.ok rq 0x33 (u1 s.plant.passages.length
        ++ ((s.plant.passages.drop (first - 1)).take count).flatMap Passage.summary)))
    ∧ (∀ first count, (first < 1 ∨ 32 < first) →
      exec (.queueList rq first count) s = .next (s.no rq 0x33 .badField (u1 1)))
    ∧ (∀ first count, 1 ≤ first → first ≤ 32 → (count < 1 ∨ 8 < count) →
      exec (.queueList rq first count) s = .next (s.no rq 0x33 .badField (u1 2)))
    ∧ ∀ c : Fin 8, exec (.tariffGet rq c.val) s =
      .next (s.ok rq 0x50 ((s.base.settings.tariff.nth c).bytes ++ globalBytes s.base.settings)))
  ∧ (∀ (rq : Rq) (m : List Byte) (s : State), Admitted s rq 1 →
    let hs := s.base.books.hulls
    (hullMarkOk m = false → exec (.hullQuery rq m) s = .next (s.no rq 0x52 .badField (u1 1)))
    ∧ (∀ h, hullMarkOk m = true → hs.find? (fun h => h.mark == m) = some h →
      exec (.hullQuery rq m) s = .next (s.ok rq 0x52
        (h.bytes (hs.findIdx (fun x => x.mark == m) + 1) (s.plant.passages.any fun x => x.mark == m))))
    ∧ (hullMarkOk m = true → hs.find? (fun h => h.mark == m) = none →
      exec (.hullQuery rq m) s = .next (s.no rq 0x52 .notFound [])))
  ∧ ∀ (rq : Rq) (id : Nat) (s : State), Admitted s rq 1 →
    let ps := s.plant.passages.filter fun x => x.payment == some id
    ((id < 1 ∨ 64 < id) → exec (.accountQuery rq id) s = .next (s.no rq 0x53 .badField (u1 1)))
    ∧ (1 ≤ id → id ≤ 64 → s.plant.account? id = none →
      exec (.accountQuery rq id) s = .next (s.no rq 0x53 .notFound []))
    ∧ ∀ a, 1 ≤ id → id ≤ 64 → s.plant.account? id = some a → exec (.accountQuery rq id) s =
      .next (s.ok rq 0x53 (a.bytes ++ s4 (a.balance - a.reserved + a.limit) ++ u1 ps.length ++ u1 (min 22 ps.length)
        ++ (ps.take 22).flatMap accountPassage))

/-! ## The Gauge Scanner -/

/-- Tier 2. A sample of 16 to 4079 is converted, clamped and smoothed: X·G/1024 rounded half away from zero plus B, clamped
to −2000..20000 mm; a gauge that was GOOD moves a quarter of the way, any other, or one with its flag set, starts afresh;
the gauge is GOOD (01/R2, R3, R4). What rounding half away from zero is comes first. -/
def Obligations.InRangeSampleIsConvertedAndSmoothed : Prop :=
  (∀ (n : Int) (d : Nat), 0 < d → 0 ≤ n → let r := roundHalfAway n d
    d * (2 * r) ≤ 2 * n + d ∧ 2 * n + d < d * (2 * r + 2) ∧ roundHalfAway (-n) d = -r)
  ∧ ∀ (gain : Nat) (offset : Int) (x : Nat) (g : Gauge), 16 ≤ x → x ≤ 4079 →
    let l := roundHalfAway ((x : Int) * gain) 1024 + offset
    let m := max (-2000) (min l 20000)
    let g' := sampleGauge gain offset x g
    g'.raw = x ∧ g'.status = .good ∧ (g'.clamped = true ↔ l ≠ m) ∧ g'.reinit = false
    ∧ (∀ k, g.status = .good → g.reinit = false → g.level = some k →
      g'.level = some (k + roundHalfAway (m - k) 4))
    ∧ ((g.status ≠ .good ∨ g.reinit = true ∨ g.level = none) → g'.level = some m)
    ∧ g'.point1 = g.point1 ∧ g'.point2 = g.point2

/-- Tier 2. A code below 16 or above 4079 is recorded and not converted: a GOOD gauge enters FAULT with its level held, its
CLAMPED clear and its flag set; one in FAULT stays; one in SUBST stays and takes its substituted level into smoothing; a
capture that still gathers samples is abandoned (01/R2, R4, R6, R17). -/
def Obligations.FaultedSampleIsNotConverted : Prop :=
  ∀ (gain : Nat) (offset : Int) (x : Nat) (g : Gauge), (x < 16 ∨ 4079 < x) →
    let g' := sampleGauge gain offset x g
    g'.raw = x
    ∧ (g.status = .good → g'.status = .fault ∧ g'.level = g.level ∧ g'.clamped = false ∧ g'.reinit = true)
    ∧ (g.status = .fault → g'.status = .fault ∧ g'.level = g.level ∧ g'.reinit = g.reinit)
    ∧ (∀ l, g.status = .subst → g.subst = some l → g'.status = .subst ∧ g'.subst = some l ∧ g'.reinit = false
      ∧ (g.reinit = true ∨ g.level = none → g'.level = some l)
      ∧ ∀ k, g.reinit = false → g.level = some k → g'.level = some (k + roundHalfAway (l - k) 4))
    ∧ (∀ k, g.capture = some k → k.taken < 8 → g'.capture = none)
    ∧ g'.point1 = g.point1 ∧ g'.point2 = g.point2

/-- Tier 2. A SCAN of a powered part samples every gauge, derives every body from its gauges and every head from its
bodies: the upper level less the lower, absent when either is, usable when both are GOOD or SINGLE, its sign memory none
when it is not usable and kept at 0, and usable for forcing when both are GOOD, SINGLE or SUBST (01/R1, R8, R10, R12);
what it leaves is what LEVELS shows until the next scan (01/R21). The limit states follow the level, 20 mm below and
above the limits to leave them, and stand while a body is in FAULT (01/R13); FLOOD is raised, with its cause, when the
level of the upstream reach, GOOD or SUBST, is at the limit, and its clear timer runs 100 mm below it (01/R15, 09/R159).
The reports come stage by stage, then by channel or body; the channels, the permit and an opportunity follow (06/R100,
R115). A sample is cut to 12 bits (log 10), the order of the reports of one gauge or one body, the codes of the limits
and −32768 for an absent level in a report are the model's (log 8, 14). Of the base it changes the scanner alone. -/
def Obligations.ScanPublishesGaugesBodiesAndHeads : Prop :=
  (∀ (codes : Tbl 8 Nat) (s : State), s.powered = true → ∃ t f, exec (.scan codes) s = .next t
    ∧ t.base = { s.base with scanner := t.base.scanner } ∧ SameLink s t
    ∧ t = (s.withScanner t.base.scanner).conclude f ∧ f.scanEnd = true ∧ f.opp = true
    ∧ f.gates = s.plant.gates ∧ f.passages = s.plant.passages ∧ f.batches = s.plant.batches
    ∧ f.accounts = s.plant.accounts
    ∧ (let x := s.base.scanner
      let y := t.base.scanner
      y.first = false ∧ y.shown = y.gauges ∧ y.shownFlood = y.flood
      ∧ (∀ c : Fin 8, y.gauges.nth c = sampleGauge (s.base.settings.gain.nth c) (s.base.settings.offset.nth c)
          (codes.nth c % 4096) (x.gauges.nth c))
      ∧ (∀ b : Fin 5, (y.bodies.nth b).level = (deriveBody s.base.settings y.gauges b (x.bodies.nth b)).level
        ∧ (y.bodies.nth b).status = (deriveBody s.base.settings y.gauges b (x.bodies.nth b)).status
        ∧ (y.bodies.nth b).lastGood = (deriveBody s.base.settings y.gauges b (x.bodies.nth b)).lastGood
        ∧ ((y.bodies.nth b).status = .fault →
          (y.bodies.nth b).high = (x.bodies.nth b).high ∧ (y.bodies.nth b).low = (x.bodies.nth b).low)
        ∧ ∀ l, (y.bodies.nth b).status ≠ .fault → (y.bodies.nth b).level = some l →
          let high := s.base.settings.highLimit.nth b
          let low := s.base.settings.lowLimit.nth b
          ((y.bodies.nth b).high = true ↔ if (x.bodies.nth b).high then high - 20 ≤ l else high < l)
          ∧ ((y.bodies.nth b).low = true ↔ if (x.bodies.nth b).low then l ≤ low + 20 else l < low))
      ∧ (∀ g : Fin 4, (∀ a b, (y.bodies.nth (lowerBody g)).level = some a →
            (y.bodies.nth (upperBody g)).level = some b → (y.heads.nth g).value = some (b - a))
          ∧ (((y.bodies.nth (lowerBody g)).level = none ∨ (y.bodies.nth (upperBody g)).level = none) →
            (y.heads.nth g).value = none)
          ∧ ((y.heads.nth g).usable = true ↔
            (y.bodies.nth (lowerBody g)).status.usable = true ∧ (y.bodies.nth (upperBody g)).status.usable = true)
          ∧ ((y.heads.nth g).usableForcing = true ↔ (y.bodies.nth (lowerBody g)).status.usableForcing = true
            ∧ (y.bodies.nth (upperBody g)).status.usableForcing = true)
          ∧ ((y.heads.nth g).usable = false → (y.heads.nth g).sign = .none)
          ∧ ∀ h, (y.heads.nth g).usable = true → (y.heads.nth g).value = some h →
            (y.heads.nth g).sign = if 0 < h then .pos else if h < 0 then .neg else (x.heads.nth g).sign)
      ∧ (let up := y.bodies.nth 4
        let live : Prop := up.status = .good ∨ up.status = .subst
        let limit := s.base.settings.floodLimit
        (x.flood = false → (y.flood = true ↔ live ∧ ∃ l, up.level = some l ∧ limit ≤ l)
          ∧ (y.flood = true → y.clearSince = none))
        ∧ (x.flood = true → y.flood = true ∧ (¬ live → y.clearSince = none)
          ∧ ∀ l, live → up.level = some l →
            y.clearSince = if l < limit - 100 then some (x.clearSince.getD s.base.elapsed) else none)
        ∧ f.regime = if y.flood = true ∧ x.flood = false then { s.plant.regime with flood := true } else s.plant.regime)
      ∧ ∃ more, f.out = (allGauges.flatMap fun c =>
            (gaugeReports s.base x.first c (x.gauges.nth c) (y.gauges.nth c) s.flow).out)
          ++ (allBodies.flatMap fun b => (bodyReport s.base x.first b (x.bodies.nth b) (y.bodies.nth b) s.flow).out)
          ++ (allBodies.flatMap fun b => (limitReports s.base b (x.bodies.nth b) (y.bodies.nth b) s.flow).out) ++ more))
  ∧ (∀ st : BodyStatus, (st.usable = true ↔ st = .good ∨ st = .single)
    ∧ (st.usableForcing = true ↔ st = .good ∨ st = .single ∨ st = .subst))
  ∧ (∀ g : Fin 4, (lowerBody g).val = g.val ∧ (upperBody g).val = g.val + 1)
  ∧ (∀ (v : Base) (first : Bool) (c : Fin 8) (old new : Gauge) (f : Flow),
    (gaugeReports v first c old new f).out = f.out
      ++ (if new.status = .fault ∧ (first = true ∨ old.status = .good) then
          [reportNow v .alarm 0x01 (u1 c.val ++ u2 new.raw)] else [])
      ++ (if old.capture.isSome = true ∧ new.capture = none then
          [reportNow v .water 0x46 (u1 c.val ++ u1 ((old.capture.map (·.index)).getD 0))] else [])
      ++ (if new.status = .good ∧ old.status ≠ .good ∧ first = false then
          [reportNow v .water 0x40 (u1 c.val ++ lvl2 new.level)] else []))
  ∧ ∀ (v : Base) (first : Bool) (b : Fin 5) (old new : Body) (f : Flow),
    let fields := u1 b.val ++ u1 old.status.code ++ u1 new.status.code ++ lvl2 new.level
    let limit (which code : Nat) (was is : Bool) : List Report :=
      if was = is then [] else [reportNow v .water (if is then code else 0x44) (u1 b.val ++ u1 which ++ lvl2 new.level)]
    (bodyReport v first b old new f).out = f.out ++ (if new.status = old.status ∧ first = false then []
      else if new.status = .doubtful ∨ new.status = .fault then [reportNow v .alarm 0x02 fields]
      else [reportNow v .water 0x41 fields])
    ∧ (limitReports v b old new f).out = f.out ++ limit 0 0x42 old.high new.high ++ limit 1 0x43 old.low new.low

/-- Tier 2. A chamber with two GOOD gauges that agree is GOOD at their mean rounded down; one with two GOOD gauges that
disagree is DOUBTFUL at the level nearer the last GOOD one, which it keeps; one with a single GOOD gauge is SINGLE at that
gauge's level. Without a GOOD gauge it is SUBST at the mean of two SUBST gauges or the level of the one, and in FAULT at the
level it had with neither; the last GOOD level stands in all of these. A reach is as its one gauge, and in FAULT keeps its
level. DN and UP are reaches of gauges 0 and 7, chamber k has gauges 2k−1 and 2k (01/R8, R9, R10). -/
def Obligations.ChamberFollowsItsGauges : Prop :=
  (∀ (tol : Nat) (a b : Gauge) (old : Body) (x y : Int), a.level = some x → b.level = some y →
    let d := deriveChamber tol a b old
    (a.status = .good → b.status = .good → mag (x - y) ≤ tol →
      d.status = .good ∧ d.level = some ((x + y) / 2) ∧ d.lastGood = some ((x + y) / 2))
    ∧ (a.status = .good → b.status = .good → (tol : Int) < mag (x - y) →
      d.status = .doubtful ∧ d.lastGood = old.lastGood
      ∧ (∀ l, old.lastGood = some l → mag (y - l) < mag (x - l) → d.level = some y)
      ∧ (∀ l, old.lastGood = some l → mag (x - l) ≤ mag (y - l) → d.level = some x)
      ∧ (old.lastGood = none → d.level = some x))
    ∧ (a.status = .good → b.status ≠ .good → d.status = .single ∧ d.level = some x ∧ d.lastGood = old.lastGood)
    ∧ (a.status ≠ .good → b.status = .good → d.status = .single ∧ d.level = some y ∧ d.lastGood = old.lastGood)
    ∧ (a.status = .subst → b.status = .subst → d.status = .subst ∧ d.level = some ((x + y) / 2)))
  ∧ (∀ (tol : Nat) (a b : Gauge) (old : Body), a.status ≠ .good → b.status ≠ .good →
    let d := deriveChamber tol a b old
    d.lastGood = old.lastGood ∧ d.high = old.high ∧ d.low = old.low
    ∧ (a.status = .subst → b.status = .fault → d.status = .subst ∧ d.level = a.level)
    ∧ (a.status = .fault → b.status = .subst → d.status = .subst ∧ d.level = b.level)
    ∧ (a.status = .fault → b.status = .fault → d.status = .fault ∧ d.level = old.level))
  ∧ (∀ (g : Gauge) (old : Body),
    let d := deriveReach g old
    d.lastGood = old.lastGood ∧ d.high = old.high ∧ d.low = old.low
    ∧ (g.status = .good → d.status = .good ∧ d.level = g.level)
    ∧ (g.status = .subst → d.status = .subst ∧ d.level = g.level)
    ∧ (g.status = .fault → d.status = .fault ∧ d.level = old.level))
  ∧ (∀ x : Int, mag x = |x|)
  ∧ ∀ (v : Settings) (gs : Tbl 8 Gauge) (old : Body),
    deriveBody v gs 0 old = deriveReach (gs.nth 0) old
    ∧ deriveBody v gs 1 old = deriveChamber v.agreeTol (gs.nth 1) (gs.nth 2) old
    ∧ deriveBody v gs 2 old = deriveChamber v.agreeTol (gs.nth 3) (gs.nth 4) old
    ∧ deriveBody v gs 3 old = deriveChamber v.agreeTol (gs.nth 5) (gs.nth 6) old
    ∧ deriveBody v gs 4 old = deriveReach (gs.nth 7) old

/-- Tier 1. When the clear timer has run 600 s the flood state returns to CLEAR, its timer stops, and FLOOD leaves the
cause set, with FLIGHT_STATE (01/R15, 09/R159). The code of its cause is the model's (log 14). -/
def Obligations.FloodClearsAfterTenMinutes : Prop :=
  ∀ (k : Nat) (s : State), s.powered = true → s.base.scanner.flood = true → s.base.scanner.clearSince = some k →
    k + 6000 ≤ s.base.elapsed →
    ∃ f, exec .floodCleared s = .next ((s.withScanner { s.base.scanner with flood := false, clearSince := none }).conclude f)
      ∧ f.regime = { s.plant.regime with flood := false } ∧ OnlyCondition s.plant f.toPlant
      ∧ (s.plant.regime.flood = false → f.out = [])
      ∧ (s.plant.regime.flood = true →
        f.out.head? = some (flightNow s.base { s.plant.regime with flood := false } .flood))

/-- Tier 2. A calibration runs from CAL_POINT through CAL_CAPTURED to CAL_COMMIT: the capture starts empty on a GOOD
gauge; every in-range sample adds its code until there are eight; then the mean code, rounded half away from zero, with
the staff level becomes the point of its index, the other standing, in what LEVELS shows too, and CAL_CAPTURED is
raised. CAL_COMMIT with two held points at least 200 codes and 500 mm apart writes the gain 1024·(Y2 − Y1)/(X2 − X1) and
the offset Y1 − gain·X1/1024, both rounded half away from zero, where they lie in 1..65535 and −32768..32767; it clears
both points, sets the re-initialise flag, restarts the holds beside the gauge's body and raises CAL_DONE; otherwise it
is refused BAD_FIELD, without two points STATE, and while a capture runs BUSY (01/R16, R17, R18; 03/R61). That the
capture completes in a step of its own, apart from the SCAN of its eighth sample, is the model's reading (log 11, 53),
and so are the 4 bytes of the gain and the offset (log 14). -/
def Obligations.CalibrationCapturesThenCommits : Prop :=
  (∀ (rq : Rq) (c : Fin 8) (index : Nat) (staff : Int) (s : State), Admitted s rq 0 → (index = 1 ∨ index = 2) →
    -2000 ≤ staff → staff ≤ 20000 →
    let g := s.base.scanner.gauges.nth c
    (g.capture.isSome = true → exec (.calPoint rq c.val index staff) s = .next (s.no rq 0x12 .busy []))
    ∧ (g.capture = none → g.status ≠ .good → exec (.calPoint rq c.val index staff) s = .next (s.no rq 0x12 .state []))
    ∧ (g.capture = none → g.status = .good → exec (.calPoint rq c.val index staff) s =
      .next ((s.updGauge c fun g => { g with capture := some ⟨index, staff, 0, 0⟩ }).ok rq 0x12 [])))
  ∧ (∀ (gain : Nat) (offset : Int) (x : Nat) (g : Gauge),
    let after := (sampleGauge gain offset x g).capture
    (g.capture = none → after = none)
    ∧ ∀ k, g.capture = some k →
      (16 ≤ x → x ≤ 4079 → k.taken < 8 → after = some { k with taken := k.taken + 1, sum := k.sum + x })
      ∧ (k.taken = 8 → after = some k))
  ∧ (∀ (c : Fin 8) (k : Capture) (s : State), s.powered = true → (s.base.scanner.gauges.nth c).capture = some k →
    (k.taken ≠ 8 → exec (.calCaptured c) s = .next s)
    ∧ (k.taken = 8 → (k.index = 1 ∨ k.index = 2) →
      let done (g : Gauge) : Gauge := if k.index = 1
        then { g with capture := none, point1 := some ⟨(roundHalfAway k.sum 8).toNat, k.staff⟩ }
        else { g with capture := none, point2 := some ⟨(roundHalfAway k.sum 8).toNat, k.staff⟩ }
      ∃ t, exec (.calCaptured c) s = .next t ∧ SameLink s t ∧ t.plant = s.plant
        ∧ t.base = { s.base with scanner := { s.base.scanner with
            gauges := s.base.scanner.gauges.upd c done, shown := s.base.scanner.shown.upd c done } }
        ∧ t.link = s.link.place (reportNow s.base .water 0x45
          (u1 c.val ++ u1 k.index ++ u2 (roundHalfAway k.sum 8).toNat ++ s2 k.staff))))
  ∧ ∀ (rq : Rq) (c : Fin 8) (s : State), Admitted s rq 0 →
    let g := s.base.scanner.gauges.nth c
    (∀ k, g.capture = some k → exec (.calCommit rq c.val) s = .next (s.no rq 0x13 .busy []))
    ∧ (g.capture = none → (g.point1 = none ∨ g.point2 = none) →
      exec (.calCommit rq c.val) s = .next (s.no rq 0x13 .state []))
    ∧ ∀ p q, g.capture = none → g.point1 = some p → g.point2 = some q →
      let dx : Int := (q.raw : Int) - p.raw
      let dy : Int := q.staff - p.staff
      let gain : Int := roundHalfAway (if 0 < dx then 1024 * dy else -(1024 * dy)) dx.natAbs
      let offset : Int := p.staff - roundHalfAway (gain * p.raw) 1024
      let refused : Prop := |dx| < 200 ∨ |dy| < 500 ∨ gain < 1 ∨ 65535 < gain ∨ offset < -32768 ∨ 32767 < offset
      (refused → exec (.calCommit rq c.val) s = .next (s.no rq 0x13 .badField (u1 0xFF)))
      ∧ (¬ refused → ∃ t, exec (.calCommit rq c.val) s = .next (t.ok rq 0x13 (s4 gain ++ s4 offset)) ∧ SameLink s t
        ∧ t.base = { s.base with
            settings := { s.base.settings with
              gain := s.base.settings.gain.put c gain.toNat
              offset := s.base.settings.offset.put c offset }
            scanner := { s.base.scanner with
              gauges := s.base.scanner.gauges.put c { g with point1 := none, point2 := none, reinit := true } } }
        ∧ t.plant = { s.plant with channels := t.plant.channels }
        ∧ (∀ a : Fin 4, t.plant.channels.nth a =
          if (s.plant.channels.nth a).st = .holding ∧ (lowerBody a = bodyOf c ∨ upperBody a = bodyOf c) then
            { s.plant.channels.nth a with settleT := some s.base.elapsed, surge := 0 }
          else s.plant.channels.nth a)
        ∧ t.link = s.link.place (reportNow s.base .water 0x47 (u1 c.val ++ s4 gain ++ s4 offset)))

/-- Tier 1. GAUGE_SUBST on a gauge in FAULT or SUBST stores the level and puts it in SUBST, the flag set from FAULT and
left from SUBST; on a GOOD gauge it is refused STATE. A withdrawal returns a gauge in SUBST to FAULT with its level held
and the flag set, and is refused STATE for any other (01/R5, R7). -/
def Obligations.SubstitutionIsStoredAndWithdrawn : Prop :=
  ∀ (rq : Rq) (c : Fin 8) (s : State), Admitted s rq 0 →
    let g := s.base.scanner.gauges.nth c
    (∀ l : Int, -2000 ≤ l → l ≤ 20000 → g.status ≠ .good → exec (.gaugeSubst rq c.val l) s =
      .next ((s.updGauge c fun g => { g with
        status := .subst, subst := some l, reinit := if g.status = .fault then true else g.reinit }).ok rq 0x11
          (u1 c.val ++ u1 1)))
    ∧ (∀ l : Int, -2000 ≤ l → l ≤ 20000 → g.status = .good →
      exec (.gaugeSubst rq c.val l) s = .next (s.no rq 0x11 .state []))
    ∧ (∀ l : Int, (l < -2000 ∨ 20000 < l) → exec (.gaugeSubst rq c.val l) s = .next (s.no rq 0x11 .badField (u1 2)))
    ∧ (g.status = .subst → exec (.gaugeSubstWithdrawal rq c.val) s =
      .next ((s.updGauge c fun g => { g with status := .fault, subst := none, reinit := true }).ok rq 0x11 []))
    ∧ (g.status ≠ .subst → exec (.gaugeSubstWithdrawal rq c.val) s = .next (s.no rq 0x11 .state []))

/-! ## Gates and sluices. `f` is the state of the blocks after the command's own effect; the state after the step is `f`
with what the other blocks then do (`State.conclude`), and the reply. -/

/-- Tier 2. GATE_CMD is refused BAD_FIELD for a gate above 3, and STATE for a gate that is OPENING or CLOSING, or a
batch's in AUTO. OPEN and FORCE_OPEN of a SHUT gate are refused STATE in AUTO, and in MANUAL where the open interlock,
or the forcing condition, does not hold; otherwise the gate is OPENING for the keeper, its travel timed against the
limit now set, with GATE_STATE. A STOPPED gate is opened without a condition, its hold and its obstructions cleared; an
OPEN one becomes the keeper's; one in FAULT refuses. The open interlock: the gate SHUT, its channel in LEVEL, its head
usable and within the open tolerance, no adjacent gate connecting. The forcing condition: the head usable for forcing
and within the forcing limit, no adjacent gate connecting or granted, the channel IDLE or in LEVEL (02/R23, R25, R30,
R32, R33). That a STOPPED gate already at its open limit is OPEN at once, and that GATE_STATE tells of a new owner of an
OPEN gate, are the model's (log 12, 45). -/
def Obligations.KeeperOpensShutGate : Prop :=
  (∀ (rq : Rq) (s : State), Admitted s rq 0 →
    let acts (n : Nat) : List Instr := [.gateCmdOpen rq n, .gateCmdForceOpen rq n, .gateCmdClose rq n,
      .gateCmdReset rq n, .gateCmdRelease rq n]
    let refused (c : Instr) : Prop := exec c s = .next (s.no rq 0x19 .state [])
    (∀ n, 4 ≤ n → ∀ c ∈ acts n, exec c s = .next (s.no rq 0x19 .badField (u1 1)))
    ∧ ∀ g : Fin 4,
      let x := s.plant.gates.nth g
      let free : Prop := s.plant.regime.mode = .manual ∨ ∀ b, x.owner ≠ .batch b
      let moving : Gate := { x with
        st := .opening, owner := .keeper, travel := some s.base.elapsed, limit := s.base.settings.travelLimit
        beamClear := none, ask := none }
      let atOpen : Prop := s.base.pins.openLimit.nth g = true ∧ s.base.pins.shutLimit.nth g = false
      let told := gateNow s.base g .opening .keeper
      let opens (c : Instr) (ready : Bool) : Prop :=
        let becomes (y : Gate) (rs : List Report) : Prop := ∃ f,
          exec c s = .next ((s.conclude f).ok rq 0x19 (u1 y.st.code)) ∧ OnlyGate g s.plant f.toPlant
            ∧ f.gates.nth g = y ∧ f.out = rs
        (x.st = .fault → refused c)
        ∧ (x.st = .shut → (s.plant.regime.mode = .auto ∨ ready = false) → refused c)
        ∧ (x.st = .shut → s.plant.regime.mode = .manual → ready = true → becomes moving [told])
        ∧ (x.st = .stopped → free → ¬ atOpen → becomes { moving with hold := false, obstructions := 0 } [told])
        ∧ (x.st = .stopped → free → atOpen →
          becomes { moving with hold := false, obstructions := 0, st := .opened, travel := none }
            [told, gateNow s.base g .opened .keeper])
        ∧ (x.st = .opened → free → becomes { x with owner := .keeper }
          (if x.owner = .keeper then [] else [gateNow s.base g .opened .keeper]))
      ((x.st = .opening ∨ x.st = .closing ∨ (s.plant.regime.mode = .auto ∧ ∃ b, x.owner = .batch b)) →
        ∀ c ∈ acts g.val, refused c)
      ∧ opens (.gateCmdOpen rq g.val) (openInterlock s.base s.plant g)
      ∧ opens (.gateCmdForceOpen rq g.val) (forceReady s.base s.plant g))
  ∧ ∀ (v : Base) (p : Plant) (g : Fin 4) (h : Int), (v.scanner.heads.nth g).value = some h →
    let apart (a : Fin 4) : Prop := (p.gates.nth a).st = .shut ∧ (p.sluices.nth a).st ≠ .fault ∧ (p.sluices.nth a).pos = 0
    let near (a : Fin 4) : Prop := a.val + 1 = g.val ∨ g.val + 1 = a.val
    (openInterlock v p g = true ↔ (p.gates.nth g).st = .shut ∧ (p.channels.nth g).st = .level
      ∧ (v.scanner.heads.nth g).usable = true ∧ |h| ≤ v.settings.openTol ∧ ∀ a, near a → apart a)
    ∧ (forceReady v p g = true ↔ (v.scanner.heads.nth g).usableForcing = true ∧ |h| ≤ v.settings.forcingLimit
      ∧ (∀ a, near a → apart a ∧ p.grants.nth a = false)
      ∧ ((p.channels.nth g).st = .idle ∨ (p.channels.nth g).st = .level))

/-- Tier 2. CLOSE of an OPEN or STOPPED gate that no batch holds in AUTO is refused STATE while GN is lit on either head;
otherwise the gate is the keeper's, its hold and its obstructions cleared, and CLOSING with GATE_STATE, its travel timed
against the limit now set, or STOPPED with one obstruction and GATE_OBSTRUCTED when its beam is blocked. A SHUT gate becomes
the keeper's, and one in FAULT refuses. GN is lit where a green aspect drives it in health or its stray mark stands
(02/R23, R27, R29, R30, R34; 04/R64, R73). That GATE_STATE tells of a new owner where no other report does, and the held
byte of GATE_OBSTRUCTED, are the model's choice (log 45, 14). -/
def Obligations.KeeperClosesOpenGate : Prop :=
  (∀ (rq : Rq) (g : Fin 4) (s : State), Admitted s rq 0 →
    let x := s.plant.gates.nth g
    let free : Prop := s.plant.regime.mode = .manual ∨ ∀ b, x.owner ≠ .batch b
    let c : Instr := .gateCmdClose rq g.val
    let refused : Prop := exec c s = .next (s.no rq 0x19 .state [])
    let becomes (y : Gate) (rs : List Report) : Prop := ∃ f,
      exec c s = .next ((s.conclude f).ok rq 0x19 (u1 y.st.code)) ∧ OnlyGate g s.plant f.toPlant
        ∧ f.gates.nth g = y ∧ f.out = rs
    let owned := if x.owner = .keeper then [] else [gateNow s.base g x.st .keeper]
    let taken : Gate := { x with
      owner := .keeper, hold := false, limit := s.base.settings.travelLimit, beamClear := none, ask := none }
    (x.st = .fault → refused)
    ∧ (x.st = .shut → free → becomes { x with owner := .keeper } owned)
    ∧ ((x.st = .opened ∨ x.st = .stopped) →
      (s.plant.gateLit g = true → refused)
      ∧ (free → s.plant.gateLit g = false → s.base.pins.beam.nth g = false →
        becomes { taken with st := .closing, obstructions := 0, travel := some s.base.elapsed }
          [gateNow s.base g .closing .keeper])
      ∧ (free → s.plant.gateLit g = false → s.base.pins.beam.nth g = true →
        becomes { taken with st := .stopped, obstructions := 1, travel := none }
          (owned ++ [reportNow s.base .alarm 0x04 (u1 g.val ++ u1 1 ++ b1 false)]))))
  ∧ ∀ (p : Plant) (g : Fin 4), p.gateLit g = true ↔ ∃ h : Fin 8, (h.val = 2 * g.val ∨ h.val = 2 * g.val + 1)
    ∧ ((((p.heads.nth h).shown = .prepare ∨ (p.heads.nth h).shown = .go) ∧ (p.heads.nth h).good.gn = true)
      ∨ (p.heads.nth h).mark.gn = true)

/-- Tier 2. RESET takes a gate in FAULT to the state its one showing limit gives, and is refused STATE when the limits
show both or neither, and for a gate not in FAULT; RELEASE gives a SHUT or OPEN gate of the keeper to no one, and is
refused STATE otherwise; each raises GATE_STATE (02/R23, R34; for RELEASE log 45). -/
def Obligations.KeeperResetsAndReleasesGate : Prop :=
  ∀ (rq : Rq) (g : Fin 4) (s : State), Admitted s rq 0 →
    ((s.plant.gates.nth g).st ≠ .fault → exec (.gateCmdReset rq g.val) s = .next (s.no rq 0x19 .state []))
    ∧ ((s.plant.gates.nth g).st = .fault → (∀ b, (s.plant.gates.nth g).owner ≠ .batch b) →
      (s.base.pins.shutLimit.nth g = s.base.pins.openLimit.nth g →
        exec (.gateCmdReset rq g.val) s = .next (s.no rq 0x19 .state []))
      ∧ (s.base.pins.shutLimit.nth g = true → s.base.pins.openLimit.nth g = false →
        ∃ f, exec (.gateCmdReset rq g.val) s = .next ((s.conclude f).ok rq 0x19 (u1 0)) ∧ OnlyGate g s.plant f.toPlant
          ∧ (f.gates.nth g).st = .shut ∧ (f.gates.nth g).cause = none ∧ (f.gates.nth g).lastShut = s.base.elapsed
          ∧ (f.gates.nth g).owner = (s.plant.gates.nth g).owner
          ∧ f.out = [gateNow s.base g .shut (s.plant.gates.nth g).owner])
      ∧ (s.base.pins.shutLimit.nth g = false → s.base.pins.openLimit.nth g = true →
        ∃ f, exec (.gateCmdReset rq g.val) s = .next ((s.conclude f).ok rq 0x19 (u1 2)) ∧ OnlyGate g s.plant f.toPlant
          ∧ (f.gates.nth g).st = .opened ∧ (f.gates.nth g).cause = none
          ∧ (f.gates.nth g).owner = (s.plant.gates.nth g).owner
          ∧ f.out = [gateNow s.base g .opened (s.plant.gates.nth g).owner]))
    ∧ ((s.plant.gates.nth g).owner = .keeper →
      ((s.plant.gates.nth g).st = .shut ∨ (s.plant.gates.nth g).st = .opened) →
      ∃ f, exec (.gateCmdRelease rq g.val) s = .next ((s.conclude f).ok rq 0x19 (u1 (s.plant.gates.nth g).st.code))
        ∧ OnlyGate g s.plant f.toPlant ∧ f.gates.nth g = { s.plant.gates.nth g with owner := .none }
        ∧ f.out = [gateNow s.base g (s.plant.gates.nth g).st .none])
    ∧ (((s.plant.gates.nth g).owner ≠ .keeper ∨
        ((s.plant.gates.nth g).st ≠ .shut ∧ (s.plant.gates.nth g).st ≠ .opened)) →
      exec (.gateCmdRelease rq g.val) s = .next (s.no rq 0x19 .state []))

/-- Tier 2. A change of limits is judged against the gate's state: OPENING reaches OPEN at the open limit and CLOSING
reaches SHUT at the shut limit, timed afresh, with GATE_STATE; a SHUT or OPEN gate that loses its limit, one OPENING,
CLOSING or STOPPED at which a wrong limit comes to show, and any gate that shows both, enters FAULT, the keeper's, its
movement, hold, obstructions and request ended, with GATE_FAULT; a gate in FAULT stays (02/R22, R26, R28). The open
drive of a gate is on in OPENING alone and the close drive in CLOSING alone (02/R25, R27, R29). That a limit which
showed before the movement began is no wrong limit, and the codes of the causes, are the model's (log 12, 14). -/
def Obligations.LimitsMoveOrFaultTheGate : Prop :=
  (∀ (g : Fin 4) (s : State), s.powered = true →
    (s.drives.gateOpen.nth g = true ↔ (s.plant.gates.nth g).st = .opening)
    ∧ (s.drives.gateClose.nth g = true ↔ (s.plant.gates.nth g).st = .closing))
  ∧ ∀ (g : Fin 4) (sh op : Bool) (s : State), s.powered = true →
    let x := s.plant.gates.nth g
    let t := s.withPins { s.base.pins with
      shutLimit := s.base.pins.shutLimit.put g sh, openLimit := s.base.pins.openLimit.put g op }
    let newSh : Prop := sh = true ∧ s.base.pins.shutLimit.nth g = false
    let newOp : Prop := op = true ∧ s.base.pins.openLimit.nth g = false
    ∃ f, exec (.gateLimitInput g sh op) s = .next (t.conclude f) ∧ OnlyGate g s.plant f.toPlant
      ∧ (let becomes (y : Gate) (rs : List Report) : Prop := f.gates.nth g = y ∧ f.out = rs
        let faults (c : GateCause) (k : Nat) : Prop := becomes
          { x with st := .fault, owner := .keeper, travel := none, obstructions := 0, beamClear := none, ask := none
                   hold := false, cause := some c }
          [reportNow s.base .alarm 0x03 (u1 g.val ++ u1 k ++ u1 x.st.code ++ b1 sh ++ b1 op)]
        let stays : Prop := becomes x []
        (x.st = .fault → stays)
        ∧ (x.st ≠ .fault → sh = true → op = true → faults .limitBoth 2)
        ∧ (x.st = .shut → (sh = false → faults .limitLost 1) ∧ (sh = true → op = false → stays))
        ∧ (x.st = .opened → (op = false → faults .limitLost 1) ∧ (op = true → sh = false → stays))
        ∧ (x.st = .opening →
          (op = true → sh = false → becomes { x with st := .opened, travel := none } [gateNow s.base g .opened x.owner])
          ∧ (op = false → newSh → faults .limitWrong 3) ∧ (op = false → ¬ newSh → stays))
        ∧ (x.st = .closing →
          (sh = true → op = false →
            becomes { x with st := .shut, travel := none, lastShut := s.base.elapsed, obstructions := 0 }
              [gateNow s.base g .shut x.owner])
          ∧ (sh = false → newOp → faults .limitWrong 3) ∧ (sh = false → ¬ newOp → stays))
        ∧ (x.st = .stopped → (sh = false ∨ op = false) →
          ((newSh ∨ newOp) → faults .limitWrong 3) ∧ (¬ newSh → ¬ newOp → stays)))

/-- Tier 2. A beam blocked while the gate is CLOSING stops it and counts an obstruction; the third holds it for the
keeper. When the beam of a STOPPED gate that is not held has been clear for 10 s and no green is lit, it is CLOSING
again, its travel timed afresh against the limit with which it was taken. The first raises GATE_OBSTRUCTED, the second
GATE_STATE. Any other input of the beam leaves the count and the state: of a STOPPED gate not held, a clear beam starts
the beam-clear timer where it does not run, and a blocked one stops it; in a flight stood down a gate left for its beam
or for members passing, and now free of both, is sent a Regime close (02/R29, R30, R31; 09/R163). The held byte of
GATE_OBSTRUCTED is the model's (log 14), and a resumption is no new taking (log 13). -/
def Obligations.BeamStopsAndResumesTheGate : Prop :=
  (∀ (g : Fin 4) (s : State), s.powered = true → (s.plant.gates.nth g).st = .closing →
    ∃ f, exec (.beamInput g true) s =
        .next ((s.withPins { s.base.pins with beam := s.base.pins.beam.put g true }).conclude f)
      ∧ OnlyGate g s.plant f.toPlant ∧ (f.gates.nth g).st = .stopped ∧ (f.gates.nth g).travel = none
      ∧ (f.gates.nth g).beamClear = none
      ∧ (f.gates.nth g).obstructions = (s.plant.gates.nth g).obstructions + 1
      ∧ ((f.gates.nth g).hold = true ↔ 3 ≤ (s.plant.gates.nth g).obstructions + 1)
      ∧ (f.gates.nth g).owner =
        (if 3 ≤ (s.plant.gates.nth g).obstructions + 1 then .keeper else (s.plant.gates.nth g).owner)
      ∧ f.out = [reportNow s.base .alarm 0x04 (u1 g.val ++ u1 ((s.plant.gates.nth g).obstructions + 1)
        ++ b1 (decide (3 ≤ (s.plant.gates.nth g).obstructions + 1)))])
  ∧ (∀ (g : Fin 4) (blocked : Bool) (s : State), s.powered = true →
    let x := s.plant.gates.nth g
    let still : Gate := if x.st = .stopped ∧ x.hold = false then
        { x with beamClear := if blocked = true then none else some (x.beamClear.getD s.base.elapsed) }
      else x
    let again : Prop := blocked = false ∧ x.st ≠ .shut ∧ s.plant.regime.stoodDown = true
      ∧ s.plant.passingSet.nth g = false
      ∧ (⟨false, g, .beam⟩ ∈ s.plant.regime.left ∨ ⟨false, g, .shifting⟩ ∈ s.plant.regime.left)
    let leaves (y : Gate) (rs : List Report) : Prop := ∃ f, exec (.beamInput g blocked) s =
        .next ((s.withPins { s.base.pins with beam := s.base.pins.beam.put g blocked }).conclude f)
      ∧ f.toPlant = { s.plant with gates := s.plant.gates.put g y, regime := f.regime }
      ∧ (¬ again → f.regime = s.plant.regime) ∧ f.out = rs
    ((blocked = false ∨ x.st ≠ .closing) → ¬ again → leaves still [])
    ∧ (again →
      ((x.st = .fault ∨ x.st = .closing ∨ (x.st = .stopped ∧ x.hold = true)) → leaves x [])
      ∧ (x.st = .stopped → x.hold = false → leaves { still with ask := none } [])
      ∧ ((x.st = .opening ∨ (x.st = .opened ∧ s.plant.gateLit g = true)) → leaves { x with ask := some .regimeClose } [])
      ∧ (x.st = .opened → s.plant.gateLit g = false →
        leaves { x with
            st := .closing, travel := some s.base.elapsed, limit := s.base.settings.travelLimit, obstructions := 0
            hold := false, beamClear := none, ask := none }
          [gateNow s.base g .closing x.owner])))
  ∧ ∀ (g : Fin 4) (k : Nat) (s : State), s.powered = true → (s.plant.gates.nth g).st = .stopped →
    (s.plant.gates.nth g).hold = false → (s.plant.gates.nth g).beamClear = some k → k + 100 ≤ s.base.elapsed →
    s.plant.gateLit g = false →
    ∃ f, exec (.beamClearExpiry g) s = .next (s.conclude f) ∧ OnlyGate g s.plant f.toPlant
      ∧ f.gates.nth g = { s.plant.gates.nth g with
        st := .closing, travel := some s.base.elapsed, beamClear := none, ask := none }
      ∧ f.out = [gateNow s.base g .closing (s.plant.gates.nth g).owner]

/-- Tier 1. A gate that has not reached its limit when its travel time limit has run enters FAULT with cause TRAVEL, the
keeper's, with GATE_FAULT; before that the expiry has no effect (02/R22, R30). The code of the cause is the model's
(log 14). -/
def Obligations.TravelTimeoutFaultsTheGate : Prop :=
  ∀ (g : Fin 4) (k : Nat) (s : State), s.powered = true →
    ((s.plant.gates.nth g).st = .opening ∨ (s.plant.gates.nth g).st = .closing) →
    (s.plant.gates.nth g).travel = some k →
    (k + 10 * (s.plant.gates.nth g).limit ≤ s.base.elapsed →
      ∃ f, exec (.travelTimeout g) s = .next (s.conclude f) ∧ OnlyGate g s.plant f.toPlant
        ∧ f.gates.nth g = { s.plant.gates.nth g with
          st := .fault, owner := .keeper, travel := none, obstructions := 0, beamClear := none, ask := none
          hold := false, cause := some .travel }
        ∧ f.out = [reportNow s.base .alarm 0x03 (u1 g.val ++ u1 0 ++ u1 (s.plant.gates.nth g).st.code
          ++ b1 (s.base.pins.shutLimit.nth g) ++ b1 (s.base.pins.openLimit.nth g))])
    ∧ (s.base.elapsed < k + 10 * (s.plant.gates.nth g).limit → exec (.travelTimeout g) s = .next s)

/-- Tier 2. A MOVING sluice that reads the next position toward its command takes it, and is STEADY at the commanded
one; an invalid reading, and any other position, put it in FAULT, as does a step not completed in 15 s; a STEADY sluice
whose reading changes is in FAULT too, and one in FAULT stays; SLUICE_STEADY and SLUICE_FAULT are raised. The raise
drive is on while it is MOVING to a higher position, the lower drive while it is MOVING to a lower one (02/R35, R36).
The codes of the causes, that a valid reading which faults a sluice becomes its position, and that an invalid one has
the invalid-reading cause, are the model's (log 14, 33, 54). -/
def Obligations.SluiceFollowsItsPositionInput : Prop :=
  (∀ (g : Fin 4) (s : State), s.powered = true →
    let x := s.plant.sluices.nth g
    (s.drives.sluiceRaise.nth g = true ↔ x.st = .moving ∧ x.pos < x.cmd)
    ∧ (s.drives.sluiceLower.nth g = true ↔ x.st = .moving ∧ x.cmd < x.pos))
  ∧ (∀ (g : Fin 4) (code : Fin 8) (s : State), s.powered = true → (s.plant.sluices.nth g).st ≠ .moving →
    let x := s.plant.sluices.nth g
    ∃ f, exec (.sluicePositionInput g code) s =
        .next ((s.withPins { s.base.pins with sluicePos := s.base.pins.sluicePos.put g code }).conclude f)
      ∧ OnlySluice g s.plant f.toPlant
      ∧ ((x.st = .fault ∨ code.val = x.pos ∧ code.val ≤ 4) → f.sluices.nth g = x ∧ f.out = [])
      ∧ (x.st = .steady → 4 < code.val → f.sluices.nth g = ⟨.fault, x.pos, x.cmd, none⟩
        ∧ f.out = [reportNow s.base .alarm 0x05 (u1 g.val ++ u1 3 ++ u1 x.pos ++ u1 x.cmd)])
      ∧ (x.st = .steady → code.val ≤ 4 → code.val ≠ x.pos → f.sluices.nth g = ⟨.fault, code.val, x.cmd, none⟩
        ∧ f.out = [reportNow s.base .alarm 0x05 (u1 g.val ++ u1 2 ++ u1 code.val ++ u1 x.cmd)]))
  ∧ (∀ (g : Fin 4) (code : Fin 8) (s : State), s.powered = true → (s.plant.sluices.nth g).st = .moving →
    let x := s.plant.sluices.nth g
    let next := if x.pos < x.cmd then x.pos + 1 else x.pos - 1
    ∃ f, exec (.sluicePositionInput g code) s =
        .next ((s.withPins { s.base.pins with sluicePos := s.base.pins.sluicePos.put g code }).conclude f)
      ∧ OnlySluice g s.plant f.toPlant
      ∧ (code.val ≤ 4 → code.val ≠ x.pos → code.val = next → next ≠ x.cmd →
        f.sluices.nth g = ⟨.moving, code.val, x.cmd, some s.base.elapsed⟩ ∧ f.out = [])
      ∧ (code.val ≤ 4 → code.val ≠ x.pos → code.val = next → next = x.cmd →
        f.sluices.nth g = ⟨.steady, code.val, x.cmd, none⟩
          ∧ f.out = [reportNow s.base .water 0x49 (u1 g.val ++ u1 code.val)])
      ∧ (4 < code.val → f.sluices.nth g = ⟨.fault, x.pos, x.cmd, none⟩
        ∧ f.out = [reportNow s.base .alarm 0x05 (u1 g.val ++ u1 3 ++ u1 x.pos ++ u1 x.cmd)])
      ∧ (code.val = x.pos → code.val ≤ 4 → f.sluices.nth g = x ∧ f.out = [])
      ∧ (code.val ≤ 4 → code.val ≠ x.pos → code.val ≠ next → f.sluices.nth g = ⟨.fault, code.val, x.cmd, none⟩
        ∧ f.out = [reportNow s.base .alarm 0x05 (u1 g.val ++ u1 1 ++ u1 code.val ++ u1 x.cmd)]))
  ∧ ∀ (g : Fin 4) (k : Nat) (s : State), s.powered = true → (s.plant.sluices.nth g).st = .moving →
    (s.plant.sluices.nth g).step = some k → k + 150 ≤ s.base.elapsed →
    ∃ f, exec (.sluiceStepTimeout g) s = .next (s.conclude f) ∧ OnlySluice g s.plant f.toPlant
      ∧ f.sluices.nth g = ⟨.fault, (s.plant.sluices.nth g).pos, (s.plant.sluices.nth g).cmd, none⟩
      ∧ f.out = [reportNow s.base .alarm 0x05
        (u1 g.val ++ u1 0 ++ u1 (s.plant.sluices.nth g).pos ++ u1 (s.plant.sluices.nth g).cmd)]

/-- Tier 2. SLUICE_CMD takes a position for a sluice that is neither a channel's nor faulted, raised only in MANUAL and
from 0 only while no adjacent gate connects or is granted and the interval has run since the last SHUT times of its gate
and their neighbours, and commands it, 4 becoming 3 beside an occupied chamber; it is refused STATE otherwise, and
BAD_FIELD for a gate or a position out of range. RESET takes a faulted sluice to STEADY at the position its input reads,
and is refused STATE for one not in FAULT and for an input of 5 to 7; INTERVAL_MET starts a held opening (02/R38, R39,
R41, R42). That raising and opening go by the position the sluice stands at is read from R35 and R41 (log 73). -/
def Obligations.KeeperWorksSluices : Prop :=
  (∀ (rq : Rq) (g : Fin 4) (n : Nat) (s : State), Admitted s rq 0 →
    (4 < n → exec (.sluiceCmdPosition rq g.val n) s = .next (s.no rq 0x1A .badField (u1 2)))
    ∧ (n ≤ 4 → sluiceBarred s.base s.plant g n = true →
      exec (.sluiceCmdPosition rq g.val n) s = .next (s.no rq 0x1A .state []))
    ∧ (n ≤ 4 → sluiceBarred s.base s.plant g n = false →
      let x := s.plant.sluices.nth g
      let m := if n = 4 ∧ s.plant.boundsOccupied g = true then 3 else n
      ∃ f, exec (.sluiceCmdPosition rq g.val n) s = .next ((s.conclude f).ok rq 0x1A (u1 m))
        ∧ OnlySluice g s.plant f.toPlant ∧ (f.sluices.nth g).cmd = m ∧ (f.sluices.nth g).pos = x.pos
        ∧ (x.st = .steady → f.out = []
          ∧ f.sluices.nth g = if m = x.pos then { x with cmd := m } else ⟨.moving, x.pos, m, some s.base.elapsed⟩)))
  ∧ (∀ (rq : Rq) (k n : Nat) (s : State), Admitted s rq 0 → 4 ≤ k →
    exec (.sluiceCmdPosition rq k n) s = .next (s.no rq 0x1A .badField (u1 1))
    ∧ exec (.sluiceCmdReset rq k) s = .next (s.no rq 0x1A .badField (u1 1)))
  ∧ (∀ (v : Base) (p : Plant) (g : Fin 4) (n : Nat),
    let x := p.sluices.nth g
    let near (a : Fin 4) : Prop := a.val + 1 = g.val ∨ g.val + 1 = a.val
    let joined (a : Fin 4) : Prop :=
      (p.gates.nth a).st ≠ .shut ∨ (p.sluices.nth a).st = .fault ∨ (p.sluices.nth a).pos ≠ 0
    (intervalMet v p g = true ↔
      ∀ a, (a = g ∨ near a) → (p.gates.nth a).lastShut + 10 * v.settings.gateInterval ≤ v.elapsed)
    ∧ (p.boundsOccupied g = true ↔ ∃ k, (k = g.val ∨ k = g.val + 1) ∧ 1 ≤ k ∧ k ≤ 3 ∧ p.occupants k ≠ [])
    ∧ (sluiceBarred v p g n = true ↔ (p.channels.nth g).st ≠ .idle ∨ x.st = .fault
      ∨ (x.pos < n ∧ p.regime.mode = .auto)
      ∨ (x.pos = 0 ∧ 0 < n ∧ ((∃ a, near a ∧ (joined a ∨ p.grants.nth a = true)) ∨ intervalMet v p g = false))))
  ∧ (∀ (rq : Rq) (g : Fin 4) (s : State), Admitted s rq 0 →
    (((s.plant.sluices.nth g).st ≠ .fault ∨ 4 < (s.base.pins.sluicePos.nth g).val) →
      exec (.sluiceCmdReset rq g.val) s = .next (s.no rq 0x1A .state []))
    ∧ ((s.plant.sluices.nth g).st = .fault → (s.base.pins.sluicePos.nth g).val ≤ 4 →
      ∃ f, exec (.sluiceCmdReset rq g.val) s =
          .next ((s.conclude f).ok rq 0x1A (u1 (s.base.pins.sluicePos.nth g).val))
        ∧ OnlySluice g s.plant f.toPlant
        ∧ f.sluices.nth g = ⟨.steady, (s.base.pins.sluicePos.nth g).val, (s.base.pins.sluicePos.nth g).val, none⟩
        ∧ f.out = []))
  ∧ ∀ (g : Fin 4) (s : State), s.powered = true → (s.plant.sluices.nth g).st = .steady →
    (s.plant.sluices.nth g).pos = 0 → 0 < (s.plant.sluices.nth g).cmd → intervalMet s.base s.plant g = true →
    ∃ f, exec (.intervalMet g) s = .next (s.conclude f) ∧ OnlySluice g s.plant f.toPlant
      ∧ f.sluices.nth g = { s.plant.sluices.nth g with st := .moving, step := some s.base.elapsed } ∧ f.out = []

/-! ## Levellings -/

/-- Tier 2. When the step interval has run, a RUNNING channel above the near band commands, below its maximum, one
position more, which its sluice takes unless it is in FAULT, and at its maximum none, and the step timer restarts;
within a near band changed since the last scan nothing is raised and the timer stops. The timer runs while the channel
is RUNNING, its sluice has reached position 1 and the last evaluation found the head above the near band (03/R45, R50,
R51). At a scan a RUNNING channel within the open tolerance whose sluice has reached position 1 is HOLDING, and within
the near band at position 1; a HOLDING one that leaves the tolerance is RUNNING, and a sign change counts a surge, at
the limit with SURGE and a fresh hold; either is SUSPENDED at 0 when a level is no longer usable, and a SUSPENDED one
resumes at 1 within 120 s, its sluice to reach position 1 again; a LEVEL one whose head has drifted, and one that waits
for water, are judged again from check 4, which asks a permit for an upstream draw alone (03/R48, R49, R50, R52, R53,
R55, R57; 06/R114). That a sluice which stands at 1 or above as the levelling begins, or at 1 as it resumes, has reached
it (log 60), that a RUNNING channel judges the near band as it begins (log 46), that a surge limit lowered during a hold to
the count reached restarts it at the next sign change (log 77), and the 4 bytes of the limit in SURGE (log 14) are the
model's. -/
def Obligations.StepTimerRaisesTheSluice : Prop :=
  (∀ (g : Fin 4) (k : Nat) (s : State), s.powered = true → (s.plant.channels.nth g).st = .running →
    (s.plant.channels.nth g).stepT = some k → k + 10 * s.base.settings.stepInterval ≤ s.base.elapsed →
    ∃ f, exec (.stepTimerExpiry g) s = .next (s.conclude f) ∧ OnlyWater s.plant f.toPlant
      ∧ (f.channels.nth g).st = .running
      ∧ (mag (headValue s.base g) ≤ s.base.settings.nearBand → (f.channels.nth g).stepT = none
        ∧ (f.channels.nth g).cmd = (s.plant.channels.nth g).cmd ∧ f.sluices = s.plant.sluices)
      ∧ ((s.base.settings.nearBand : Int) < mag (headValue s.base g) →
        (f.channels.nth g).stepT = some s.base.elapsed
        ∧ ((s.plant.channels.nth g).cmd < s.plant.maxPosition g →
          (f.channels.nth g).cmd = (s.plant.channels.nth g).cmd + 1
          ∧ ((s.plant.sluices.nth g).st ≠ .fault → (f.sluices.nth g).cmd = (s.plant.channels.nth g).cmd + 1))
        ∧ (s.plant.maxPosition g ≤ (s.plant.channels.nth g).cmd →
          (f.channels.nth g).cmd = (s.plant.channels.nth g).cmd ∧ f.sluices = s.plant.sluices)))
  ∧ (∀ (v : Base) (g : Fin 4) (f : Flow),
    let c := f.channels.nth g
    let up : Bool := c.reached || decide (c.st = .running ∧ (f.sluices.nth g).pos = 1)
    (followStep v g f).channels.nth g = { c with
      reached := up
      stepT := if c.st = .running ∧ up = true ∧ headUsable v g c.req = true ∧ c.far = true
        then some (c.stepT.getD v.elapsed) else none })
  ∧ ∀ (v : Base) (signs : Tbl 4 Sign) (g : Fin 4) (f : Flow),
    let c := f.channels.nth g
    let s := f.sluices.nth g
    let k := scanChannel v signs g f
    let x := k.channels.nth g
    let h := mag (headValue v g)
    let tol : Int := v.settings.openTol
    let usable : Prop := levelsUsable v g c.req = true
    let far : Bool := decide ((v.settings.nearBand : Int) < h)
    let atTol : Prop := h ≤ tol ∧ c.reached = true
    let lowered : Nat := if 1 < c.cmd then 1 else c.cmd
    let turns : Prop := signChanged v signs g = true
    let begun : Prop := x.start = some v.elapsed ∧ x.limit = some v.settings.levelTimeLimit ∧ x.req = c.req
      ∧ (usable → x.st = .running ∧ x.cmd = 1 ∧ x.reached = decide (1 ≤ s.pos) ∧ x.far = far)
      ∧ (¬ usable → x.st = .suspended ∧ x.cmd = 0 ∧ x.susp = some v.elapsed)
    let asks : Prop :=
      (permitDeferral v f.sched = none → x.permit = .given ∧ begun ∧ k.sched.permit = none
        ∧ k.sched.draws = addDraw ⟨v.elapsed, c.req.getD .keeper⟩ f.sched.draws)
      ∧ ∀ d, permitDeferral v f.sched = some d → x.permit = .asked ∧ x.st = .waitingWater
        ∧ k.sched.permit = some ⟨c.req.getD .keeper, v.elapsed, d⟩ ∧ k.sched.draws = f.sched.draws
    let drifts : Prop := (f.gates.nth g).st = .shut ∧ c.opened = false ∧ s.st = .steady ∧ s.pos = 0
      ∧ headUsable v g c.req = true ∧ tol < h
    (∀ a, a ≠ g → k.channels.nth a = f.channels.nth a ∧ k.sluices.nth a = f.sluices.nth a)
    ∧ k.grants = f.grants ∧ k.gates = f.gates ∧ k.heads = f.heads ∧ k.batches = f.batches ∧ k.passages = f.passages
    ∧ (c.st = .running → usable → atTol →
      x.st = .holding ∧ x.settleT = some v.elapsed ∧ x.surge = 0 ∧ x.stepT = none ∧ x.cmd = lowered)
    ∧ (c.st = .running → usable → ¬ atTol →
      (far = false → x = { c with cmd := lowered, far := false })
      ∧ (far = true → x = { c with far := true } ∧ k.sluices = f.sluices ∧ k.out = f.out))
    ∧ (c.st = .holding → usable → tol < h → x = { c with st := .running, settleT := none, surge := 0, far := far })
    ∧ (c.st = .holding → usable → h ≤ tol →
      (¬ turns → k = f)
      ∧ (turns → c.surge + 1 < v.settings.surgeLimit → x = { c with surge := c.surge + 1 } ∧ k.out = f.out)
      ∧ (turns → v.settings.surgeLimit ≤ c.surge + 1 → x = { c with settleT := some v.elapsed, surge := 0 }
        ∧ k.out = f.out ++ [reportNow v .water 0x4B (u1 g.val ++ settingBytes v.settings [.surgeLimit]
          ++ lvl2 (v.scanner.heads.nth g).value)]))
    ∧ ((c.st = .running ∨ c.st = .holding) → ¬ usable →
      x = { c with st := .suspended, cmd := 0, stepT := none, settleT := none, surge := 0, susp := some v.elapsed })
    ∧ (∀ t, c.st = .suspended → c.susp = some t →
      (usable → v.elapsed - t ≤ 1200 → 
        x = { c with st := .running, cmd := 1, susp := none, reached := false, far := far })
      ∧ ((¬ usable ∨ 1200 < v.elapsed - t) → k = f))
    ∧ (c.st = .level → (¬ drifts → k = f)
      ∧ (drifts → (g ≠ 3 ∨ headValue v g ≤ 0) → x.permit = .notNeeded ∧ begun)
      ∧ (drifts → g = 3 → 0 < headValue v g → asks ∧ (x.permit = .asked → x.start = none ∧ x.limit = none ∧ x.cmd = 0)))
    ∧ (c.st = .waitingWater → (headUsable v g c.req = false → k = f)
      ∧ (headUsable v g c.req = true → headValue v g ≤ 0 → x.permit = .notNeeded ∧ begun
        ∧ (g = 3 → k.sched.permit = none))
      ∧ (headUsable v g c.req = true → 0 < headValue v g → c.permit ≠ .undecided → k = f)
      ∧ (headUsable v g c.req = true → 0 < headValue v g → c.permit = .undecided → asks))
    ∧ ((c.st = .idle ∨ c.st = .waitingConnection ∨ c.st = .failed) → k = f)

/-- Tier 2. A hold that completes puts the channel in LEVEL with its sluice commanded to 0, its requester and grant kept,
and raises LEVELLING_STATE first (03/R46, R54). An opportunity is examined when it is the present entry gate's (06/R100).
That an absent H_g is sent as −32768 in a report, and the surge count at 0, are the model's (log 14, 76). -/
def Obligations.CompletedHoldIsLevel : Prop :=
  ∀ (g : Fin 4) (k : Nat) (s : State), s.powered = true → (s.plant.channels.nth g).st = .holding →
    (s.plant.channels.nth g).settleT = some k → k + 10 * s.base.settings.settleTime ≤ s.base.elapsed →
    ∃ f, exec (.levellingComplete g) s = .next (s.conclude f) ∧ OnlyWater s.plant f.toPlant
      ∧ (f.channels.nth g).st = .level ∧ (f.channels.nth g).cmd = 0 ∧ (f.channels.nth g).opened = false
      ∧ (f.channels.nth g).req = (s.plant.channels.nth g).req ∧ f.grants = s.plant.grants
      ∧ ((s.plant.sluices.nth g).st ≠ .fault → (f.sluices.nth g).cmd = 0)
      ∧ (f.opp = true ↔ g = s.plant.sched.dir.entryGate)
      ∧ ∃ more, f.out = reportNow s.base .water 0x4A (u1 g.val ++ u1 4 ++ u1 5
        ++ purposeBytes (s.plant.channels.nth g).req ++ lvl2 (s.base.scanner.heads.nth g).value) :: more

/-- Tier 2. A levelling whose time limit has run fails with cause TIME, and one suspended for 120 s with cause SUSPENSION;
the sluice is commanded to 0, the timers stop, the grant is kept and LEVELLING_FAILED is raised (03/R56, R57).
That an absent H_g is sent as −32768 in a report, and the surge count at 0, are the model's (log 14, 76). -/
def Obligations.LevellingFailsOnItsTimers : Prop :=
  ∀ (g : Fin 4) (k : Nat) (s : State), s.powered = true →
    let fails (c : Instr) (why : ChanCause) : Prop := ∃ f, exec c s = .next (s.conclude f) ∧ OnlyWater s.plant f.toPlant
      ∧ (f.channels.nth g).st = .failed ∧ (f.channels.nth g).cause = some why ∧ (f.channels.nth g).cmd = 0
      ∧ (f.channels.nth g).stepT = none ∧ (f.channels.nth g).settleT = none ∧ (f.channels.nth g).susp = none
      ∧ (f.channels.nth g).req = (s.plant.channels.nth g).req ∧ f.grants = s.plant.grants
      ∧ ((s.plant.sluices.nth g).st ≠ .fault → (f.sluices.nth g).cmd = 0)
      ∧ ∃ before, f.out = before ++ [reportNow s.base .alarm 0x06 (u1 g.val ++ u1 why.code
        ++ purposeBytes (s.plant.channels.nth g).req ++ lvl2 (s.base.scanner.heads.nth g).value
        ++ u1 (s.plant.channels.nth g).cmd)]
    (((s.plant.channels.nth g).st = .running ∨ (s.plant.channels.nth g).st = .holding
        ∨ (s.plant.channels.nth g).st = .suspended) → (s.plant.channels.nth g).start = some k →
      ∀ limit, (s.plant.channels.nth g).limit = some limit → k + 10 * limit ≤ s.base.elapsed →
      fails (.levellingTimeLimit g) .time)
    ∧ ((s.plant.channels.nth g).st = .suspended → (s.plant.channels.nth g).susp = some k →
      k + 1200 ≤ s.base.elapsed → fails (.suspensionTimeout g) .suspension)

/-- Tier 2. LEVEL_CMD START in MANUAL gives an IDLE channel of a SHUT gate with usable levels to the keeper and answers with
the state its checks reach, one of four, WAITING_CONNECTION where the grant is not made; with a sluice in FAULT, which
refuses the command, the channel then fails with cause SLUICE (log 37). It is refused STATE otherwise. A grant is made where
the gate is clear of connections and of grants and no channel on the waiting list shares a body with it; otherwise the
channel joins the list's tail, and the list, reviewed oldest first, grants by the same test against the older ones still
on it. CANCEL returns a channel to IDLE with LEVELLING_STATE, gives back its grant and leaves the waiting list; in AUTO it
is refused STATE for another's levelling. A gate above 3 is BAD_FIELD (02/R40; 03/R46, R47, R58, R59, R62). That the report
of a cancel names the requester of the levelling that has ended, and sends an absent H_g as −32768, is the model's (log
14, 68). -/
def Obligations.KeeperStartsAndCancelsLevelling : Prop :=
  (∀ (rq : Rq) (n : Nat) (s : State), Admitted s rq 0 → 4 ≤ n →
    exec (.levelCmdStart rq n) s = .next (s.no rq 0x21 .badField (u1 1))
    ∧ exec (.levelCmdCancel rq n) s = .next (s.no rq 0x21 .badField (u1 1)))
  ∧ (∀ (v : Base) (p : Plant) (g : Fin 4),
    let levelLost (k : Fin 5) : Prop := (v.scanner.bodies.nth k).status = .doubtful ∨ (v.scanner.bodies.nth k).status = .fault
    (levelStartBarred v p g = true ↔ p.regime.mode = .auto ∨ (p.channels.nth g).st ≠ .idle ∨ (p.gates.nth g).st ≠ .shut
      ∨ levelLost (lowerBody g) ∨ levelLost (upperBody g)))
  ∧ (∀ (g : Fin 4) (f : Flow),
    let near (a : Fin 4) : Prop := a.val + 1 = g.val ∨ g.val + 1 = a.val
    let joined (a : Fin 4) : Prop :=
      (f.gates.nth a).st ≠ .shut ∨ (f.sluices.nth a).st = .fault ∨ (f.sluices.nth a).pos ≠ 0
    let clear : Prop := ∀ a, near a → ¬ joined a ∧ f.grants.nth a = false
    let meets (a : Fin 4) : Prop := a = g ∨ near a
    (f.grants.nth g = true → requestGrant g f = (true, f))
    ∧ (f.grants.nth g = false → g ∈ f.waiting → requestGrant g f = (false, f))
    ∧ (f.grants.nth g = false → clear → (∀ a ∈ f.waiting, ¬ meets a) →
      requestGrant g f = (true, { f with grants := f.grants.put g true }))
    ∧ (f.grants.nth g = false → g ∉ f.waiting → (¬ clear ∨ ∃ a ∈ f.waiting, meets a) →
      requestGrant g f = (false, { f with waiting := f.waiting ++ [g] }))
    ∧ ∀ rest older : List (Fin 4),
      reviewWaiting [] older f = ([], f)
      ∧ ((clear ∧ ∀ a ∈ older, ¬ meets a) → reviewWaiting (g :: rest) older f =
        (let r := reviewWaiting rest older
          { f with grants := f.grants.put g true, waiting := f.waiting.filter (· ≠ g) }
        (g :: r.1, r.2)))
      ∧ (¬ (clear ∧ ∀ a ∈ older, ¬ meets a) →
        reviewWaiting (g :: rest) older f = reviewWaiting rest (older ++ [g]) f))
  ∧ ∀ (rq : Rq) (g : Fin 4) (s : State), Admitted s rq 0 →
    (levelStartBarred s.base s.plant g = true → exec (.levelCmdStart rq g.val) s = .next (s.no rq 0x21 .state []))
    ∧ (levelStartBarred s.base s.plant g = false →
      ∃ f k, exec (.levelCmdStart rq g.val) s = .next ((s.conclude f).ok rq 0x21 (u1 (ChanSt.code k)))
        ∧ (k = .waitingConnection ∨ k = .waitingWater ∨ k = .running ∨ k = .suspended)
        ∧ (k = .waitingConnection ↔ (requestGrant g s.flow).1 = false)
        ∧ OnlyWater s.plant f.toPlant ∧ (f.channels.nth g).req = some .keeper ∧ (f.channels.nth g).st ≠ .idle
        ∧ ((s.plant.sluices.nth g).st ≠ .fault → (f.channels.nth g).st = k)
        ∧ ((s.plant.sluices.nth g).st = .fault →
          (f.channels.nth g).st = .failed ∧ (f.channels.nth g).cause = some .sluice))
    ∧ ((s.plant.channels.nth g).st ≠ .idle → s.plant.regime.mode = .auto →
      (s.plant.channels.nth g).req ≠ some .keeper →
      exec (.levelCmdCancel rq g.val) s = .next (s.no rq 0x21 .state []))
    ∧ ((s.plant.channels.nth g).st ≠ .idle →
      (s.plant.regime.mode = .manual ∨ (s.plant.channels.nth g).req = some .keeper) →
      ∃ f, exec (.levelCmdCancel rq g.val) s = .next ((s.conclude f).ok rq 0x21 (u1 0)) ∧ OnlyWater s.plant f.toPlant
        ∧ f.channels.nth g = Channel.idle ∧ f.grants.nth g = false ∧ g ∉ f.waiting
        ∧ ∃ before, f.out = before ++ [reportNow s.base .water 0x4A (u1 g.val
          ++ u1 (s.plant.channels.nth g).st.code ++ u1 0 ++ purposeBytes (s.plant.channels.nth g).req
          ++ lvl2 (s.base.scanner.heads.nth g).value)])
    ∧ ((s.plant.channels.nth g).st = .idle →
      exec (.levelCmdCancel rq g.val) s = .next ((s.conclude s.flow).ok rq 0x21 (u1 0)))

/-! ## Signals -/

/-- Tier 2. A driven lamp whose proving time has run is FAILED; a GN that fails leaves STOP shown, its aspect staged and
pending, and stamps the GO-end time. Only that head changes; LAMP_FAIL and ASPECT are raised
(04/R71, R72, R75). That LAMP_FAIL carries the aspect from before the change is the model's choice (log 35). -/
def Obligations.ProvingTimeoutFailsTheLamp : Prop :=
  ∀ (h : Fin 8) (l : Lamp) (k : LampTimer) (s : State), s.powered = true → (s.plant.heads.nth h).good.nth l = true →
    (s.plant.heads.nth h).driven.nth l = true → (s.plant.heads.nth h).prove.nth l = some k →
    k.since + k.limit ≤ s.base.elapsed →
    ∃ f, exec (.lampFail h l) s = .next (s.conclude f) ∧ OnlyHead h s.plant f.toPlant
      ∧ (f.heads.nth h).good.nth l = false ∧ (f.heads.nth h).driven.nth l = false
      ∧ (∀ m, m ≠ l → (f.heads.nth h).good.nth m = (s.plant.heads.nth h).good.nth m)
      ∧ (f.heads.nth h).holder = (s.plant.heads.nth h).holder
      ∧ (l = .gn → (f.heads.nth h).shown = .stop ∧ (f.heads.nth h).pending = true
        ∧ (f.heads.nth h).staged = (s.plant.heads.nth h).staged ∧ (f.heads.nth h).goEnd = s.base.elapsed)
      ∧ f.out = [reportNow s.base .alarm 0x07 (u1 h.val ++ u1 (lampCode l) ++ u1 (s.plant.heads.nth h).shown.code),
        aspectNow s.base h (f.heads.nth h)]

/-- Tier 2. A lamp's proving timer runs while it is driven without current, its stray timer while it carries current and is
not driven; each starts with the proving time in force and stops when its condition ends, at an input of the current sense
as at any change of the head. STOP and PREPARE drive RA, or RB where RA is FAILED, SHUT both reds, PREPARE and GO also GN,
and no FAILED lamp is driven. Current that ceases clears a
stray mark, which on GN stamps the GO-end time. A stray timer that has run sets the mark; on a GN that has been reset it
clears the waved mark, and stamps nothing. LAMP_STRAY is raised when the mark is set and when it ends (04/R64, R72, R73,
R76); the byte that tells the two apart is the model's (log 14), and so is what a mark on a GN still FAILED leaves (log
62). -/
def Obligations.SensedCurrentStopsProvingAndClearsStray : Prop :=
  (∀ (h : Fin 8) (l : Lamp) (sensed : Bool) (s : State), s.powered = true →
    ∃ f, exec (.lampCurrentInput h l sensed) s = .next ((s.withPins { s.base.pins with
          lampCurrent := s.base.pins.lampCurrent.upd h fun x => x.put l sensed }).conclude f)
      ∧ OnlyHead h s.plant f.toPlant
      ∧ (sensed = true → (f.heads.nth h).prove.nth l = none
        ∧ (f.heads.nth h).mark = (s.plant.heads.nth h).mark
        ∧ (f.heads.nth h).stray.nth l = if (s.plant.heads.nth h).driven.nth l = true then none
          else some (((s.plant.heads.nth h).stray.nth l).getD ⟨s.base.elapsed, s.base.settings.lampProving⟩))
      ∧ (sensed = false → (f.heads.nth h).stray.nth l = none ∧ (f.heads.nth h).mark.nth l = false
        ∧ ((f.heads.nth h).prove.nth l = if (s.plant.heads.nth h).driven.nth l = true then
            some (((s.plant.heads.nth h).prove.nth l).getD ⟨s.base.elapsed, s.base.settings.lampProving⟩) else none)
        ∧ (l = .gn → (s.plant.heads.nth h).mark.gn = true → (f.heads.nth h).goEnd = s.base.elapsed))
      ∧ (f.heads.nth h).shown = (s.plant.heads.nth h).shown ∧ (f.heads.nth h).good = (s.plant.heads.nth h).good
      ∧ f.out = if (s.plant.heads.nth h).mark.nth l = true ∧ sensed = false then
          [reportNow s.base .alarm 0x08 (u1 h.val ++ u1 (lampCode l) ++ b1 true)] else [])
  ∧ (∀ (v : Base) (h : Fin 8) (fn : Head → Head) (f : Flow) (l : Lamp),
    let y := fn (f.heads.nth h)
    let x := (changeHead v h fn f).heads.nth h
    let current := (v.pins.lampCurrent.nth h).nth l
    x.shown = y.shown ∧ x.good = y.good
    ∧ (x.prove.nth l = if y.driven.nth l = true ∧ current = false then
        some ((y.prove.nth l).getD ⟨v.elapsed, v.settings.lampProving⟩) else none)
    ∧ (x.stray.nth l = if y.driven.nth l = false ∧ current = true then
        some ((y.stray.nth l).getD ⟨v.elapsed, v.settings.lampProving⟩) else none))
  ∧ (∀ x : Head,
    let reds : Prop := x.shown = .stop ∨ x.shown = .prepare
    (x.driven.ra = true ↔ (reds ∨ x.shown = .shut) ∧ x.good.ra = true)
    ∧ (x.driven.rb = true ↔ ((reds ∧ x.good.ra = false) ∨ x.shown = .shut) ∧ x.good.rb = true)
    ∧ (x.driven.gn = true ↔ (x.shown = .prepare ∨ x.shown = .go) ∧ x.good.gn = true))
  ∧ ∀ (h : Fin 8) (l : Lamp) (k : LampTimer) (s : State), s.powered = true →
    (s.plant.heads.nth h).mark.nth l = false → (s.plant.heads.nth h).stray.nth l = some k →
    k.since + k.limit ≤ s.base.elapsed →
    ∃ f, exec (.lampStray h l) s = .next (s.conclude f) ∧ OnlyHead h s.plant f.toPlant
      ∧ f.heads.nth h = { s.plant.heads.nth h with
          mark := (s.plant.heads.nth h).mark.put l true
          waved := if l = .gn ∧ (s.plant.heads.nth h).good.gn = true then false else (s.plant.heads.nth h).waved }
      ∧ f.out = [reportNow s.base .alarm 0x08 (u1 h.val ++ u1 (lampCode l) ++ b1 false)]

/-- Tier 2. LAMP_RESET makes the named lamps GOOD and no other, and shows the head's health; a pending green whose
conditions hold is applied when the margin runs out, and any other stands; a change of the aspect shown or the lamps driven
raises ASPECT. The conditions: for PREPARE the gate OPENING or OPEN and one red in health, for GO the gate OPEN; the GN in
health; and, unless GN is lit on the head already, no head of its conflict set, the other heads of its own gate and of the
adjacent ones, with GN lit or waved, and the margin run since the GO-end times of all of these (04/R68, R70, R71, R73, R76,
R77). That GN driven on a head of the conflict set bars a change the waiver covers (log 16), that the reply of LAMP_RESET
shows the lamps before the other blocks react (log 8), and the bits of that reply (log 14), are the model's. -/
def Obligations.LampResetAndMarginExpiry : Prop :=
  (∀ (rq : Rq) (h : Fin 8) (code : Nat) (ls : List Lamp) (s : State), Admitted s rq 0 → lamps? code = some ls →
    ∃ f, exec (.lampReset rq h.val code) s = .next ((s.conclude f).ok rq 0x2A
          (bits1 [(f.heads.nth h).good.ra, (f.heads.nth h).good.rb, (f.heads.nth h).good.gn]
            ++ bits1 [(f.heads.nth h).driven.ra, (f.heads.nth h).driven.rb, (f.heads.nth h).driven.gn]))
      ∧ OnlyHead h s.plant f.toPlant
      ∧ (∀ l, l ∈ ls → (f.heads.nth h).good.nth l = true)
      ∧ (∀ l, l ∉ ls → (f.heads.nth h).good.nth l = (s.plant.heads.nth h).good.nth l)
      ∧ (∀ r ∈ f.out, ∃ x : Head, r = aspectNow s.base h x ∧ x.good = (f.heads.nth h).good)
      ∧ (((f.heads.nth h).shown ≠ (s.plant.heads.nth h).shown ∨ (f.heads.nth h).driven ≠ (s.plant.heads.nth h).driven) →
        f.out ≠ []))
  ∧ (∀ (v : Base) (p : Plant) (h : Fin 8) (a : Aspect),
    let x := p.heads.nth h
    let gate := (p.gates.nth (gateOf h)).st
    let rival (k : Fin 8) : Prop :=
      k ≠ h ∧ (k.val / 2 = h.val / 2 ∨ k.val / 2 + 1 = h.val / 2 ∨ h.val / 2 + 1 = k.val / 2)
    let drives (k : Fin 8) : Prop :=
      ((p.heads.nth k).shown = .prepare ∨ (p.heads.nth k).shown = .go) ∧ (p.heads.nth k).good.gn = true
    let lit (k : Fin 8) : Prop := drives k ∨ (p.heads.nth k).mark.gn = true
    (greenReady v p h a = true ↔
      ((a = .prepare ∧ (gate = .opening ∨ gate = .opened) ∧ (x.good.ra = true ∨ x.good.rb = true))
        ∨ (a = .go ∧ gate = .opened))
      ∧ x.good.gn = true ∧ (∀ k, rival k → ¬ drives k)
      ∧ (lit h ∨ ((∀ k, rival k → ¬ lit k ∧ (p.heads.nth k).waved = false)
        ∧ ∀ k, (k = h ∨ rival k) → (p.heads.nth k).goEnd + v.settings.clearMargin ≤ v.elapsed))))
  ∧ (∀ (h : Fin 8) (s : State), s.powered = true →
    ((s.plant.heads.nth h).pending = false ∨ greenReady s.base s.plant h (s.plant.heads.nth h).staged = false) →
    exec (.clearanceMarginExpiry h) s = .next (s.conclude s.flow))
  ∧ ∀ (h : Fin 8) (s : State), s.powered = true → (s.plant.heads.nth h).pending = true →
    greenReady s.base s.plant h (s.plant.heads.nth h).staged = true →
    ∃ f, exec (.clearanceMarginExpiry h) s = .next (s.conclude f) ∧ OnlyHead h s.plant f.toPlant
      ∧ (f.heads.nth h).shown = (s.plant.heads.nth h).staged ∧ (f.heads.nth h).pending = false
      ∧ (f.heads.nth h).waved = false
      ∧ f.out = if (s.plant.heads.nth h).shown = (s.plant.heads.nth h).staged then []
        else [aspectNow s.base h (f.heads.nth h)]

/-- Tier 2. In MANUAL, HEAD_CMD gives the head to the keeper: a stopping aspect is shown at once, a green one, the GN in
health, waits for its conditions; a green aspect of a head whose GN is FAILED, and PREPARE of one whose reds are both
FAILED, is refused STATE; RELEASE gives a head of the keeper back at its rest aspect; a change of the aspect shown
raises ASPECT. A lamp that comes to be driven without current starts its proving timer, one that goes out with current its
stray timer. In AUTO both are refused STATE; a head above 7 and an aspect above 4 are BAD_FIELD (04/R67, R68, R71, R72, R73,
R78). That RELEASE replies with the same fields as an aspect is the model's choice (log 41). -/
def Obligations.KeeperStagesAndReleasesHeads : Prop :=
  (∀ (rq : Rq) (n code : Nat) (s : State), Admitted s rq 0 →
    (8 ≤ n → exec (.headCmdAspect rq n code) s = .next (s.no rq 0x29 .badField (u1 1))
      ∧ exec (.headCmdRelease rq n) s = .next (s.no rq 0x29 .badField (u1 1)))
    ∧ (n < 8 → 4 < code → exec (.headCmdAspect rq n code) s = .next (s.no rq 0x29 .badField (u1 2))))
  ∧ ∀ (rq : Rq) (h : Fin 8) (s : State), Admitted s rq 0 →
    let told (f : Flow) : Prop :=
      f.out = if (f.heads.nth h).shown = (s.plant.heads.nth h).shown then [] else [aspectNow s.base h (f.heads.nth h)]
    let timed (f : Flow) : Prop := ∀ l : Lamp,
      let x := s.plant.heads.nth h
      let y := f.heads.nth h
      let current := (s.base.pins.lampCurrent.nth h).nth l
      let fresh : LampTimer := ⟨s.base.elapsed, s.base.settings.lampProving⟩
      ((y.driven.nth l = false ∨ current = true) → y.prove.nth l = none)
      ∧ ((y.driven.nth l = true ∨ current = false) → y.stray.nth l = none)
      ∧ (x.driven.nth l = false → y.driven.nth l = true → x.prove.nth l = none → current = false →
        y.prove.nth l = some fresh)
      ∧ (x.driven.nth l = true → y.driven.nth l = false → x.stray.nth l = none → current = true →
        y.stray.nth l = some fresh)
    (∀ code a, aspect? code = some a →
      (s.plant.regime.mode = .auto → exec (.headCmdAspect rq h.val code) s = .next (s.no rq 0x29 .state []))
      ∧ (s.plant.regime.mode = .manual → a.stopping = true →
        ∃ f, exec (.headCmdAspect rq h.val code) s = .next ((s.conclude f).ok rq 0x29 (u1 a.code ++ b1 false))
          ∧ OnlyHead h s.plant f.toPlant ∧ (f.heads.nth h).holder = .keeper ∧ (f.heads.nth h).shown = a
          ∧ (f.heads.nth h).staged = a ∧ (f.heads.nth h).pending = false ∧ (f.heads.nth h).waved = false ∧ told f ∧ timed f)
      ∧ (s.plant.regime.mode = .manual → a.stopping = false → (s.plant.heads.nth h).good.gn = true →
        ¬ (a = .prepare ∧ (s.plant.heads.nth h).good.ra = false ∧ (s.plant.heads.nth h).good.rb = false) →
        ∃ f, exec (.headCmdAspect rq h.val code) s =
            .next ((s.conclude f).ok rq 0x29 (u1 (f.heads.nth h).shown.code ++ b1 (f.heads.nth h).pending))
          ∧ OnlyHead h s.plant f.toPlant ∧ (f.heads.nth h).holder = .keeper
          ∧ ((f.heads.nth h).pending = false → (f.heads.nth h).shown = a)
          ∧ ((f.heads.nth h).pending = true → (f.heads.nth h).shown = (s.plant.heads.nth h).shown
            ∧ (f.heads.nth h).staged = a) ∧ told f ∧ timed f)
      ∧ (a.stopping = false → (s.plant.heads.nth h).good.gn = false →
        exec (.headCmdAspect rq h.val code) s = .next (s.no rq 0x29 .state []))
      ∧ (a = .prepare → (s.plant.heads.nth h).good.ra = false → (s.plant.heads.nth h).good.rb = false →
        exec (.headCmdAspect rq h.val code) s = .next (s.no rq 0x29 .state [])))
    ∧ (s.plant.regime.mode = .manual → (s.plant.heads.nth h).holder = .keeper →
      ∃ f, exec (.headCmdRelease rq h.val) s =
          .next ((s.conclude f).ok rq 0x29 (u1 (restAspect s.plant.regime.condition h).code ++ b1 false))
        ∧ OnlyHead h s.plant f.toPlant ∧ (f.heads.nth h).holder = .none ∧ (f.heads.nth h).pending = false
        ∧ (f.heads.nth h).shown = restAspect s.plant.regime.condition h ∧ told f ∧ timed f)
    ∧ ((s.plant.regime.mode = .auto ∨ (s.plant.heads.nth h).holder ≠ .keeper) →
      exec (.headCmdRelease rq h.val) s = .next (s.no rq 0x29 .state []))

/-- Tier 3. Every step keeps the signals safe: no two heads of one conflict set have GN driven at once, GN is driven only
while the head's gate is OPENING or OPEN, and GO is shown only while it is OPEN (04/R69, R70). -/
def Obligations.StepKeepsSignalsSafe : Prop :=
  ∀ s t : State, SafeSignals s → step s = .next t → SafeSignals t

/-- Tier 2. The bounds of the lines, the safety of the signals and the ranges of the settings and the clock hold at reset,
and every step keeps the settings and the clock within their ranges (10/R178, 08/R141). -/
def Obligations.InvariantsHoldAtReset : Prop :=
  LinesBounded State.reset ∧ SafeSignals State.reset ∧ State.reset.base.clock.inRange ∧ SettingsInRange State.reset
    ∧ ∀ s t : State, step s = .next t →
      (SettingsInRange s → SettingsInRange t) ∧ (s.base.clock.inRange → t.base.clock.inRange)

/-! ## The supply -/

/-- Tier 2. POWER_ON of a part without power runs the start sequence: the clock unset from day 0, AUTO, STOOD_DOWN without
KEEPER or FLOOD, MAINS and the deadline as the input stands, the scheduler in IDLE_HOLD, no levelling; a good retained
image keeps the counters, the accounts, the books and the water-saving flag, a lost one empties them. In it, as in that of
WARM_START, a gate takes its state from its limits, in FAULT for the keeper when they do not tell; a sluice is STEADY at 0,
driven down from 1 to 4, or in FAULT; no grant stands; every head rests, its lamps GOOD; every batch is UNRESOLVED, frozen
and without flags; a passage that waits stays, or ends when the flight no longer fits it, and any other is UNRESOLVED;
FLIGHT_STATE comes last. POWER_LOSS leaves the part without power, its ports silent and empty, its drives off (02/R43,
04/R80, 05/R99, 06/R117, 07/R137, 09/R166, R167; 10/R169, R179). A sluice that starts in FAULT is commanded to 0, the
code of the cause and the order of the start reports are the model's (log 8, 14, 49); so are the defaults after a store in
progress (log 38), and the goodness of the retained image as an operand of POWER_ON (log 26). -/
def Obligations.PowerOnStartsAndPowerLossStops : Prop :=
  (∀ (kept : Bool) (s : State), s.powered = false → ∃ t, exec (.powerOn kept) s = .next t ∧ t.powered = true
    ∧ t.base.clock = ⟨0, 0, true⟩ ∧ t.base.pins = s.base.pins
    ∧ t.plant.regime.mode = .auto ∧ t.plant.regime.stoodDown = true ∧ t.plant.regime.keeper = false
    ∧ t.plant.regime.flood = false ∧ t.plant.regime.mainsCause = !s.base.pins.mains
    ∧ (t.plant.regime.deadline = .idle ↔ s.base.pins.mains = true)
    ∧ t.plant.sched.st = .idleHold ∧ (∀ g, t.plant.channels.nth g = Channel.idle)
    ∧ (kept = true → t.plant.nextPassage = s.plant.nextPassage ∧ t.plant.accounts = s.plant.accounts
      ∧ t.base.books = s.base.books ∧ t.base.elapsed = s.base.elapsed ∧ t.plant.sched.saving = s.plant.sched.saving
      ∧ t.plant.sched.draws = s.plant.sched.draws)
    ∧ (kept = false → t.plant.nextPassage = 1 ∧ t.plant.passages = [] ∧ t.plant.accounts = [] ∧ t.plant.batches = []
      ∧ t.base.books.log = [] ∧ t.base.books.hulls = [] ∧ t.plant.sched.saving = false ∧ t.plant.sched.draws = []
      ∧ t.link.retainedLost = true))
  ∧ (∀ (kept : Bool) (s : State), s.powered = false → exec (.powerOn kept) s = .next (s.start true kept))
  ∧ (∀ (cold kept : Bool) (s : State),
    let t := s.start cold kept
    let now := t.base.elapsed
    t.pending = s.pending ∧ t.powered = true ∧ t.base.scanner = Scanner.start ∧ t.base.pins = s.base.pins
    ∧ ((s.nv.good = true ∧ s.link.store = none) → t.base.settings = s.nv.settings ∧ t.link.settingsDefaulted = false)
    ∧ ((s.nv.good = false ∨ s.link.store.isSome = true) →
      t.base.settings = Settings.default ∧ t.link.settingsDefaulted = true)
    ∧ (∀ g : Fin 4,
      let x := t.plant.gates.nth g
      let sh := s.base.pins.shutLimit.nth g
      let op := s.base.pins.openLimit.nth g
      x.travel = none ∧ x.obstructions = 0 ∧ x.ask = none ∧ x.hold = false ∧ x.lastShut = now
      ∧ (sh = true → op = false → x.st = .shut ∧ x.owner = .none ∧ x.cause = none)
      ∧ (sh = false → op = true → x.st = .opened ∧ x.owner = .none ∧ x.cause = none)
      ∧ (sh = op → x.st = .fault ∧ x.owner = .keeper ∧ x.cause = some (if sh then .limitBoth else .limitLost)))
    ∧ (∀ g : Fin 4,
      let code := (s.base.pins.sluicePos.nth g).val
      (code = 0 → t.plant.sluices.nth g = ⟨.steady, 0, 0, none⟩)
      ∧ (1 ≤ code → code ≤ 4 → t.plant.sluices.nth g = ⟨.moving, code, 0, some now⟩)
      ∧ (4 < code → (t.plant.sluices.nth g).st = .fault ∧ (t.plant.sluices.nth g).cmd = 0
        ∧ (cold = false → (t.plant.sluices.nth g).pos = (s.plant.sluices.nth g).pos)))
    ∧ (∀ g : Fin 4, t.plant.grants.nth g = false ∧ t.plant.channels.nth g = Channel.idle
      ∧ t.plant.errands.nth g = none) ∧ t.plant.waiting = []
    ∧ (∀ h : Fin 8,
      let x := t.plant.heads.nth h
      x.shown = restAspect .stoodDown h ∧ x.staged = x.shown ∧ x.pending = false ∧ x.holder = .none ∧ x.waved = false
      ∧ x.goEnd = now ∧ x.good = ⟨true, true, true⟩ ∧ x.mark = ⟨false, false, false⟩)
    ∧ t.plant.sched.st = .idleHold ∧ t.plant.sched.prep = .absent ∧ t.plant.sched.permit = none
    ∧ t.plant.sched.idle = .stopped ∧ t.plant.sched.short = false
    ∧ t.plant.sched.dir = (if kept then s.plant.sched.dir else t.base.settings.restDir)
    ∧ t.plant.regime.mode = .auto ∧ t.plant.regime.stoodDown = true ∧ t.plant.regime.left = []
    ∧ t.plant.regime.progress = none
    ∧ (kept = true →
      t.plant.batches = s.plant.batches.map fun b => { b with
        members := b.members.map fun m => { m with flag := false }, step := .unresolved, heldStep := none,
        causes := HeldCauses.none, stepStart := now, berth := ⟨0, none⟩, overdue := none, waved := false, frozen := true,
        own := none })
    ∧ (kept = true → ∀ n x, s.plant.passage? n = some x →
      let set := t.base.settings
      let unfit : Prop := x.st.waits = true ∧ (set.flightLength < x.length ∨ min set.maxBeam set.flightWidth < x.beam)
      (unfit → t.plant.passage? n = none)
      ∧ (¬ unfit → t.plant.passage? n = some { x with
          bypass := min x.bypass set.bypassLimit, st := if x.st.waits then x.st else .unresolved }))
    ∧ ∃ rs, t.link = Link.placeAll
      { console := PortRec.start t.base.settings.consoleRate 0b11111#5
        network := PortRec.start t.base.settings.networkRate 0b00010#5
        store := none, restartDue := false, settingsDefaulted := t.link.settingsDefaulted
        retainedLost := !kept || s.link.retainedLost }
      (rs ++ [flightNow t.base t.plant.regime .start]))
  ∧ ∀ s : State, s.powered = true → ∃ t, exec .powerLoss s = .next t ∧ t.powered = false ∧ t.base = s.base
    ∧ t.plant = s.plant
      ∧ (∀ p, (t.link.port p).buffer = [] ∧ (t.link.port p).replies = [] ∧ (t.link.port p).reports = []
        ∧ (t.link.port p).sending = none)
      ∧ (∀ g : Fin 4, t.drives.gateOpen.nth g = false ∧ t.drives.gateClose.nth g = false
        ∧ t.drives.sluiceRaise.nth g = false ∧ t.drives.sluiceLower.nth g = false)
      ∧ ∀ (h : Fin 8) (l : Lamp), (t.drives.lamp.nth h).nth l = false

/-! ## The passage queue -/

/-- Tier 2. A PASS_REQUEST with a field out of range is refused BAD_FIELD with the position of the first such field, and
one that claims priority at the effective level 2 is refused DENIED; neither changes anything else. One whose fields are
in range is refused in the order of the table: a full list, an open passage of the same mark, a barge too wide or too
long, an account that is not there or is BLOCKED. Otherwise the passage joins the tail, WAITING, with the counter's
number; the counter advances past the numbers in use; the hull heads the hull table, with its count and last passage
where it was in it, else with none, and the others stand in their order, but for the last one without an open passage,
which leaves a full table with HULL_EVICTED; the reply carries the number, the place and the quote; DECLARATION_CHANGED
for a hull declared otherwise, then PASSAGE_STATE, are raised (05/R83 to R86, R91; 08/R145; 11/R181, R182). The layout
of DECLARATION_CHANGED is the model's (log 14). -/
def Obligations.PassRequestJoinsTheQueue : Prop :=
  -- the fields of a request, in the order of its layout, and what each is out of range for
  let bad (d : Declaration) (k : Nat) : Prop :=
    (k = 1 ∧ ¬ (d.mark.length = 8 ∧ ∀ c ∈ d.mark,
      (65 ≤ c.toNat ∧ c.toNat ≤ 90) ∨ (48 ≤ c.toNat ∧ c.toNat ≤ 57)))
    ∨ (k = 2 ∧ 1 < d.direction) ∨ (k = 3 ∧ ¬ (100 ≤ d.length ∧ d.length ≤ 1500))
    ∨ (k = 4 ∧ ¬ (30 ≤ d.beam ∧ d.beam ≤ 200)) ∨ (k = 5 ∧ ¬ (500 ≤ d.draught ∧ d.draught ≤ 4000))
    ∨ (k = 6 ∧ 4000 < d.tonnes) ∨ (k = 7 ∧ 7 < d.cls) ∨ (k = 8 ∧ 64 < d.payment) ∨ (k = 9 ∧ 1 < d.priority)
  (∀ (rq : Rq) (d : Declaration) (s : State), Admitted s rq 2 →
    (∀ k, bad d k → (∀ j, j < k → ¬ bad d j) → exec (.passRequest rq d) s = .next (s.no rq 0x30 .badField (u1 k)))
    ∧ ((∀ k, ¬ bad d k) → d.priority = 1 → effectiveLevel s rq = 2 →
      exec (.passRequest rq d) s = .next (s.no rq 0x30 .denied [])))
  ∧ ∀ (rq : Rq) (d : Declaration) (dir : Dir) (cls : Fin 8) (pay : Option Nat) (s : State), Admitted s rq 2 →
    (∀ k, ¬ bad d k) → dir? d.direction = some dir → unit? 8 d.cls = some cls → payment? d.payment = some pay →
    ¬ (d.priority = 1 ∧ effectiveLevel s rq = 2) →
    let n := s.plant.passages.length
    let dup : Prop := ∃ x ∈ s.plant.passages, x.mark = d.mark
    let set := s.base.settings
    let fits : Prop := d.beam ≤ set.maxBeam ∧ d.beam ≤ set.flightWidth ∧ d.length ≤ set.flightLength
    (32 ≤ n → exec (.passRequest rq d) s = .next (s.no rq 0x30 .full []))
    ∧ (n < 32 → dup → exec (.passRequest rq d) s = .next (s.no rq 0x30 .duplicate []))
    ∧ (n < 32 → ¬ dup → ¬ fits → ∃ k, exec (.passRequest rq d) s = .next (s.no rq 0x30 .badField (u1 k)))
    ∧ (n < 32 → ¬ dup → fits → ∀ id, pay = some id → s.plant.account? id = none →
      exec (.passRequest rq d) s = .next (s.no rq 0x30 .notFound []))
    ∧ (n < 32 → ¬ dup → fits → ∀ id a, pay = some id → s.plant.account? id = some a → a.blocked = true →
      exec (.passRequest rq d) s = .next (s.no rq 0x30 .state []))
    ∧ (n < 32 → ¬ dup → fits → (∀ id, pay = some id → ∃ a, s.plant.account? id = some a ∧ a.blocked = false) →
      let p := passageFrom d s.plant.nextPassage s.base.clock rq.port dir cls pay
      ∃ f hulls, let t := s.withBooks { s.base.books with hulls := hulls }
        exec (.passRequest rq d) s =
          .next ((t.conclude f).ok rq 0x30 (u4 p.number ++ u1 (n + 1) ++ u4 (quote t.base s.plant p).1))
        ∧ f.toPlant = { s.plant with passages := s.plant.passages ++ [p], nextPassage := f.nextPassage } ∧ f.opp = true
        ∧ (let next (k : Nat) : Nat := if k = 4294967295 then 1 else k + 1
          let numbers := (s.plant.passages ++ [p]).map (·.number)
          ∃ k, k ≤ 32 ∧ f.nextPassage = next^[k + 1] p.number ∧ f.nextPassage ∉ numbers
            ∧ ∀ j, j < k → next^[j + 1] p.number ∈ numbers)
        ∧ (let hs := s.base.books.hulls
          let fresh (k : Nat) (l : Option Clock) : Hull := ⟨d.mark, d.length, d.beam, d.draught, cls, pay, k, l⟩
          let changed (h : Hull) : List Byte :=
            (if h.length = d.length then [] else u1 0 ++ u2 h.length ++ u2 d.length)
            ++ (if h.beam = d.beam then [] else u1 1 ++ u1 h.beam ++ u1 d.beam)
            ++ (if h.draught = d.draught then [] else u1 2 ++ u2 h.draught ++ u2 d.draught)
            ++ (if h.cls = cls then [] else u1 3 ++ u1 h.cls.val ++ u1 cls.val)
          let told (before : List Report) : Prop := (∀ x ∈ s.plant.passages, x.number ≠ p.number) →
            f.out = before ++ [passageNow s.base p 0x20 (u1 0xFF ++ u1 0 ++ u1 (n + 1) ++ u1 0 ++ u1 0 ++ u1 7)]
          let known (h : Hull) : Prop := hs.find? (fun h => h.mark == d.mark) = some h
          let unknown : Prop := ∀ h ∈ hs, h.mark ≠ d.mark
          (∀ h, known h → hulls = fresh h.passages h.last :: hs.filter (fun x => x.mark != d.mark)
            ∧ told (if changed h = [] then []
              else [⟨.passage, u1 0x26 ++ stampBytes s.base.clock ++ h.mark ++ changed h, some rq.port⟩]))
          ∧ (unknown → hs.length < 128 → hulls = fresh 0 none :: hs ∧ told [])
          ∧ ∀ a e b, unknown → 128 ≤ hs.length → hs = a ++ e :: b → (∀ x ∈ s.plant.passages, x.mark ≠ e.mark) →
            (∀ y ∈ b, ∃ x ∈ s.plant.passages, x.mark = y.mark) →
            hulls = fresh 0 none :: hs.filter (fun x => x.mark != e.mark)
            ∧ told [reportNow s.base .account 0x71 (e.mark ++ u2 e.passages)]))

/-- Tier 2. PASS_WITHDRAW of a passage that waits, is held or is CALLED ends it, releases what it had reserved, takes it out
of its batch, which ends when it was the last member, and raises PASSAGE_ENDED; it is refused NOT_FOUND for no open
passage, DENIED to the public for another port's, and STATE otherwise (05/R94, R95). -/
def Obligations.PassWithdrawEndsThePassage : Prop :=
  ∀ (rq : Rq) (n : Nat) (s : State), Admitted s rq 2 →
    (s.plant.passage? n = none → exec (.passWithdraw rq n) s = .next (s.no rq 0x31 .notFound []))
    ∧ ∀ x, s.plant.passage? n = some x →
      (effectiveLevel s rq = 2 → x.origin ≠ rq.port → exec (.passWithdraw rq n) s = .next (s.no rq 0x31 .denied []))
      ∧ ((effectiveLevel s rq ≠ 2 ∨ x.origin = rq.port) → x.st.waits = false → x.st ≠ .called →
        exec (.passWithdraw rq n) s = .next (s.no rq 0x31 .state []))
      ∧ ((effectiveLevel s rq ≠ 2 ∨ x.origin = rq.port) → (x.st.waits = true ∨ x.st = .called) →
        ∃ f, exec (.passWithdraw rq n) s = .next ((s.conclude f).ok rq 0x31 (u4 n ++ u1 x.st.code))
          ∧ PassageGone n s.plant f.toPlant ∧ f.accounts = (releaseReserve x s.flow).accounts
          ∧ LeavesBatch n x s.plant f.toPlant ∧ f.opp = true
          ∧ f.out.head? = some (endedNow s.base x .withdrawn 0)
          ∧ (x.batch = none → f.out = [endedNow s.base x .withdrawn 0])
          ∧ (x.batch = none → f.gates = s.plant.gates ∧ f.heads = s.plant.heads ∧ f.channels = s.plant.channels
            ∧ f.batches = s.plant.batches))

/-! ## The scheduler -/

/-- Tier 2. The idle hold that has run expires; a failed preparation whose interval has run is asked again for a turn, and
an opportunity is examined after an entry; a draw that leaves the window gives a permit no longer deferred, with a new
draw and DRAW_STARTED, another cause of its deferral raises DRAW_DEFERRED; old draws leave the list; REGIME sets the
water-saving flag, with SAVING_STATE (06/R105, R108, R110, R112, R113, R114, R115). Which of the two a failed preparation
leads to after an ENTRY is the model's choice (log 20). -/
def Obligations.SchedulerTimersAndRegimeOrder : Prop :=
  (∀ (k : Nat) (s : State), s.powered = true → s.plant.sched.idle = .running k →
    (k + 10 * s.base.settings.idleHold ≤ s.base.elapsed →
      ∃ f, exec .idleHoldExpiry s = .next (s.conclude f) ∧ f.opp = true
        ∧ f.toPlant = { s.plant with sched := { s.plant.sched with idle := .expired } } ∧ f.out = [])
    ∧ (s.base.elapsed < k + 10 * s.base.settings.idleHold → exec .idleHoldExpiry s = .next s))
  ∧ (∀ (g : Fin 4) (isTurn : Bool) (k : Nat) (s : State), s.powered = true →
    s.plant.sched.prep = .failed g isTurn k →
    (s.base.elapsed < k + 1200 → exec .preparationRetryExpiry s = .next s)
    ∧ (k + 1200 ≤ s.base.elapsed → isTurn = false →
      ∃ f, exec .preparationRetryExpiry s = .next (s.conclude f) ∧ f.opp = true ∧ f.toPlant = s.plant)
    ∧ (k + 1200 ≤ s.base.elapsed → isTurn = true → s.plant.sched.st = .turning →
      (s.plant.channels.nth s.plant.sched.dir.entryGate).st ≠ .level →
      ∃ f b, exec .preparationRetryExpiry s = .next (s.conclude f) ∧ OnlyWater s.plant f.toPlant
        ∧ f.sched.prep = .asked s.plant.sched.dir.entryGate true b))
  ∧ (∀ (r : PermitRequest) (s : State), s.powered = true → s.plant.sched.permit = some r →
    permitDeferral s.base s.plant.sched = none →
    ∃ f, exec .drawLeavesWindow s = .next (s.conclude f) ∧ OnlyWater s.plant f.toPlant ∧ f.sched.permit = none
      ∧ f.sched.draws = addDraw ⟨s.base.elapsed, r.purpose⟩ s.plant.sched.draws
      ∧ (f.channels.nth 3).permit = .given
      ∧ ((f.channels.nth 3).st = .running ∨ (f.channels.nth 3).st = .suspended)
      ∧ f.out.head? = some (reportNow s.base .water 0x4D
        (u1 r.purpose.code ++ u1 (countingDraws s.base f.sched.draws).length)))
  ∧ (∀ (s : State), s.powered = true → ∃ f, exec .drawLeavesWindow s = .next (s.conclude f)
    ∧ (s.plant.sched.permit = none → f.toPlant = s.plant ∧ f.out = [])
    ∧ ∀ r d, s.plant.sched.permit = some r → permitDeferral s.base s.plant.sched = some d →
      f.toPlant = { s.plant with sched := { s.plant.sched with permit := some { r with cause := d } } }
      ∧ (d = r.cause → f.out = [])
      ∧ (d ≠ r.cause → d = .upstreamLow → f.out = [reportNow s.base .water 0x4E (u1 d.code)])
      ∧ ∀ e rest, d ≠ r.cause → d = .window → countingDraws s.base s.plant.sched.draws = e :: rest →
        f.out = [reportNow s.base .water 0x4E
          (u1 d.code ++ u4 (secondsLeft s.base.elapsed (e.start + 10 * s.base.settings.drawWindow)))])
  ∧ (∀ (v : Base) (x : Scheduler),
    ((v.scanner.bodies.nth 4).low = true → permitDeferral v x = some .upstreamLow)
    ∧ ((v.scanner.bodies.nth 4).low = false →
      permitDeferral v x = if x.saving = true ∧ v.settings.drawCount ≤
          (x.draws.filter fun d => decide (v.elapsed - d.start < 10 * v.settings.drawWindow)).length
        then some .window else none))
  ∧ (∀ s : State, s.powered = true → ∃ f, exec .drawEntryExpiry s = .next (s.deliver f)
    ∧ f.toPlant = { s.plant with sched := { s.plant.sched with
        draws := s.plant.sched.draws.filter fun d => decide (s.base.elapsed - d.start < 864000) } })
  ∧ ∀ (rq : Rq) (x : Nat) (s : State), Admitted s rq 1 →
    (1 < x → exec (.regime rq x) s = .next (s.no rq 0x39 .badField (u1 1)))
    ∧ (x ≤ 1 → ∃ f, exec (.regime rq x) s = .next ((s.conclude f).ok rq 0x39 (u1 x)) ∧ OnlyWater s.plant f.toPlant
      ∧ f.sched.saving = decide (x = 1) ∧ f.sched.dir = s.plant.sched.dir ∧ f.sched.st = s.plant.sched.st
      ∧ (s.plant.sched.saving = decide (x = 1) → f.toPlant = s.plant ∧ f.out = [])
      ∧ (s.plant.sched.saving ≠ decide (x = 1) →
        f.out.head? = some (reportNow s.base .water 0x4C (b1 (decide (x = 1))))))

/-- Tier 2. An opportunity is open while the flight is RUNNING in AUTO, the Scheduler in SERVING or IDLE_HOLD, the entry
chamber empty, no levelling for entry short of LEVEL and no retry awaited; without log room it sets the short mark, with
LOG_FULL, and with room for one member again the mark is cleared, with LOG_FULL; otherwise the formation check is made
of every waiting passage in arrival order, O is the first of priority, or the first, and the direction is decided:
SERVING prepares for O its own way, drains for it the other way when it has priority, has been bypassed to the limit, or
has no one of the present direction before it, and otherwise passes it over; an empty flight without an eligible passage
goes to IDLE_HOLD. The entry gate is levelled, or a batch is packed of at most 4 members, 20 dm apart, each with its
quote reserved, and created, its members CALLED. DRAINING cancels the entry levelling and, the flight empty, turns: the
direction changes and a TURN levelling is asked. A failed preparation is cancelled and recorded (05/R87 to R90; 06/R100
to R110; 07/R119, R128). These are the model's: that of two causes the first of priority, bypass limit and oldest
waiting the other way is sent, what becomes of the refusal cause, and that a TURN levelling which fails after TURNING
was left is cancelled and recorded like any other (log 48, all three); that TURNING passes to SERVING at LEVEL in every
mode and flight condition, where 06/R111 keeps the scheduler state (log 58); the codes of the causes (log 14, 19, and 75
of a return to WAITING); the held step and causes in BATCH_STEP of a batch not HELD (log 14); and a retry judged by
the elapsed count (log 20). -/
def Obligations.OpportunitiesFormBatches : Prop :=
  (∀ (v : Base) (p : Plant),
    let c := p.channels.nth p.sched.dir.entryGate
    (opportunityOpen v p = true ↔ p.regime.condition = .running ∧ p.regime.mode = .auto
      ∧ (p.sched.st = .serving ∨ p.sched.st = .idleHold) ∧ p.occupants p.sched.dir.entryChamber = []
      ∧ ¬ ((c.req = some .entry ∨ c.req = some .turn) ∧ c.st ≠ .level)
      ∧ ∀ g isTurn t, p.sched.prep = .failed g isTurn t → t + 1200 ≤ v.elapsed)
    ∧ ∀ n, (logRoom v p n = true ↔ v.books.log.length + p.memberCount + n ≤ 256))
  ∧ (∀ (v : Base) (f : Flow),
    (opportunityOpen v f.toPlant = false → takeOpportunity v f = f)
    ∧ (opportunityOpen v f.toPlant = true → logRoom v f.toPlant 1 = false →
      (f.sched.short = true → takeOpportunity v f = f)
      ∧ (f.sched.short = false → (takeOpportunity v f).toPlant = { f.toPlant with sched := { f.sched with short := true } }
        ∧ (takeOpportunity v f).out = f.out ++ [reportNow v .alarm 0x09
          (u2 v.books.log.length ++ u1 f.toPlant.memberCount ++ b1 false)]))
    ∧ (opportunityOpen v f.toPlant = true → logRoom v f.toPlant 1 = true →
      let c := formationCheck v f
      let ps := c.passages.filter fun x => x.st == .waiting
      ∃ k, takeOpportunity v f = (if c.sched.st = .serving then decideServing v ps k else decideIdle v ps k)
        ∧ k.out = c.out
        ∧ k.toPlant = { c.toPlant with sched := { c.sched with
            oldest := (oldestOf ps).map (·.number)
            prep := match c.sched.prep with | .failed _ _ _ => .absent | y => y } }))
  ∧ (∀ (v : Base) (f : Flow),
    let room : Prop := v.books.log.length + f.toPlant.memberCount + 1 ≤ 256
    ((f.sched.short = false ∨ ¬ room) → followLogRoom v f = f)
    ∧ (f.sched.short = true → room →
      (followLogRoom v f).toPlant = { f.toPlant with sched := { f.sched with short := false } }
      ∧ (followLogRoom v f).out = f.out ++ [reportNow v .alarm 0x09
        (u2 v.books.log.length ++ u1 f.toPlant.memberCount ++ b1 true)]))
  ∧ (∀ (v : Base) (a b : Int), (v.scanner.bodies.nth 0).level = some a → (v.scanner.bodies.nth 4).level = some b →
    let usable : Prop := (v.scanner.bodies.nth 0).status.usable = true ∧ (v.scanner.bodies.nth 4).status.usable = true
    (usable → depthAvailable v =
      some (min (a - v.settings.sill0) (min (b - v.settings.sill3) v.settings.minInnerDepth)))
    ∧ (¬ usable → depthAvailable v = none))
  ∧ (∀ (v : Base) (f : Flow), formationCheck v f = overAll (f.passages.map (·.number)) (checkPassage v) f)
  ∧ (∀ (v : Base) (n : Nat) (x : Passage) (f : Flow), f.toPlant.passage? n = some x →
    let deep : Prop := ∃ d, depthAvailable v = some d ∧ (x.draught : Int) + v.settings.keelMargin ≤ d
    let pays : Prop := ∀ id, x.payment = some id → ∃ a, f.toPlant.account? id = some a ∧ a.blocked = false
      ∧ -a.limit ≤ a.balance - a.reserved - (quote v f.toPlant x).1
    let k := checkPassage v n f
    let becomes (st : PassSt) (cause : Nat) : Prop := k.toPlant.passage? n = some { x with st := st }
      ∧ (∀ m, m ≠ n → k.toPlant.passage? m = f.toPlant.passage? m) ∧ k.toPlant = { f.toPlant with passages := k.passages }
      ∧ k.out = f.out ++ if st = x.st then [] else [passageNow v x 0x20 (u1 x.st.code ++ u1 st.code
        ++ u1 (queuePosition f.passages n) ++ opt1 x.batch ++ opt1 x.chamber ++ u1 cause)]
    (x.st.waits = false → k = f)
    ∧ (x.st.waits = true → (¬ deep → becomes .heldDepth 1) ∧ (deep → ¬ pays → becomes .heldAccount 2)
      ∧ (deep → pays → becomes .waiting 0)))
  ∧ (∀ ps : List Passage,
    (∀ a x b, ps = a ++ x :: b → (∀ y ∈ a, y.priority = false) → x.priority = true → oldestOf ps = some x)
    ∧ ((∀ y ∈ ps, y.priority = false) → oldestOf ps = ps.head?))
  ∧ (∀ (v : Base) (ps : List Passage) (f : Flow),
    let d := f.sched.dir
    let mine : Prop := ∃ p ∈ ps, p.dir = d
    (ps = [] → decideServing v ps f =
      if f.batches = [] then followIdle v (schedTo v .idleHold .noEligible f) else f)
    ∧ (∀ o, oldestOf ps = some o →
      (o.dir = d → decideServing v ps f = prepareEntry v ps none f)
      ∧ (o.dir ≠ d → o.priority = true → decideServing v ps f = drain v .priority f)
      ∧ (o.dir ≠ d → o.priority = false → v.settings.bypassLimit ≤ o.bypass →
        decideServing v ps f = drain v .bypassLimit f)
      ∧ (o.dir ≠ d → o.priority = false → o.bypass < v.settings.bypassLimit → mine →
        decideServing v ps f = prepareEntry v ps (some o) f)
      ∧ (o.dir ≠ d → o.priority = false → o.bypass < v.settings.bypassLimit → ¬ mine →
        decideServing v ps f = drain v .otherWay f))
    ∧ (mine → decideIdle v ps f = prepareEntry v ps none (schedTo v .serving .unnamed f))
    ∧ (¬ mine → f.sched.idle = .expired → (ps ≠ [] ∨ d ≠ v.settings.restDir) →
      decideIdle v ps f = drain v .holdExpired f)
    ∧ (¬ mine → (f.sched.idle ≠ .expired ∨ (ps = [] ∧ d = v.settings.restDir)) → decideIdle v ps f = f))
  ∧ (∀ (v : Base) (st : SchedSt) (c : SchedCause) (f : Flow),
    (schedTo v st c f).toPlant = { f.toPlant with sched := { f.sched with st := st, idle := .stopped } }
    ∧ (schedTo v st c f).out = f.out ++ [reportNow v .passage 0x22
      (u1 f.sched.st.code ++ u1 st.code ++ u1 f.sched.dir.code ++ u1 c.code)])
  ∧ (∀ (v : Base) (c : SchedCause) (f : Flow),
    let g := f.sched.dir.entryGate
    let x := f.channels.nth g
    let k := drain v c f
    let ours : Prop := x.st ≠ .idle ∧ (x.req = some .entry ∨ x.req = some .turn)
    k.sched.st = .draining ∧ k.sched.prep = .absent ∧ k.sched.dir = f.sched.dir ∧ k.sched.idle = .stopped
    ∧ (ours → k.channels.nth g = Channel.idle ∧ k.grants.nth g = false) ∧ (¬ ours → k.channels.nth g = x)
    ∧ k.gates = f.gates ∧ k.passages = f.passages ∧ k.batches = f.batches
    ∧ k.out.getLast? = some (reportNow v .passage 0x22
      (u1 f.sched.st.code ++ u1 1 ++ u1 f.sched.dir.code ++ u1 c.code)))
  ∧ (∀ (v : Base) (ps : List Passage) (o : Option Passage) (f : Flow),
    let g := f.sched.dir.entryGate
    let c := f.channels.nth g
    let k := prepareEntry v ps o f
    (c.st = .level → k = formBatch v ps o f)
    ∧ (c.st ≠ .level → c.st ≠ .idle → k = f)
    ∧ (c.st = .idle → f.regime.mode = .auto → f.regime.condition ≠ .stoodDown →
      ((f.gates.nth g).st = .shut → levelsUsable v g (some .entry) = true → k.sched.prep = .asked g false true
        ∧ k.sched.refusal = none ∧ (k.channels.nth g).req = some .entry ∧ (k.channels.nth g).st ≠ .idle)
      ∧ (((f.gates.nth g).st ≠ .shut ∨ levelsUsable v g (some .entry) = false) →
        k.toPlant = { f.toPlant with sched := { f.sched with prep := .absent, refusal := some .state } })))
  ∧ (∀ (v : Base) (x : Passage) (m : Packing) (f : Flow),
    let len := if m.members = [] then x.length else m.length + 20 + x.length
    let stops : Prop := 4 ≤ m.members.length ∨ v.settings.flightLength < len
      ∨ logRoom v f.toPlant (m.members.length + 1) = false
    let q := (quote v f.toPlant x).1
    (stops → packOne v x (m, f) = (m, f))
    ∧ (¬ stops → accountPasses v f.toPlant x = false → packOne v x (m, f) =
      (m, changePassage v x.number .account (fun p => { p with st := .heldAccount }) f))
    ∧ (¬ stops → accountPasses v f.toPlant x = true → packOne v x (m, f) =
      (⟨m.members ++ [(x.number, q)], len⟩, reserve x.payment q f)))
  ∧ (∀ (v : Base) (ps : List Passage) (f : Flow),
    let mine := ps.filter fun p => p.dir == f.sched.dir
    pack v ps f = (mine.filter (fun p => p.priority) ++ mine.filter fun p => !p.priority).foldl
      (fun k p => packOne v p k) (⟨[], 0⟩, f)
    ∧ ∀ o, formBatch v ps o f = (let k := pack v ps f
      if k.1.members = [] then k.2 else countBypass v o (createBatch v k.2.sched.dir k.1.members k.2)))
  ∧ (∀ (v : Base) (x : Passage) (f : Flow), countBypass v none f = f
    ∧ (∀ y, f.toPlant.passage? x.number = some y →
      (countBypass v (some x) f).toPlant.passage? x.number = some { y with bypass := y.bypass + 1 })
    ∧ (countBypass v (some x) f).out =
      f.out ++ [passageNow v x 0x23 (u1 (x.bypass + 1) ++ u1 v.settings.bypassLimit)])
  ∧ (∀ (v : Base) (d : Dir) (ms : List (Nat × Nat)) (f : Flow),
    let id := f.nextBatch
    let n := if id = 255 then 1 else id + 1
    let k := createBatch v d ms f
    let lost := (f.heads.nth (d.headAt d.entryGate)).lostRed
    (∀ b ∈ f.batches, b.id ≠ id) →
    (∃ b, k.toPlant.batch? id = some b ∧ b.dir = d ∧ b.members = ms.map (fun m => ⟨m.1, false⟩)
      ∧ b.chamber = some d.entryChamber ∧ b.target = none ∧ b.own = none ∧ b.stepStart = v.elapsed
      ∧ (lost = false → b.step = .entering ∧ b.berth = ⟨0, some v.elapsed⟩
        ∧ k.out.getLast? = some (batchNow v k.toPlant b))
      ∧ (lost = true → b.step = .held ∧ b.heldStep = some .entering
        ∧ b.causes = { HeldCauses.none with stopSignal := true } ∧ k.out.getLast? = some (heldNow v b)))
    ∧ (∀ i, i ≠ id → k.toPlant.batch? i = f.toPlant.batch? i)
    ∧ (∀ i x, f.toPlant.passage? i = some x →
      ((∀ m ∈ ms, m.1 ≠ i) → k.toPlant.passage? i = some x)
      ∧ ((∃ m ∈ ms, m.1 = i) → ∃ q, (i, q) ∈ ms ∧ k.toPlant.passage? i = some { x with
          st := .called, batch := some id, chamber := some d.entryChamber, committed := some (.quote, q) }))
    ∧ ((∀ b ∈ f.batches, b.id ≠ n) → (∀ g : Fin 4, f.errands.nth g ≠ some n) → k.nextBatch = n)
    ∧ k.accounts = f.accounts ∧ k.regime = f.regime)
  ∧ (∀ (v : Base) (f : Flow),
    let g := f.sched.dir.flip.entryGate
    let ready : Prop := f.sched.st = .draining ∧ f.batches = [] ∧ f.regime.condition = .running ∧ f.regime.mode = .auto
    (¬ ready → turn v f = f)
    ∧ (ready → (turn v f).sched.dir = f.sched.dir.flip
      ∧ ((f.channels.nth g).st = .level → (turn v f).sched.st = .serving ∧ (turn v f).sched.prep = .absent)
      ∧ ((f.channels.nth g).st ≠ .level → (turn v f).sched.st = .turning
        ∧ ∃ taken, (turn v f).sched.prep = .asked g true taken
          ∧ (taken = true → ((turn v f).channels.nth g).req = some .turn))))
  ∧ (∀ (v : Base) (f : Flow),
    let g := f.sched.dir.entryGate
    let c := f.channels.nth g
    let ours : Prop := c.req = some .turn ∨ (c.req = some .entry ∧ ∀ b ∈ f.batches, b.own ≠ some (g, .entry))
    (c.st = .failed → ours → ((followPrep v f).channels.nth g) = Channel.idle
      ∧ (followPrep v f).sched.prep = .failed g (c.req == some .turn) v.elapsed)
    ∧ (∀ isTurn, c.st = .level → c.req = some (if isTurn then .turn else .entry) →
      f.sched.prep = .asked g isTurn true → (followPrep v f).sched.prep = .absent ∧ (followPrep v f).opp = true
        ∧ (isTurn = true → (followPrep v f).sched.st = .serving)))

/-! ## Lockage progress -/

/-- Tier 2. BERTHED of a CALLED member in ENTERING berths it and fixes its fee, the reservation moved by the fee less the
quote; of a SHIFTING member it berths it; in any other state it is refused STATE. MISSED of a CALLED member in ENTERING,
and ENTRY_BERTH_EXPIRY of every member not yet berthed, miss it: a first miss returns it to WAITING outside any batch, a
second ends it, and either releases its reservation and takes it out of its batch. The expiry has this effect in ENTERING,
not frozen, in AUTO, with the berth limit run, and none otherwise. PASSAGE_STATE and, with a fee fixed,
FEE_FIXED are raised (05/R91, R92, R93; 07/R122, R126; 08/R144). PASSAGE_STATE has the layout of 11/R183 (log 51);
that it comes before FEE_FIXED, and that members are missed at one expiry in list order, are the model's choice (log 8). -/
def Obligations.BerthedAndMissedMoveAMember : Prop :=
  (∀ (rq : Rq) (n : Nat) (x : Passage) (s : State), Admitted s rq 0 → s.plant.passage? n = some x →
    let q := quote s.base s.plant x
    let entering : Prop := ∃ id b, x.batch = some id ∧ s.plant.batch? id = some b
      ∧ (b.step = .entering ∨ (b.step = .held ∧ b.heldStep = some .entering))
    let moved (old new : PassSt) : Report := passageNow s.base x 0x20 (u1 old.code ++ u1 new.code
      ++ u1 (queuePosition s.plant.passages n) ++ opt1 x.batch ++ opt1 x.chamber ++ u1 6)
    (x.st = .called → entering →
      ∃ f, exec (.berthed rq n) s = .next ((s.conclude f).ok rq 0x41 (u1 PassSt.berthed.code ++ u4 q.1))
        ∧ OnlyMembers s.plant f.toPlant
        ∧ f.toPlant.passage? n = some { x with
            st := .berthed, berthedAt := some s.base.clock, committed := some (.fee, q.1), basis := some q.2 }
        ∧ (∀ m, m ≠ n → f.toPlant.passage? m = s.plant.passage? m)
        ∧ f.accounts = (reserve x.payment ((q.1 : Int) - x.amount) s.flow).accounts
        ∧ f.out = [moved .called .berthed, reportNow s.base .account 0x70 (u4 x.number ++ x.mark ++ paymentByte x.payment
          ++ u4 x.amount ++ u4 q.1 ++ basisByte (some q.2))])
    ∧ (x.st = .shifting → ∃ f, exec (.berthed rq n) s =
          .next ((s.conclude f).ok rq 0x41 (u1 PassSt.berthed.code ++ u4 x.amount))
        ∧ OnlyMembers s.plant f.toPlant ∧ f.accounts = s.plant.accounts
        ∧ f.toPlant.passage? n = some { x with st := .berthed } ∧ f.out = [moved .shifting .berthed]
        ∧ (∀ m, m ≠ n → f.toPlant.passage? m = s.plant.passage? m))
    ∧ (x.st ≠ .shifting → (x.st ≠ .called ∨ ¬ entering) →
      exec (.berthed rq n) s = .next (s.no rq 0x41 .state []))
    ∧ (x.st = .called → entering →
      ∃ body, exec (.missed rq n) s = .next ((s.conclude (missPassage s.base n s.flow)).ok rq 0x42 body))
    ∧ ((x.st ≠ .called ∨ ¬ entering) →
      exec (.missed rq n) s = .next (s.no rq 0x42 .state [])))
  ∧ (∀ (v : Base) (n : Nat) (x : Passage) (f : Flow), f.toPlant.passage? n = some x →
    let g := missPassage v n f
    g.accounts = (releaseReserve x f).accounts ∧ g.regime = f.regime ∧ g.nextPassage = f.nextPassage
    ∧ g.opp = true ∧ LeavesBatch n x f.toPlant g.toPlant
    ∧ (x.misses = 0 → ∃ more, g.out = f.out ++ passageNow v x 0x20 (u1 x.st.code ++ u1 PassSt.waiting.code
      ++ u1 (queuePosition f.passages n) ++ u1 0 ++ u1 0 ++ u1 3) :: more)
    ∧ (1 ≤ x.misses → ∃ more, g.out = f.out ++ endedNow v x .missed 0 :: more)
    ∧ (x.misses = 0 → g.toPlant.passage? n = some { x with
        batch := none, chamber := none, committed := none, misses := 1, st := .waiting })
    ∧ (1 ≤ x.misses → PassageGone n f.toPlant g.toPlant))
  ∧ ∀ (id : Nat) (b : Batch) (s : State), s.powered = true → s.plant.batch? id = some b →
    let due : Prop := b.step = .entering ∧ b.frozen = false ∧ s.plant.regime.mode = .auto
      ∧ ∃ t, b.berth.since = some t ∧ 10 * s.base.settings.berthLimit ≤ b.berth.run + (s.base.elapsed - t)
    let late := (b.members.map (·.number)).filter fun n => decide ((s.plant.passage? n).map (·.st) = some .called)
    (due → exec (.entryBerthExpiry id) s = .next (s.conclude (overAll late (missPassage s.base) s.flow)))
    ∧ (¬ due → exec (.entryBerthExpiry id) s = .next s)

/-- Tier 2. A berth limit that has run in SHIFTING, not frozen, in AUTO, with members still SHIFTING holds the batch
OVERDUE and starts its overdue timer, which each 300 s restarts, and otherwise the expiry changes nothing; both raise
BERTH_OVERDUE with the members not yet berthed; WAVED takes a batch held for GREEN whose head it holds has lost its GN;
CONFIRM places an UNRESOLVED batch in a chamber no other names, its members BERTHED there, in the step the chamber
gives, and of the water changes only what a sluice commanded to 4 needs; BATCH_STEP is raised last (07/R119, R126, R129,
R131, R138; 02/R38). The count before the members in BERTH_OVERDUE and BATCH_STEP, the held step and causes in
BATCH_STEP of a batch not HELD (log 14), and the order of BATCH_STEP, BATCH_HELD and BERTH_OVERDUE (log 8), are the
model's. -/
def Obligations.OverdueWaivedAndConfirmedBatches : Prop :=
  (∀ (id : Nat) (b : Batch) (s : State), s.powered = true → s.plant.batch? id = some b →
    let late := (b.members.map (·.number)).filter fun n => decide ((s.plant.passage? n).map (·.st) = some .shifting)
    let overdue := reportNow s.base .alarm 0x0A (u1 id ++ u1 late.length ++ late.flatMap u4)
    let due : Prop := b.step = .shifting ∧ b.frozen = false ∧ s.plant.regime.mode = .auto
      ∧ (∃ t, b.berth.since = some t ∧ 10 * s.base.settings.berthLimit ≤ b.berth.run + (s.base.elapsed - t))
      ∧ late ≠ []
    (¬ due → exec (.shiftBerthExpiry id) s = .next s)
    ∧ (due →
      ∃ f, exec (.shiftBerthExpiry id) s = .next (s.conclude f)
        ∧ f.toPlant.batch? id = some { b with
            step := .held, heldStep := some .shifting, stepStart := s.base.elapsed,
            causes := { b.causes with overdue := true }, overdue := some s.base.elapsed }
        ∧ (∃ y, f.out = [batchNow s.base s.plant y, heldNow s.base y, overdue] ∧ y = { b with
            step := .held, heldStep := some .shifting, stepStart := s.base.elapsed,
            causes := { b.causes with overdue := true } })
        ∧ f.heads = s.plant.heads ∧ f.passages = s.plant.passages ∧ f.accounts = s.plant.accounts
        ∧ (∀ g, (f.gates.nth g).st = (s.plant.gates.nth g).st))
    ∧ (∀ k, b.overdue = some k → k + 3000 ≤ s.base.elapsed →
      ∃ f, exec (.overdueRepeat id) s = .next (s.deliver f)
        ∧ f.toPlant = { s.plant with batches := f.batches }
        ∧ f.toPlant.batch? id = some { b with overdue := some s.base.elapsed } ∧ f.out = [overdue]))
  ∧ (∀ (rq : Rq) (id : Nat) (b : Batch) (s : State), Admitted s rq 0 → s.plant.batch? id = some b →
    (∀ h, b.headOf b.effective = some h → b.step = .held → b.causes.green = true →
      (s.plant.heads.nth h).holder = .batch id → (s.plant.heads.nth h).good.gn = false →
      ∃ f, exec (.waved rq id) s = .next ((s.conclude f).ok rq 0x46 [])
        ∧ f.toPlant = { s.plant with heads := s.plant.heads.put h (f.heads.nth h), batches := f.batches }
        ∧ (f.heads.nth h).waved = true ∧ (f.heads.nth h).shown = (s.plant.heads.nth h).shown
        ∧ f.toPlant.batch? id = some { b with waved := true } ∧ f.out = [])
    ∧ ((b.step ≠ .held ∨ b.causes.green = false) → exec (.waved rq id) s = .next (s.no rq 0x46 .state [])))
  ∧ ∀ (rq : Rq) (id k : Nat) (s : State), Admitted s rq 0 →
    ((k < 1 ∨ 3 < k) → exec (.confirm rq id k) s = .next (s.no rq 0x47 .badField (u1 2)))
    ∧ (1 ≤ k → k ≤ 3 → s.plant.batch? id = none → exec (.confirm rq id k) s = .next (s.no rq 0x47 .notFound []))
    ∧ ∀ b, 1 ≤ k → k ≤ 3 → s.plant.batch? id = some b →
      let barred := b.step ≠ .unresolved ∨ ∃ x ∈ s.plant.batches, x.step ≠ .unresolved ∧ x.names k = true
      (barred → exec (.confirm rq id k) s = .next (s.no rq 0x47 .state []))
      ∧ (¬ barred →
        ∃ f y, exec (.confirm rq id k) s = .next ((s.conclude f).ok rq 0x47 (u1 y.step.code))
          ∧ OnlyPlaced s.plant f.toPlant ∧ f.toPlant.batch? id = some y ∧ y.chamber = some k ∧ y.target = none
          ∧ y.members = b.members ∧ y.causes = HeldCauses.none ∧ y.heldStep = none
          ∧ (∃ before, f.out = before ++ [batchNow s.base f.toPlant y])
          ∧ (y.step = .leaving ↔ k = b.dir.lastChamber ∧ (s.plant.gates.nth b.dir.exitGate).st = .opened)
          ∧ (y.step ≠ .leaving → y.step = .waitingAhead)
          ∧ ∀ m ∈ b.members, ∀ x, s.plant.passage? m.number = some x → ∃ z, f.toPlant.passage? m.number = some z
            ∧ z.st = .berthed ∧ z.chamber = some k ∧ z.berthedAt = some (x.berthedAt.getD s.base.clock)
            ∧ (x.berthedAt.isSome = true → z.committed = x.committed))

/-- Tier 2. CLEARED of a LEAVING member in LEAVING posts its fee, raised to the class minimum and capped, counts the
passage for its hull and appends its log record; REMOVE of a passage in a batch posts the class minimum and appends a
record without counting; EJECT ends a CALLED or BERTHED member, of a batch in its entry chamber and in ENTERING or
SEALING or held in one of them, without charge or record. In each the passage leaves the list and its batch, and
PASSAGE_ENDED is raised, ACCOUNT_POSTED with a charge posted; in any other state the request is refused STATE (05/R94;
07/R127, R132, R133, R134; 08/R146, R151, R152). -/
def Obligations.ClearedEjectedAndRemovedPassages : Prop :=
  ∀ (rq : Rq) (n : Nat) (x : Passage) (s : State), Admitted s rq 0 → s.plant.passage? n = some x →
    let batchIn (st : Step) (b : Batch) : Prop := (∃ id, x.batch = some id ∧ s.plant.batch? id = some b)
      ∧ (b.step = st ∨ (b.step = .held ∧ b.heldStep = some st))
    let leaving : Prop := x.st = .leaving ∧ ∃ b, batchIn .leaving b
    let ejectable : Prop := (x.st = .called ∨ x.st = .berthed)
      ∧ ∃ b, (batchIn .entering b ∨ batchIn .sealing b) ∧ b.chamber = some (if b.dir = .up then 1 else 3)
    let low := (s.base.settings.tariff.nth x.cls).minimum
    let fee := min (max x.amount low) 9999999
    let ends (e : PassEnd) (charge : Nat) (f : Flow) : Prop :=
      PassageGone n s.plant f.toPlant ∧ LeavesBatch n x s.plant f.toPlant ∧ f.opp = true
        ∧ endedNow s.base x e charge ∈ f.out
    let posted (charge : Nat) (f : Flow) : Prop :=
      (x.payment = none → f.accounts = s.plant.accounts)
      ∧ ∀ id a, x.payment = some id → s.plant.account? id = some a → f.toPlant.account? id = some { a with
          balance := max (a.balance - charge) (-99999999), reserved := a.reserved - x.amount,
          posted := if a.posted = 65535 then 65535 else a.posted + 1 }
        ∧ reportNow s.base .account 0x73 (u1 id ++ u4 x.number ++ u4 charge
          ++ s4 (max (a.balance - charge) (-99999999)) ++ u4 (a.reserved - x.amount).toNat) ∈ f.out
    (leaving →
      ∃ f hulls, exec (.cleared rq n) s = .next (((s.withBooks { s.base.books with
            hulls := hulls, log := s.base.books.log ++ [logRecord x fee false s.base.clock] }).conclude f).ok
              rq 0x43 (u4 fee))
        ∧ ends .completed fee f ∧ posted fee f
        ∧ hulls = s.base.books.hulls.map fun h => if h.mark = x.mark then
            { h with passages := if h.passages = 65535 then 65535 else h.passages + 1, last := some s.base.clock } else h)
    ∧ (¬ leaving →
      exec (.cleared rq n) s = .next (s.no rq 0x43 .state []))
    ∧ (x.st.waits = false →
      ∃ f, exec (.remove rq n) s = .next (((s.withBooks { s.base.books with
            log := s.base.books.log ++ [logRecord x low true s.base.clock] }).conclude f).ok rq 0x45 (u4 low))
        ∧ ends .removed low f ∧ posted low f)
    ∧ (x.st.waits = true → exec (.remove rq n) s = .next (s.no rq 0x45 .state []))
    ∧ (ejectable →
      ∃ f, exec (.eject rq n) s = .next ((s.conclude f).ok rq 0x44 []) ∧ ends .ejected 0 f
        ∧ f.accounts = (releaseReserve x s.flow).accounts)
    ∧ (¬ ejectable → exec (.eject rq n) s = .next (s.no rq 0x44 .state []))

/-- Tier 2. While the mode is AUTO and the flight is not STOOD_DOWN a batch takes what its step gives. ENTERING levels
the entry gate where it is SHUT and its channel IDLE, then opens it and shows GO at OPEN; with every member berthed it
seals. While another batch's errand owns a gate that the step opens, the step waits: it stages nothing and does not go
on. SEALING closes the gate behind, and releases it SHUT. WAITING_AHEAD claims the next chamber when it is empty and
asks the AHEAD levelling, a refused one again at a scan; a keeper's LEVEL is taken without a request; LEVELLING_AHEAD
and OPENING_AHEAD follow the channel; the gate ahead is opened, and at OPEN the members move on under GO into SHIFTING
or LEAVING; a shift whose members are all berthed seals from the chamber ahead. A batch whose gate is in FAULT or the
keeper's, whose levelling has failed, or whose head has lost its stopping signal is HELD in that step, with BATCH_STEP
and BATCH_HELD; without causes it re-enters its step where the gates stand as the step needs, and is held for GATE
otherwise. A batch that ends releases its heads, its levelling and its gates, one not yet SHUT by a close errand, and
BATCH_ENDED is raised (07/R119, R121 to R126, R129, R130, R134, R135). That no batch is put into HELD in MANUAL or while
frozen (log 23), an own levelling replaced by AHEAD (log 47), what is not withdrawn by its rule at an end (log 24),
BATCH_STEP before BATCH_HELD on entry to HELD (log 8), an entry gate's OPEN withdrawn with every member berthed (log
56), following a keeper's levelling into FAILED (log 57), an ENTRY levelling refused asked again whenever the step is
worked (log 39), the berth timer stopped at a further cause of a batch HELD for OVERDUE (log 63), a step re-entered
as WAITING_AHEAD from SHIFTING or LEAVING without a test of the gate behind (log 70), and the member count and the held
step and causes in BATCH_STEP of a batch not HELD (log 14) are the model's. -/
def Obligations.TrackerWorksTheSteps : Prop :=
  let turnsTo (b : Batch) (st : Step) (k : Flow) : Prop :=
    ∃ y, k.toPlant.batch? b.id = some y ∧ y.step = st ∧ y.members = b.members ∧ y.dir = b.dir ∧ y.chamber = b.chamber
  let turnsOrStops (b : Batch) (st : Step) (k : Flow) : Prop := turnsTo b st k
    ∨ ∃ y, k.toPlant.batch? b.id = some y ∧ y.step = .held ∧ y.heldStep = some st ∧ y.causes.stopSignal = true
  let works (f : Flow) : Prop := f.regime.mode = .auto ∧ f.regime.condition ≠ .stoodDown
  let mayMove (b : Batch) (g : Fin 4) (f : Flow) : Prop :=
    (f.gates.nth g).st ≠ .fault ∧ ((f.gates.nth g).owner = .none ∨ (f.gates.nth g).owner = .batch b.id)
  let mayStage (b : Batch) (h : Fin 8) (f : Flow) : Prop :=
    (f.heads.nth h).shown.stopping = true ∧ (f.heads.nth h).staged.stopping = true ∧ ((f.heads.nth h).holder = .none ∨ (f.heads.nth h).holder = .batch b.id)
  let staged (b : Batch) (h : Fin 8) (a : Aspect) (k : Flow) : Prop :=
    (k.heads.nth h).staged = a ∧ (k.heads.nth h).holder = .batch b.id
      ∧ ((k.heads.nth h).pending = false → (k.heads.nth h).shown = a)
  let opens (v : Base) (b : Batch) (g : Fin 4) (f k : Flow) : Prop := (k.gates.nth g).owner = .batch b.id
    ∧ (openInterlock v f.toPlant g = true → (k.gates.nth g).st = .opening)
    ∧ (openInterlock v f.toPlant g = false → (k.gates.nth g).st = .shut ∧ (k.gates.nth g).ask = some (.openFor b.id))
  -- one batch examined
  (∀ (v : Base) (id : Nat) (f : Flow) (b : Batch), f.toPlant.batch? id = some b →
    followCauses v id (followWaved id (followOwn id f)) = f → b.frozen = false → works f →
    (b.step ≠ .held → examineBatch v id f = workStep v b f)
    ∧ (b.step = .held → b.causes = HeldCauses.none → examineBatch v id f = reenter v id f))
  -- ENTERING
  ∧ (∀ (v : Base) (b : Batch) (f : Flow) (h : Fin 8), b.step = .entering → b.headOf .entering = some h →
    f.toPlant.batch? b.id = some b →
    let g := b.behind
    let k := workStep v b f
    (b.allBerthed = true → k = sealStep v b.id h (withdrawOpen b.id g f) ∧ (k.gates.nth g).ask ≠ some (.openFor b.id))
    ∧ (b.allBerthed = false → works f →
      ((f.gates.nth g).st = .shut → (f.channels.nth g).st = .idle → levelsUsable v g (some .entry) = true →
        (k.channels.nth g).req = some .entry ∧ (k.channels.nth g).st ≠ .idle
        ∧ k.toPlant.batch? b.id = some { b with own := some (g, .entry) })
      ∧ ((f.gates.nth g).st = .shut → (f.channels.nth g).st = .level → mayMove b g f →
        (f.gates.nth g).ask ≠ some (.openFor b.id) → (f.heads.nth h).lostRed = false → opens v b g f k)
      ∧ ((f.gates.nth g).st = .opened → mayMove b g f → mayStage b h f →
        (k.gates.nth g).owner = .batch b.id ∧ (k.gates.nth g).st = .opened ∧ staged b h .go k)
      ∧ (∀ a, (f.gates.nth g).owner = .batch a → a ≠ b.id → (f.gates.nth g).st ≠ .shut → k = f)))
  ∧ (∀ (v : Base) (id : Nat) (h : Fin 8) (f : Flow) (b : Batch), f.toPlant.batch? id = some b →
    let k := sealStep v id h f
    let e := f.sched.dir.entryChamber
    let y : Batch := { b with
      members := b.members.map (fun m => { m with flag := false }), step := .sealing, heldStep := none,
      causes := HeldCauses.none, stepStart := v.elapsed, berth := ⟨0, none⟩, waved := false,
      chamber := if b.target.isSome then b.target else b.chamber, target := none }
    k.toPlant.batch? id = some y ∧ (k.heads.nth h).holder ≠ .batch id
      ∧ k.out.getLast? = some (batchNow v k.toPlant y) ∧ k.gates = f.gates ∧ k.passages = f.passages
      ∧ (f.toPlant.occupants e ≠ [] → k.toPlant.occupants e = [] → k.opp = true))
  -- SEALING
  ∧ (∀ (v : Base) (b : Batch) (f : Flow), b.step = .sealing → f.toPlant.batch? b.id = some b →
    let g := b.behind
    let x := f.gates.nth g
    let k := workStep v b f
    (x.st = .shut → turnsTo b .waitingAhead k
      ∧ (k.gates.nth g).owner = if x.owner = .batch b.id then .none else x.owner)
    ∧ (x.st ≠ .shut → x.ask = some (.closeFor b.id) → k = f)
    ∧ (x.st ≠ .shut → x.ask ≠ some (.closeFor b.id) →
      (gateBarred b.id g f = true → k = hold v b.id .gate f)
      ∧ (gateBarred b.id g f = false → x.st = .opened → f.toPlant.gateLit g = true →
        (k.gates.nth g).ask = some (.closeFor b.id) ∧ (k.gates.nth g).st = .opened)
      ∧ (gateBarred b.id g f = false → x.st = .opened → f.toPlant.gateLit g = false → v.pins.beam.nth g = false →
        (k.gates.nth g).st = .closing ∧ (k.gates.nth g).owner = .batch b.id)))
  -- WAITING_AHEAD and LEVELLING_AHEAD
  ∧ (∀ (v : Base) (id : Nat) (f : Flow) (b : Batch), f.toPlant.batch? id = some b →
    let k := claimAhead v id f
    (∀ n, b.target = none → b.dir.nextChamber b.at_ = some n →
      ((f.toPlant.occupants n ≠ [] ∨ f.toPlant.batchIn? n ≠ none) → k = f)
      ∧ (f.toPlant.occupants n = [] → f.toPlant.batchIn? n = none →
        ∃ y, k.toPlant.batch? id = some y ∧ y.target = some n ∧ y.step = b.step))
    ∧ ((b.target ≠ none ∨ b.dir.nextChamber b.at_ = none) → k = askAhead v id f))
  ∧ (∀ (v : Base) (id : Nat) (f : Flow) (b : Batch), f.toPlant.batch? id = some b →
    let k := askAhead v id f
    let c := f.channels.nth b.ahead
    (b.own = some (b.ahead, .ahead id) → k = f)
    ∧ (c.st = .level → c.req = some .keeper → k = f)
    ∧ (b.own ≠ some (b.ahead, .ahead id) → works f → c.st = .idle → (f.gates.nth b.ahead).st = .shut →
      levelsUsable v b.ahead (some (.ahead id)) = true → (k.channels.nth b.ahead).req = some (.ahead id)
        ∧ (k.channels.nth b.ahead).st ≠ .idle
        ∧ k.toPlant.batch? id = some { b with own := some (b.ahead, .ahead id) }))
  ∧ (∀ (v : Base) (b : Batch) (f : Flow), (b.step = .waitingAhead ∨ b.step = .levellingAhead) →
    f.toPlant.batch? b.id = some b →
    let c := f.channels.nth b.ahead
    let k := workStep v b f
    let mine : Prop := b.own = some (b.ahead, .ahead b.id)
      ∨ (c.req = some .keeper ∧ (c.st = .level ∨ b.step = .levellingAhead))
    let claimed : Prop := b.target ≠ none ∨ b.dir.nextChamber b.at_ = none
    (mine → claimed → (c.st = .running ∨ c.st = .holding ∨ c.st = .suspended) →
      (b.step = .waitingAhead → turnsTo b .levellingAhead k) ∧ (b.step = .levellingAhead → k = f))
    ∧ (mine → claimed → c.st = .level → turnsOrStops b .openingAhead k)
    ∧ (¬ mine → b.step = .levellingAhead → turnsTo b .waitingAhead k)
    ∧ (¬ claimed → (mine ∨ b.step = .waitingAhead) → k = claimAhead v b.id f)
    ∧ (¬ mine → claimed → b.step = .waitingAhead → k = if f.scanEnd then askAhead v b.id f else f))
  -- OPENING_AHEAD
  ∧ (∀ (v : Base) (b : Batch) (f : Flow) (h : Fin 8), b.step = .openingAhead → b.headOf .openingAhead = some h →
    f.toPlant.batch? b.id = some b →
    let g := b.ahead
    let x := f.gates.nth g
    let c := f.channels.nth g
    let k := workStep v b f
    (x.st = .shut → c.st = .idle →
      turnsTo b .waitingAhead k ∧ (k.heads.nth h).holder ≠ .batch b.id ∧ (k.gates.nth g).ask ≠ some (.openFor b.id))
    ∧ (x.st = .shut → c.st ≠ .idle → c.st ≠ .level →
      turnsTo b .levellingAhead k ∧ (k.heads.nth h).holder ≠ .batch b.id)
    ∧ (x.st = .shut → c.st = .level → (f.heads.nth h).lostRed = true → k = hold v b.id .stopSignal f)
    ∧ (x.st = .shut → c.st = .level → (f.heads.nth h).lostRed = false → works f → mayMove b g f →
      x.ask ≠ some (.openFor b.id) → opens v b g f k ∧ (mayStage b h f → staged b h .prepare k))
    ∧ (x.st = .opened → works f → mayMove b g f →
      turnsTo b (if g = b.dir.exitGate then .leaving else .shifting) k ∧ (k.gates.nth g).owner = .batch b.id
        ∧ (mayStage b h f → staged b h .go k))
    ∧ (∀ a, x.owner = .batch a → a ≠ b.id → x.st ≠ .shut → k = f))
  -- SHIFTING and LEAVING
  ∧ (∀ (v : Base) (b : Batch) (f : Flow) (h : Fin 8), (b.step = .shifting ∨ b.step = .leaving) →
    b.headOf b.step = some h →
    let x := f.gates.nth b.ahead
    let k := workStep v b f
    (b.step = .shifting → b.allBerthed = true → k = sealStep v b.id h f)
    ∧ ((b.step = .leaving ∨ b.allBerthed = false) → x.st ≠ .opened → k = f)
    ∧ (∀ a, (b.step = .leaving ∨ b.allBerthed = false) → x.owner = .batch a → a ≠ b.id → k = f)
    ∧ ((b.step = .leaving ∨ b.allBerthed = false) → x.st = .opened → x.owner = .batch b.id →
      k = passMembers v b h (wantAspect v b.id h .go f)))
  ∧ (∀ (v : Base) (b : Batch) (h : Fin 8) (f : Flow),
    let y := f.heads.nth h
    let goes : Prop := (f.gates.nth b.ahead).st = .opened
      ∧ ((y.holder = .batch b.id ∧ y.shown = .go) ∨ b.waved = true)
    let k := passMembers v b h f
    let ready (n : Nat) (x : Passage) : Prop := x.st = .berthed ∧ ∃ m ∈ b.members, m.number = n ∧ m.flag = false
    (¬ goes → k = f)
    ∧ (∀ n x, goes → f.toPlant.passage? n = some x →
      (¬ ready n x → k.toPlant.passage? n = some x)
      ∧ (ready n x → k.toPlant.passage? n = some
        (if b.effective = .leaving then { x with st := .leaving } else { x with st := .shifting, chamber := b.target })))
    ∧ (goes → f.toPlant.batch? b.id = some b → b.effective = .shifting → f.regime.mode = .auto →
      (∀ m ∈ b.members, m.flag = false ∧ f.toPlant.memberSt m = some .berthed) → b.members ≠ [] →
      k.toPlant.batch? b.id = some { b with berth := ⟨0, some v.elapsed⟩ }))
  -- HELD
  ∧ (∀ (v : Base) (id : Nat) (c : HeldCause) (f : Flow) (b : Batch), f.toPlant.batch? id = some b →
    let k := hold v id c f
    let held : Prop := b.step = .held
    let y : Batch := { b with
      step := .held
      heldStep := if b.step = .held then b.heldStep else some b.step
      causes := b.causes.put c true
      stepStart := if b.step = .held then b.stepStart else v.elapsed
      berth := if c = .overdue then b.berth else ⟨b.berth.value v.elapsed, none⟩ }
    (held → b.causes.has c = true → k = f)
    ∧ ((¬ held ∨ b.causes.has c = false) → k.toPlant.batch? id = some y
      ∧ (∀ i, i ≠ id → k.toPlant.batch? i = f.toPlant.batch? i)
      ∧ (∀ g, (k.gates.nth g).ask ≠ some (.openFor id) ∧ (k.gates.nth g).st = (f.gates.nth g).st)
      ∧ k.channels = f.channels ∧ k.heads = f.heads ∧ k.passages = f.passages
      ∧ k.out = f.out ++ (if b.step = .held then [] else [batchNow v f.toPlant y]) ++ [heldNow v y]))
  ∧ (∀ (v : Base) (id : Nat) (f : Flow) (b : Batch), f.toPlant.batch? id = some b → b.step ≠ .held →
    b.step ≠ .unresolved →
    let k := followCauses v id f
    let met (cause : HeldCauses → Bool) : Prop := ∃ y, k.toPlant.batch? id = some y ∧ y.step = .held
      ∧ y.heldStep = some b.step ∧ cause y.causes = true
    ((b.frozen = true ∨ ¬ works f) → k = f)
    ∧ (b.frozen = false → works f →
      (∀ g, b.moves b.step = some g → ((f.gates.nth g).st = .fault ∨ (f.gates.nth g).owner = .keeper) → met (·.gate))
      ∧ (∀ g p, b.own = some (g, p) → (f.channels.nth g).st = .failed → (f.channels.nth g).req = some p →
        met (·.levelling))
      ∧ (b.own = none → b.step = .levellingAhead → (f.channels.nth b.ahead).st = .failed →
        (f.channels.nth b.ahead).req = some .keeper → met (·.levelling))
      ∧ (∀ h, b.headOf b.step = some h → (f.heads.nth h).holder = .batch b.id → (f.heads.nth h).pending = true →
        (f.heads.nth h).good.gn = false → (f.heads.nth h).waved = false → met (·.green))))
  ∧ (∀ (f : Plant) (b : Batch) (s : Step),
    let st (g : Fin 4) : GateSt := (f.gates.nth g).st
    let moved (g : Fin 4) : Prop := st g ≠ .fault
      ∧ ((f.gates.nth g).owner = .none ∨ (f.gates.nth g).owner = .batch b.id)
    let still : Prop := ∀ m ∈ b.members, m.flag = false ∧ f.memberSt m = some .berthed
    (gatesReady f b .entering = true ↔
      (st b.behind = .shut ∨ st b.behind = .opening ∨ st b.behind = .opened) ∧ moved b.behind)
    ∧ (gatesReady f b .sealing = true ↔ moved b.behind)
    ∧ ((s = .waitingAhead ∨ s = .levellingAhead) →
      (gatesReady f b s = true ↔ st b.behind = .shut ∧ st b.ahead = .shut))
    ∧ (gatesReady f b .openingAhead = true ↔ st b.behind = .shut
      ∧ (st b.ahead = .shut ∨ st b.ahead = .opening ∨ st b.ahead = .opened) ∧ moved b.ahead)
    ∧ ((s = .shifting ∨ s = .leaving) →
      (gatesReady f b s = true ↔ (st b.ahead = .opened ∨ (st b.ahead = .shut ∧ still)) ∧ moved b.ahead)))
  ∧ (∀ (v : Base) (id : Nat) (f : Flow) (b : Batch), f.toPlant.batch? id = some b → b.step ≠ .unresolved →
    let s := b.effective
    let shut : Prop := (f.gates.nth b.ahead).st = .shut
    let own : Prop := b.own = some (b.ahead, .ahead b.id)
    let leadsTo (st : Step) : Prop := turnsOrStops b st (reenter v id f)
    (gatesReady f.toPlant b s = false → reenter v id f = hold v id .gate f)
    ∧ (gatesReady f.toPlant b s = true →
      ((s = .entering ∨ s = .sealing ∨ s = .waitingAhead) → leadsTo s)
      ∧ (s = .levellingAhead → (own → leadsTo s) ∧ (¬ own → leadsTo .waitingAhead))
      ∧ (s = .openingAhead → ((shut ∧ ¬ own) → leadsTo .waitingAhead) ∧ ((¬ shut ∨ own) → leadsTo s))
      ∧ ((s = .shifting ∨ s = .leaving) → (shut → leadsTo .waitingAhead) ∧ (¬ shut → leadsTo s))))
  -- ends and errands
  ∧ (∀ (v : Base) (id : Nat) (e : BatchEnd) (f : Flow) (b : Batch), f.toPlant.batch? id = some b →
    let k := endBatch v id e f
    k.toPlant.batch? id = none ∧ (∀ i, i ≠ id → k.toPlant.batch? i = f.toPlant.batch? i) ∧ k.opp = true
    ∧ (∀ h, (k.heads.nth h).holder ≠ .batch id) ∧ k.passages = f.passages
    ∧ (∀ g p, b.own = some (g, p) → (f.channels.nth g).req = some p → (f.channels.nth g).st ≠ .idle →
      k.channels.nth g = Channel.idle)
    ∧ (∀ g,
      let x := f.gates.nth g
      let y := k.gates.nth g
      y.ask ≠ some (.openFor id)
      ∧ (x.owner ≠ .batch id → y.owner = x.owner ∧ y.st = x.st)
      ∧ (x.owner = .batch id → e = .removed → y.owner = .keeper ∧ y.st = x.st)
      ∧ (x.owner = .batch id → e ≠ .removed → (x.st = .shut ∨ f.regime.mode = .manual) → y.owner = .none ∧ y.st = x.st)
      ∧ (x.owner = .batch id → e ≠ .removed → f.regime.mode = .auto → x.st = .opened → k.toPlant.gateLit g = true →
        y.ask = some (.closeFor id) ∧ y.owner = .batch id ∧ k.errands.nth g = some id)
      ∧ (x.owner = .batch id → e ≠ .removed → f.regime.mode = .auto → x.st = .opened → k.toPlant.gateLit g = false →
        v.pins.beam.nth g = false → y.st = .closing ∧ y.owner = .none))
    ∧ ∃ left, k.out.getLast? =
      some (reportNow v .passage 0x25 (u1 id ++ u1 e.code ++ opt1 b.chamber ++ bits1 left)))
  ∧ ∀ (v : Base) (f : Flow) (g : Fin 4),
    let k := errandRound v f
    (f.errands.nth g = none → k.errands.nth g = none ∧ k.gates.nth g = f.gates.nth g)
    ∧ ∀ id, f.errands.nth g = some id →
      ((f.gates.nth g).ask = some (.closeFor id) → k.errands.nth g = some id ∧ k.gates.nth g = f.gates.nth g)
      ∧ ((f.gates.nth g).ask ≠ some (.closeFor id) → k.errands.nth g = none
        ∧ (k.gates.nth g).owner = if (f.gates.nth g).owner = .batch id then .none else (f.gates.nth g).owner)

/-! ## Tolls, hulls and accounts -/

/-- Tier 2. The night band, which crosses midnight when its start is later than its end and is empty when they are equal
or the clock is unset; and the nine steps of the toll, every division rounded half up, with its basis marks
(08/R142, R143). -/
def Obligations.TollFollowsTheFormula : Prop :=
  (∀ (v : Settings) (c : Clock), let m := c.tod / 600
    (c.unset = true → nightBand v c = false)
    ∧ (c.unset = false → v.nightEnd < v.nightStart → (nightBand v c = true ↔ v.nightStart ≤ m ∨ m < v.nightEnd))
    ∧ (c.unset = false → v.nightStart < v.nightEnd → (nightBand v c = true ↔ v.nightStart ≤ m ∧ m < v.nightEnd))
    ∧ (v.nightStart = v.nightEnd → nightBand v c = false))
  ∧ (∀ (v : Settings) (night saving : Bool) (k : Nat) (cls : Fin 8) (length tonnes : Nat),
    let isHalfUp (n d r : Nat) : Prop := d * (2 * r) ≤ 2 * n + d ∧ 2 * n + d < d * (2 * r + 2)
    let t := v.tariff.nth cls
    ∃ l w n s d : Nat, isHalfUp (t.perMetre * length) 10 l ∧ isHalfUp (t.perTonne * tonnes) 10 w
      ∧ (let gross := t.base + l + w
        (if night then isHalfUp (gross * v.nightSurcharge) 100 n else n = 0)
        ∧ (if saving then isHalfUp (gross * v.waterSurcharge) 100 s else s = 0)
        ∧ (if v.frequentThreshold ≤ k then isHalfUp ((gross + n + s) * v.frequentDiscount) 100 d else d = 0)
        ∧ toll v night saving k cls length tonnes =
          (min (max (gross + n + s - d) t.minimum) 9999999, ⟨night, saving, decide (v.frequentThreshold ≤ k)⟩)))
  ∧ ∀ (v : Base) (p : Plant) (x : Passage), quote v p x = toll v.settings (nightBand v.settings v.clock) p.sched.saving
      (hullPassages v.books x.mark) x.cls x.length x.tonnes

/-- Tier 1. ACCOUNT_CREDIT (08/R148): refused out of its ranges and where the id holds no account; otherwise the balance
rises by the amount, or by what brings it to its bound if that is less, in either state of the account; the reserved
amount and the postings are not touched; the reply carries the amount applied and the new balance; ACCOUNT_STATE is
raised when the balance changed. -/
def Obligations.AccountCreditRaisesTheBalance : Prop :=
  ∀ (rq : Rq) (id amount : Nat) (s : State),
    (s.takes rq.port = true → rq.claimed ≤ 2 → 1 < effectiveLevel s rq →
      exec (.accountCredit rq id amount) s = .next (s.no rq 0x55 .denied []))
    ∧ (Admitted s rq 1 → (id < 1 ∨ 64 < id) →
      exec (.accountCredit rq id amount) s = .next (s.no rq 0x55 .badField (u1 1)))
    ∧ (Admitted s rq 1 → 1 ≤ id → id ≤ 64 → (amount < 1 ∨ 99999999 < amount) →
      exec (.accountCredit rq id amount) s = .next (s.no rq 0x55 .badField (u1 2)))
    ∧ (Admitted s rq 1 → 1 ≤ id → id ≤ 64 → 1 ≤ amount → amount ≤ 99999999 → s.plant.account? id = none →
      exec (.accountCredit rq id amount) s = .next (s.no rq 0x55 .notFound []))
    ∧ ∀ a, Admitted s rq 1 → 1 ≤ id → id ≤ 64 → 1 ≤ amount → amount ≤ 99999999 → s.plant.account? id = some a →
      let n : Nat := if a.balance + amount ≤ 99999999 then amount else (99999999 - a.balance).toNat
      let b : Account := { a with balance := a.balance + n }
      ∃ f, exec (.accountCredit rq id amount) s = .next ((s.deliver f).ok rq 0x55 (u4 n ++ s4 b.balance))
        ∧ f.toPlant = { s.plant with accounts := f.accounts } ∧ f.toPlant.account? id = some b
        ∧ (∀ k, k ≠ id → f.toPlant.account? k = s.plant.account? k)
        ∧ f.out = if n = 0 then []
          else [⟨.account, u1 0x72 ++ stampBytes s.base.clock ++ b.bytes, none⟩]

/-- Tier 1. LOG_READ (08/R153): refused for a count outside 1..4; otherwise the reply gives the number of records in the
log, then the oldest of them, the count or all; it changes nothing, so a later one with records appended in between starts
with the same records. -/
def Obligations.LogReadGivesTheOldestRecords : Prop :=
  (∀ (rq : Rq) (n : Nat) (s : State),
    (s.takes rq.port = true → rq.claimed ≤ 2 → 1 < effectiveLevel s rq →
      exec (.logRead rq n) s = .next (s.no rq 0x56 .denied []))
    ∧ (Admitted s rq 1 → (n < 1 ∨ 4 < n) → exec (.logRead rq n) s = .next (s.no rq 0x56 .badField (u1 1)))
    ∧ (Admitted s rq 1 → 1 ≤ n → n ≤ 4 → exec (.logRead rq n) s = .next (s.ok rq 0x56
      (u2 s.base.books.log.length ++ (s.base.books.log.take n).flatMap LogRec.bytes))))
  ∧ ∀ (log more : List LogRec) (n : Nat), log.take n <+: (log ++ more).take n

/-- Tier 1. LOG_DROP removes the oldest records, the count of them, and the rest keep their order; it is refused for a
count outside 1..256 or above the log's, and STATE where the oldest record carries another number than the one sent.
PERIOD_CLOSE zeroes every count of hulls and postings, stamps the period start, clears RETAINED_LOST, leaves the log and
raises PERIOD_CLOSED (08/R154, R155). That the records remaining are sent in 2 bytes is the model's (log 14). -/
def Obligations.LogDropAndPeriodCloseAct : Prop :=
  (∀ (rq : Rq) (n : Nat) (oldest : Option Nat) (s : State), Admitted s rq 1 →
    let log := s.base.books.log
    let differs := ∃ k r rest, oldest = some k ∧ log = r :: rest ∧ r.number ≠ k
    ((n < 1 ∨ 256 < n) → exec (.logDrop rq n oldest) s = .next (s.no rq 0x57 .badField (u1 1)))
    ∧ (1 ≤ n → n ≤ 256 → log.length < n → exec (.logDrop rq n oldest) s = .next (s.no rq 0x57 .badField (u1 0xFF)))
    ∧ (1 ≤ n → n ≤ 256 → n ≤ log.length → differs →
      exec (.logDrop rq n oldest) s = .next (s.no rq 0x57 .state []))
    ∧ (1 ≤ n → n ≤ 256 → n ≤ log.length → ¬ differs →
      ∃ f, exec (.logDrop rq n oldest) s = .next (((s.withBooks { s.base.books with log := log.drop n }).conclude f).ok
          rq 0x57 (u2 (log.length - n)))
        ∧ f.toPlant = s.plant ∧ f.opp = true))
  ∧ ∀ (rq : Rq) (s : State), Admitted s rq 0 →
    ∃ f t, exec (.periodClose rq) s = .next ((t.deliver f).ok rq 0x58 (stampBytes s.base.clock))
      ∧ t = { s.withBooks { s.base.books with
            hulls := s.base.books.hulls.map fun h => { h with passages := 0 }, periodStart := s.base.clock } with
          link := { s.link with retainedLost := false } }
      ∧ f.toPlant = { s.plant with accounts := s.plant.accounts.map fun a => { a with posted := 0 } }
      ∧ f.out = [⟨.account, u1 0x74 ++ stampBytes s.base.clock ++ stampBytes s.base.books.periodStart
          ++ stampBytes s.base.clock, none⟩]

/-! ## Regimes -/

/-- Tier 2. MODE sets the mode, and on MANUAL every pending request of the Tracker to a gate is discarded; FLIGHT_CLOSE puts
KEEPER in the cause set and FLIGHT_OPEN takes it out, each answering with the cause set and the condition; a change raises
FLIGHT_STATE first (02/R24; 09/R157, R158, R161). The codes of its causes are the model's (log 14). -/
def Obligations.ModeAndKeeperOrdersAct : Prop :=
  (∀ (rq : Rq) (s : State), Admitted s rq 0 →
    (∀ code m, mode? code = some m → s.plant.regime.mode = m → exec (.mode rq code) s =
      .next (s.ok rq 0x61 (u1 m.code ++ u1 s.plant.regime.condition.code)))
    ∧ (∀ code m, mode? code = some m → s.plant.regime.mode ≠ m → ∃ f, exec (.mode rq code) s =
        .next ((s.conclude f).ok rq 0x61 (u1 m.code ++ u1 s.plant.regime.condition.code))
      ∧ f.regime = { s.plant.regime with mode := m }
      ∧ f.out.head? = some (flightNow s.base { s.plant.regime with mode := m } .mode)
      ∧ (m = .manual → f.out = [flightNow s.base { s.plant.regime with mode := m } .mode])
      ∧ (m = .manual → f.heads = s.plant.heads
        ∧ ∀ g b, (f.gates.nth g).ask ≠ some (.openFor b) ∧ (f.gates.nth g).ask ≠ some (.closeFor b)))
    ∧ (∀ code, mode? code = none → exec (.mode rq code) s = .next (s.no rq 0x61 .badField (u1 1))))
  ∧ ∀ (rq : Rq) (s : State), Admitted s rq 0 →
    let r := s.plant.regime
    let order (c : Instr) (kind : Nat) (x : Bool) : Prop := ∃ f,
      exec c s = .next ((s.conclude f).ok rq kind (bits1 [r.flood, r.mainsCause, x]
        ++ u1 ({ r with keeper := x } : Regime).condition.code))
      ∧ f.regime = { r with keeper := x } ∧ OnlyCondition s.plant f.toPlant
      ∧ (r.keeper = x → f.out = [])
      ∧ (r.keeper ≠ x → f.out.head? = some (flightNow s.base { r with keeper := x } .keeper))
    order (.flightClose rq) 0x62 true ∧ order (.flightOpen rq) 0x63 false

/-- Tier 2. STANDDOWN, and a deadline that runs out, enter STOOD_DOWN with FLIGHT_STATE: every head at its rest aspect
and held by no one, every levelling cancelled, every batch frozen; every sluice not in FAULT is commanded to 0 and,
where it was worked and is not there yet, awaited, one in FAULT that was worked is left; a gate that is not SHUT is left
for a blocked beam, a member passing, a fault or a hold, and is otherwise sent a Regime close, which waits for OPEN and
for dark greens, and awaited. A flight already stood down stays so. An awaited gate or sluice that comes to its end is
no longer awaited, and joins the left list where it failed; with nothing awaited and every head at rest, STOOD_DOWN is
raised with the left list. RESUME is refused STATE unless the flight is STOOD_DOWN without MAINS, FLOOD or an UNRESOLVED
batch; otherwise it clears the mark, the progress, with an early STOOD_DOWN, and the frozen marks (02/R31; 09/R157,
R160, R162, R163, R164, R165; 04/R79; 07/R136). The codes and the layout of the reports, what of a STOPPED gate is
awaited, FLIGHT_STATE with DEADLINE in a flight already stood down, the order among the left reasons, and the
order of the left list as it is sent, are the model's (log 14, 22, 21, 59, 71). -/
def Obligations.StandDownAndResumeAct : Prop :=
  let why (s : State) (g : Fin 4) : Option LeftReason :=
    if s.base.pins.beam.nth g then some .beam
    else if s.plant.passingSet.nth g then some .shifting
    else if (s.plant.gates.nth g).st = .fault then some .fault
    else if (s.plant.gates.nth g).hold then some .held
    else none
  let worked (s : State) (g : Fin 4) : Prop :=
    (s.plant.channels.nth g).st ≠ .idle ∨ (s.plant.sluices.nth g).pos ≠ 0 ∨ (s.plant.sluices.nth g).cmd ≠ 0
  let down (s : State) (f : Flow) : Prop := f.regime.stoodDown = true ∧ f.regime.mode = s.plant.regime.mode
    ∧ f.regime.flood = s.plant.regime.flood ∧ f.regime.mainsCause = s.plant.regime.mainsCause
    ∧ f.regime.keeper = s.plant.regime.keeper ∧ f.regime.passing = s.plant.passingSet
    ∧ (∀ h, (f.heads.nth h).shown = restAspect .stoodDown h ∧ (f.heads.nth h).holder = .none)
    ∧ (∀ b ∈ f.batches, b.frozen = true) ∧ f.passages = s.plant.passages ∧ f.accounts = s.plant.accounts
    ∧ (∀ g, ((s.plant.channels.nth g).st ≠ .idle → f.channels.nth g = Channel.idle)
      ∧ ((s.plant.channels.nth g).st = .idle → f.channels.nth g = s.plant.channels.nth g)
      ∧ ((s.plant.sluices.nth g).st ≠ .fault →
        (f.sluices.nth g).cmd = 0 ∧ (f.sluices.nth g).pos = (s.plant.sluices.nth g).pos)
      ∧ ((s.plant.sluices.nth g).st = .fault → f.sluices.nth g = s.plant.sluices.nth g)
      ∧ (⟨true, g, .fault⟩ ∈ f.regime.left ↔ (s.plant.sluices.nth g).st = .fault ∧ worked s g))
    ∧ (∀ g,
      let x := s.plant.gates.nth g
      let y := f.gates.nth g
      let sent : Prop := x.st ≠ .shut ∧ why s g = none
      (¬ sent → y = x)
      ∧ (sent → y.owner = x.owner ∧ y.hold = false ∧ (x.st = .closing → y = x)
        ∧ (x.st = .opening → y = { x with ask := some .regimeClose })
        ∧ (x.st = .stopped → y = { x with ask := none })
        ∧ (x.st = .opened → f.toPlant.gateLit g = true → y = { x with ask := some .regimeClose })
        ∧ (x.st = .opened → f.toPlant.gateLit g = false →
          y.st = .closing ∧ y.ask = none ∧ y.travel = some s.base.elapsed ∧ y.obstructions = 0))
      ∧ ∀ r, ⟨false, g, r⟩ ∈ f.regime.left ↔ x.st ≠ .shut ∧ why s g = some r)
    ∧ ∃ p, f.regime.progress = some p ∧ p.since = s.base.elapsed ∧ p.heads = true
      ∧ ∀ g, (p.gates.nth g = true ↔ (s.plant.gates.nth g).st ≠ .shut ∧ why s g = none)
        ∧ (p.sluices.nth g = true ↔ (s.plant.sluices.nth g).st ≠ .fault ∧ worked s g
          ∧ ¬ ((f.sluices.nth g).st = .steady ∧ (f.sluices.nth g).pos = 0))
  (∀ (rq : Rq) (s : State), Admitted s rq 0 →
    let body (t : State) : List Byte := u1 t.plant.regime.condition.code ++ b1 t.plant.regime.progress.isSome
    (s.plant.regime.stoodDown = true → exec (.standdown rq) s = .next (s.ok rq 0x64 (body s)))
    ∧ (s.plant.regime.stoodDown = false →
      ∃ f, exec (.standdown rq) s = .next ((s.conclude f).ok rq 0x64 (body (s.conclude f))) ∧ down s f
        ∧ f.out.head? = some (flightNow s.base { s.plant.regime with stoodDown := true } .keeper))
    ∧ (resumeBar s.plant ≠ none → exec (.resume rq) s = .next (s.no rq 0x65 .state []))
    ∧ (resumeBar s.plant = none ↔ s.plant.regime.stoodDown = true ∧ s.plant.regime.mainsCause = false
      ∧ s.plant.regime.flood = false ∧ ∀ b ∈ s.plant.batches, b.step ≠ .unresolved)
    ∧ (resumeBar s.plant = none → ∃ f, exec (.resume rq) s =
        .next ((s.conclude f).ok rq 0x65 (u1 f.regime.condition.code))
      ∧ f.regime = { s.plant.regime with stoodDown := false, progress := none, left := [] }
      ∧ (∀ b ∈ f.batches, b.frozen = false) ∧ f.passages = s.plant.passages ∧ f.accounts = s.plant.accounts
      ∧ ∃ more, f.out = (match s.plant.regime.progress with
          | some p => [stoodDownNow s.base s.plant.regime.left p true]
          | none => []) ++ flightNow s.base { s.plant.regime with stoodDown := false } .resume :: more))
  ∧ (∀ (k : Nat) (s : State), s.powered = true → s.plant.regime.deadline = .running k →
    let spent : Regime := { s.plant.regime with deadline := .expired }
    let told := reportNow s.base .alarm 0x0F (b1 s.plant.regime.stoodDown)
    (s.base.elapsed < k → exec .deadlineExpiry s = .next s)
    ∧ (k ≤ s.base.elapsed → s.plant.regime.stoodDown = true → ∃ f, exec .deadlineExpiry s = .next (s.conclude f)
      ∧ f.toPlant = { s.plant with regime := spent } ∧ f.out = [told, flightNow s.base spent .deadline])
    ∧ (k ≤ s.base.elapsed → s.plant.regime.stoodDown = false → ∃ f, exec .deadlineExpiry s = .next (s.conclude f)
      ∧ f.regime.deadline = .expired ∧ down s f
      ∧ ∃ more, f.out = told :: flightNow s.base { spent with stoodDown := true } .deadline :: more))
  ∧ (∀ (v : Base) (g : Fin 4) (f : Flow) (p : Progress), f.regime.progress = some p →
    let x := f.gates.nth g
    let s := f.sluices.nth g
    let gate : Progress := { p with gates := p.gates.put g false }
    let sluice : Progress := { p with sluices := p.sluices.put g false }
    let failed : Option LeftReason := if x.st = .fault then some .fault
      else if x.st = .stopped ∧ (x.hold = true ∨ v.pins.beam.nth g = true) then some .obstructed else none
    (settleGate v g f).out = f.out ∧ (settleSluice g f).out = f.out
    ∧ (p.gates.nth g = false → settleGate v g f = f) ∧ (p.sluices.nth g = false → settleSluice g f = f)
    ∧ (p.gates.nth g = true → x.st = .shut → (settleGate v g f).regime = { f.regime with progress := some gate })
    ∧ (∀ r, p.gates.nth g = true → failed = some r → (settleGate v g f).regime.progress = some gate
      ∧ ⟨false, g, r⟩ ∈ (settleGate v g f).regime.left)
    ∧ (p.gates.nth g = true → x.st ≠ .shut → failed = none → settleGate v g f = f)
    ∧ (p.sluices.nth g = true → s.st = .fault → (settleSluice g f).regime.progress = some sluice
      ∧ ⟨true, g, .fault⟩ ∈ (settleSluice g f).regime.left)
    ∧ (p.sluices.nth g = true → s.st = .steady → s.pos = 0 →
      (settleSluice g f).regime = { f.regime with progress := some sluice })
    ∧ (p.sluices.nth g = true → s.st ≠ .fault → (s.st ≠ .steady ∨ s.pos ≠ 0) → settleSluice g f = f))
  ∧ ∀ (v : Base) (f : Flow) (p : Progress), f.regime.progress = some p → (∀ g, p.gates.nth g = false) →
    (∀ g, p.sluices.nth g = false) →
    (headsAtRest f = true → (followProgress v f).regime = { f.regime with progress := none }
      ∧ (followProgress v f).out = f.out ++ [stoodDownNow v f.regime.left { p with heads := false } false])
    ∧ (headsAtRest f = false → p.heads = true → followProgress v f = f)

/-- Tier 2. The mains input gone puts MAINS in the cause set and starts the closing deadline, at most 120 s with the battery
LOW; its return takes MAINS out and ends the deadline; FLIGHT_STATE is raised first. A battery that turns LOW shortens a
deadline with more than 120 s remaining to 120 s, and leaves any other; BATTERY is raised, and FLIGHT_STATE where it was
shortened (09/R157, R159, R160). The codes of the causes and of the deadline are the model's (log 14). -/
def Obligations.SupplyInputsDriveTheDeadline : Prop :=
  (∀ (s : State), s.powered = true →
    (∀ x, s.plant.regime.mainsPresent = x →
      exec (.mainsInput x) s = .next (s.withPins { s.base.pins with mains := x }))
    ∧ (s.plant.regime.mainsPresent = true → s.plant.regime.mainsCause = false → ∃ f, exec (.mainsInput false) s =
        .next ((s.withPins { s.base.pins with mains := false }).conclude f)
      ∧ f.regime = { s.plant.regime with
          mainsPresent := false, mainsCause := true,
          deadline := .running (s.base.elapsed + if s.plant.regime.batteryLow
            then min (10 * s.base.settings.closingDeadline) 1200 else 10 * s.base.settings.closingDeadline) }
      ∧ OnlyCondition s.plant f.toPlant ∧ f.out.head? = some (flightNow s.base f.regime .mains))
    ∧ (s.plant.regime.mainsPresent = false → ∃ f, exec (.mainsInput true) s =
        .next ((s.withPins { s.base.pins with mains := true }).conclude f)
      ∧ f.regime = { s.plant.regime with mainsPresent := true, mainsCause := false, deadline := .idle }
      ∧ OnlyCondition s.plant f.toPlant ∧ f.out.head? = some (flightNow s.base f.regime .mains)))
  ∧ ∀ (s : State), s.powered = true →
    (∀ x, s.plant.regime.batteryLow = x →
      exec (.batteryInput x) s = .next (s.withPins { s.base.pins with batteryLow := x }))
    ∧ (∀ x, s.plant.regime.batteryLow ≠ x → ∃ f, exec (.batteryInput x) s =
        .next ((s.withPins { s.base.pins with batteryLow := x }).conclude f)
      ∧ f.toPlant = { s.plant with regime := { s.plant.regime with batteryLow := x, deadline := f.regime.deadline } }
      ∧ (∀ k, x = true → s.plant.regime.deadline = .running k → s.base.elapsed + 1200 < k →
        f.regime.deadline = .running (s.base.elapsed + 1200))
      ∧ f.out = reportNow s.base .alarm 0x0E (b1 x ++ f.regime.deadline.bytes s.base.elapsed)
        :: (if f.regime.deadline = s.plant.regime.deadline then [] else [flightNow s.base f.regime .battery])
      ∧ ((x = false ∨ ∀ k, s.plant.regime.deadline = .running k → k ≤ s.base.elapsed + 1200) →
        f.regime.deadline = s.plant.regime.deadline))
end
end

