-- ==== Sys2Proof/Laws/State.lean ====
section
/-! SUPPORT. What each named update of the state and of a flow leaves: one lemma per field and update, true by rfl. -/

namespace Sys2Proof.Machine

variable (s : State) (f : Flow) (rq : Rq) (p q : Port)

/-! ## The queue -/

@[simp] theorem pending_withPending (c : List Instr) : (s.withPending c).pending = c := rfl
@[simp] theorem powered_withPending (c : List Instr) : (s.withPending c).powered = s.powered := rfl
@[simp] theorem nv_withPending (c : List Instr) : (s.withPending c).nv = s.nv := rfl
@[simp] theorem link_withPending (c : List Instr) : (s.withPending c).link = s.link := rfl
@[simp] theorem base_withPending (c : List Instr) : (s.withPending c).base = s.base := rfl
@[simp] theorem plant_withPending (c : List Instr) : (s.withPending c).plant = s.plant := rfl

/-! ## The base -/

@[simp] theorem pending_withSettings (v : Settings) : (s.withSettings v).pending = s.pending := rfl
@[simp] theorem powered_withSettings (v : Settings) : (s.withSettings v).powered = s.powered := rfl
@[simp] theorem nv_withSettings (v : Settings) : (s.withSettings v).nv = s.nv := rfl
@[simp] theorem link_withSettings (v : Settings) : (s.withSettings v).link = s.link := rfl
@[simp] theorem plant_withSettings (v : Settings) : (s.withSettings v).plant = s.plant := rfl
@[simp] theorem base_withSettings (v : Settings) : (s.withSettings v).base = { s.base with settings := v } := rfl

@[simp] theorem pending_withPins (x : Pins) : (s.withPins x).pending = s.pending := rfl
@[simp] theorem powered_withPins (x : Pins) : (s.withPins x).powered = s.powered := rfl
@[simp] theorem nv_withPins (x : Pins) : (s.withPins x).nv = s.nv := rfl
@[simp] theorem link_withPins (x : Pins) : (s.withPins x).link = s.link := rfl
@[simp] theorem plant_withPins (x : Pins) : (s.withPins x).plant = s.plant := rfl
@[simp] theorem base_withPins (x : Pins) : (s.withPins x).base = { s.base with pins := x } := rfl

@[simp] theorem pending_withScanner (x : Scanner) : (s.withScanner x).pending = s.pending := rfl
@[simp] theorem powered_withScanner (x : Scanner) : (s.withScanner x).powered = s.powered := rfl
@[simp] theorem nv_withScanner (x : Scanner) : (s.withScanner x).nv = s.nv := rfl
@[simp] theorem link_withScanner (x : Scanner) : (s.withScanner x).link = s.link := rfl
@[simp] theorem plant_withScanner (x : Scanner) : (s.withScanner x).plant = s.plant := rfl
@[simp] theorem base_withScanner (x : Scanner) : (s.withScanner x).base = { s.base with scanner := x } := rfl

@[simp] theorem pending_updShown (c : Fin 8) (fn : Gauge → Gauge) : (s.updShown c fn).pending = s.pending := rfl
@[simp] theorem powered_updShown (c : Fin 8) (fn : Gauge → Gauge) : (s.updShown c fn).powered = s.powered := rfl
@[simp] theorem nv_updShown (c : Fin 8) (fn : Gauge → Gauge) : (s.updShown c fn).nv = s.nv := rfl
@[simp] theorem link_updShown (c : Fin 8) (fn : Gauge → Gauge) : (s.updShown c fn).link = s.link := rfl
@[simp] theorem plant_updShown (c : Fin 8) (fn : Gauge → Gauge) : (s.updShown c fn).plant = s.plant := rfl
@[simp] theorem base_updShown (c : Fin 8) (fn : Gauge → Gauge) : (s.updShown c fn).base =
    { s.base with scanner := { s.base.scanner with
        gauges := s.base.scanner.gauges.upd c fn, shown := s.base.scanner.shown.upd c fn } } := rfl

@[simp] theorem pending_withBooks (x : Books) : (s.withBooks x).pending = s.pending := rfl
@[simp] theorem powered_withBooks (x : Books) : (s.withBooks x).powered = s.powered := rfl
@[simp] theorem nv_withBooks (x : Books) : (s.withBooks x).nv = s.nv := rfl
@[simp] theorem link_withBooks (x : Books) : (s.withBooks x).link = s.link := rfl
@[simp] theorem plant_withBooks (x : Books) : (s.withBooks x).plant = s.plant := rfl
@[simp] theorem base_withBooks (x : Books) : (s.withBooks x).base = { s.base with books := x } := rfl

/-! ## The ports -/

@[simp] theorem port_setPort_same (l : Link) (r : PortRec) : (l.setPort p r).port p = r := by cases p <;> rfl

theorem port_setPort_other (l : Link) (r : PortRec) (h : p ≠ q) : (l.setPort p r).port q = l.port q := by
  cases p <;> cases q <;> first | rfl | exact absurd rfl h

@[simp] theorem store_setPort (l : Link) (r : PortRec) : (l.setPort p r).store = l.store := by cases p <;> rfl
@[simp] theorem restartDue_setPort (l : Link) (r : PortRec) : (l.setPort p r).restartDue = l.restartDue := by
  cases p <;> rfl
@[simp] theorem settingsDefaulted_setPort (l : Link) (r : PortRec) :
    (l.setPort p r).settingsDefaulted = l.settingsDefaulted := by cases p <;> rfl
@[simp] theorem retainedLost_setPort (l : Link) (r : PortRec) : (l.setPort p r).retainedLost = l.retainedLost := by
  cases p <;> rfl

variable (fn : PortRec → PortRec)

@[simp] theorem pending_updPort : (s.updPort p fn).pending = s.pending := rfl
@[simp] theorem powered_updPort : (s.updPort p fn).powered = s.powered := rfl
@[simp] theorem nv_updPort : (s.updPort p fn).nv = s.nv := rfl
@[simp] theorem base_updPort : (s.updPort p fn).base = s.base := rfl
@[simp] theorem plant_updPort : (s.updPort p fn).plant = s.plant := rfl
@[simp] theorem link_updPort : (s.updPort p fn).link = s.link.setPort p (fn (s.link.port p)) := rfl

variable (kind tag : Nat) (st : Status) (body : List Byte) (a : AfterSent)

@[simp] theorem pending_reply : (s.reply p kind tag st body a).pending = s.pending := rfl
@[simp] theorem powered_reply : (s.reply p kind tag st body a).powered = s.powered := rfl
@[simp] theorem nv_reply : (s.reply p kind tag st body a).nv = s.nv := rfl
@[simp] theorem base_reply : (s.reply p kind tag st body a).base = s.base := rfl
@[simp] theorem plant_reply : (s.reply p kind tag st body a).plant = s.plant := rfl

@[simp] theorem replies_reply : ((s.reply p kind tag st body a).link.port p).replies
    = (s.link.port p).replies ++ [⟨(kind + 0x80) % 256, tag, st.code, body, a⟩] := by cases p <;> rfl

/-! ## The blocks -/

@[simp] theorem pending_deliver : (s.deliver f).pending = s.pending := rfl
@[simp] theorem powered_deliver : (s.deliver f).powered = s.powered := rfl
@[simp] theorem nv_deliver : (s.deliver f).nv = s.nv := rfl
@[simp] theorem base_deliver : (s.deliver f).base = s.base := rfl
@[simp] theorem plant_deliver : (s.deliver f).plant = f.toPlant := rfl
@[simp] theorem link_deliver : (s.deliver f).link = s.link.placeAll f.out := rfl

@[simp] theorem pending_conclude : (s.conclude f).pending = s.pending := pending_deliver s (settle s.base maxRounds f)
@[simp] theorem powered_conclude : (s.conclude f).powered = s.powered := powered_deliver s (settle s.base maxRounds f)
@[simp] theorem nv_conclude : (s.conclude f).nv = s.nv := nv_deliver s (settle s.base maxRounds f)
@[simp] theorem base_conclude : (s.conclude f).base = s.base := base_deliver s (settle s.base maxRounds f)

@[simp] theorem toPlant_flow : s.flow.toPlant = s.plant := rfl
@[simp] theorem out_flow : s.flow.out = [] := rfl
@[simp] theorem opp_flow : s.flow.opp = false := rfl
@[simp] theorem scanEnd_flow : s.flow.scanEnd = false := rfl
@[simp] theorem recheck_flow : s.flow.recheck = Vector.replicate 8 false := rfl

/-! ## The flow of a step: the blocks' state and the reports after each shared operation

A field of the blocks' state in a flow is that field of its `toPlant`, so these few lemmas give every field. -/

@[simp] theorem toPlant_raiseTo (also : Option Port) (v : Base) (c : RClass) (code : Nat) (fields : List Byte) :
    (raiseTo also v c code fields f).toPlant = f.toPlant := rfl
@[simp] theorem out_raiseTo (also : Option Port) (v : Base) (c : RClass) (code : Nat) (fields : List Byte) :
    (raiseTo also v c code fields f).out = f.out ++ [⟨c, u1 code ++ stampBytes v.clock ++ fields, also⟩] := rfl
@[simp] theorem toPlant_raise (v : Base) (c : RClass) (code : Nat) (fields : List Byte) :
    (raise v c code fields f).toPlant = f.toPlant := rfl
@[simp] theorem out_raise (v : Base) (c : RClass) (code : Nat) (fields : List Byte) :
    (raise v c code fields f).out = f.out ++ [⟨c, u1 code ++ stampBytes v.clock ++ fields, none⟩] := rfl

@[simp] theorem toPlant_askOpportunity : (askOpportunity f).toPlant = f.toPlant := rfl
@[simp] theorem out_askOpportunity : (askOpportunity f).out = f.out := rfl
@[simp] theorem opp_askOpportunity : (askOpportunity f).opp = true := rfl
@[simp] theorem toPlant_recheckHeads (hs : List (Fin 8)) : (recheckHeads hs f).toPlant = f.toPlant := rfl
@[simp] theorem out_recheckHeads (hs : List (Fin 8)) : (recheckHeads hs f).out = f.out := rfl

@[simp] theorem toPlant_setGate (g : Fin 4) (xg : Gate → Gate) :
    (setGate g xg f).toPlant = { f.toPlant with gates := f.gates.upd g xg } := by
  simp only [setGate]; split <;> rfl
@[simp] theorem out_setGate (g : Fin 4) (xg : Gate → Gate) : (setGate g xg f).out = f.out := by
  simp only [setGate]; split <;> rfl
@[simp] theorem toPlant_setSluice (g : Fin 4) (xs : Sluice → Sluice) :
    (setSluice g xs f).toPlant = { f.toPlant with sluices := f.sluices.upd g xs } := rfl
@[simp] theorem out_setSluice (g : Fin 4) (xs : Sluice → Sluice) : (setSluice g xs f).out = f.out := rfl
@[simp] theorem toPlant_setChannel (g : Fin 4) (xc : Channel → Channel) :
    (setChannel g xc f).toPlant = { f.toPlant with channels := f.channels.upd g xc } := rfl
@[simp] theorem out_setChannel (g : Fin 4) (xc : Channel → Channel) : (setChannel g xc f).out = f.out := rfl
@[simp] theorem toPlant_setHead (h : Fin 8) (xh : Head → Head) :
    (setHead h xh f).toPlant = { f.toPlant with heads := f.heads.upd h xh } := rfl
@[simp] theorem out_setHead (h : Fin 8) (xh : Head → Head) : (setHead h xh f).out = f.out := rfl
@[simp] theorem toPlant_setSched (xd : Scheduler → Scheduler) :
    (setSched xd f).toPlant = { f.toPlant with sched := xd f.sched } := rfl
@[simp] theorem out_setSched (xd : Scheduler → Scheduler) : (setSched xd f).out = f.out := rfl
@[simp] theorem toPlant_setRegime (xr : Regime → Regime) :
    (setRegime xr f).toPlant = { f.toPlant with regime := xr f.regime } := rfl
@[simp] theorem out_setRegime (xr : Regime → Regime) : (setRegime xr f).out = f.out := rfl
@[simp] theorem toPlant_setBatch (n : Nat) (xb : Batch → Batch) :
    (setBatch n xb f).toPlant = { f.toPlant with batches := f.batches.map fun b => if b.id = n then xb b else b } := rfl
@[simp] theorem out_setBatch (n : Nat) (xb : Batch → Batch) : (setBatch n xb f).out = f.out := rfl
@[simp] theorem toPlant_setPassage (n : Nat) (xp : Passage → Passage) :
    (setPassage n xp f).toPlant = { f.toPlant with passages := f.passages.map fun p => if p.number = n then xp p else p } := rfl
@[simp] theorem out_setPassage (n : Nat) (xp : Passage → Passage) : (setPassage n xp f).out = f.out := rfl
@[simp] theorem toPlant_setAccount (n : Nat) (xa : Account → Account) :
    (setAccount n xa f).toPlant = { f.toPlant with accounts := f.accounts.map fun a => if a.id = n then xa a else a } := rfl
@[simp] theorem out_setAccount (n : Nat) (xa : Account → Account) : (setAccount n xa f).out = f.out := rfl

@[simp] theorem overAll_nil {α : Type} (act : α → Flow → Flow) : overAll [] act f = f := rfl
@[simp] theorem overAll_cons {α : Type} (x : α) (xs : List α) (act : α → Flow → Flow) :
    overAll (x :: xs) act f = overAll xs act (act x f) := rfl

/-! ## The drives (log 31) -/

variable (g : Fin 4)

@[simp] theorem gateOpen_drives : s.drives.gateOpen.nth g = (s.powered && (s.plant.gates.nth g).openDrive) := by
  simp [State.drives, Tbl.nth]
@[simp] theorem gateClose_drives : s.drives.gateClose.nth g = (s.powered && (s.plant.gates.nth g).closeDrive) := by
  simp [State.drives, Tbl.nth]
@[simp] theorem sluiceRaise_drives : s.drives.sluiceRaise.nth g = (s.powered && (s.plant.sluices.nth g).raiseDrive) := by
  simp [State.drives, Tbl.nth]
@[simp] theorem sluiceLower_drives : s.drives.sluiceLower.nth g = (s.powered && (s.plant.sluices.nth g).lowerDrive) := by
  simp [State.drives, Tbl.nth]

/-- No gate drives both ways, and no sluice. -/
theorem drives_oneWay (x : Gate) (y : Sluice) :
    (x.openDrive && x.closeDrive) = false ∧ (y.raiseDrive && y.lowerDrive) = false := by
  constructor
  · unfold Gate.openDrive Gate.closeDrive
    cases x.st <;> rfl
  · unfold Sluice.raiseDrive Sluice.lowerDrive
    cases y.st <;> simp
    omega

end Sys2Proof.Machine
end

