-- ==== Sys2Proof/Laws/Blocks.lean ====
section
/-! SUPPORT. What the operations that several blocks share can do: the owner of a gate, a levelling whose sluice refuses
its command, a preparation that failed, a batch's own levelling, the step timer, a stray mark, a step that waits. -/

namespace Sys2Proof.Machine

variable (v : Base) (f : Flow) (g : Fin 4)

/-! ## The owner of a gate (02/R23) -/

theorem gateReport_one : ∃ r, (gateReport v g f).out = f.out ++ [r] ∧ (gateReport v g f).toPlant = f.toPlant :=
  ⟨_, rfl, rfl⟩

@[simp] theorem toPlant_setOwner (o : Owner) :
    (setOwner g o f).toPlant = { f.toPlant with gates := f.gates.upd g fun x => { x with owner := o } } := by
  simp [setOwner]

@[simp] theorem out_setOwner (o : Owner) : (setOwner g o f).out = f.out := by simp [setOwner]

/-- The owner stands already, or it is set and one report tells of it. -/
theorem ownGate_cases (o : Owner) :
    ((f.gates.nth g).owner = o ∧ ownGate v g o f = f)
      ∨ ((f.gates.nth g).owner ≠ o ∧ ownGate v g o f = gateReport v g (setOwner g o f)) := by
  by_cases h : (f.gates.nth g).owner = o
  · exact .inl ⟨h, by simp [ownGate, h]⟩
  · exact .inr ⟨h, by simp [ownGate, h]⟩

/-- Either way the gate has the owner. -/
theorem owner_ownGate (o : Owner) : ((ownGate v g o f).gates.nth g).owner = o := by
  obtain ⟨h, e⟩ | ⟨-, e⟩ := ownGate_cases v f g o
  · rw [e]; exact h
  · have k : (gateReport v g (setOwner g o f)).toPlant = (setOwner g o f).toPlant := rfl
    rw [e, k, toPlant_setOwner]
    simp

/-- A gate that a batch owns is released, and every other stands. -/
theorem releaseGate_cases (b : Nat) :
    ((f.gates.nth g).owner = .batch b ∧ releaseGate v b g f = gateReport v g (setOwner g .none f))
      ∨ ((f.gates.nth g).owner ≠ .batch b ∧ releaseGate v b g f = f) := by
  by_cases h : (f.gates.nth g).owner = .batch b
  · exact .inl ⟨h, by simp [releaseGate, ownGate, h]⟩
  · exact .inr ⟨h, by simp [releaseGate, h]⟩

/-- A gate that a batch owns goes to the keeper, and every other stands. -/
theorem yieldGate_cases (b : Nat) :
    ((f.gates.nth g).owner = .batch b ∧ yieldGate v b g f = gateReport v g (setOwner g .keeper f))
      ∨ ((f.gates.nth g).owner ≠ .batch b ∧ yieldGate v b g f = f) := by
  by_cases h : (f.gates.nth g).owner = .batch b
  · exact .inl ⟨h, by simp [yieldGate, ownGate, h]⟩
  · exact .inr ⟨h, by simp [yieldGate, h]⟩

/-! ## Levellings and preparations -/

/-- 03/R58: a levelling whose sluice is in FAULT fails with cause SLUICE, and every other stands. -/
theorem failRefused_cases :
    ((f.sluices.nth g).st = .fault ∧ (f.channels.nth g).st ≠ .idle ∧ (f.channels.nth g).st ≠ .failed
        ∧ failRefused v g f = failChannel v g .sluice f)
      ∨ failRefused v g f = f := by
  by_cases h : (f.sluices.nth g).st = .fault ∧ (f.channels.nth g).st ≠ .idle ∧ (f.channels.nth g).st ≠ .failed
  · exact .inl ⟨h.1, h.2.1, h.2.2, by simp [failRefused, h]⟩
  · exact .inr (by simp only [failRefused]; exact if_neg h)

/-- 06/R105, R110: a failed levelling of the Scheduler's is cancelled and recorded, and every other stands. -/
theorem followFailed_cases :
    ((f.channels.nth f.sched.dir.entryGate).st = .failed ∧ preparesEntry f.toPlant = true
        ∧ followFailed v f = setSched (fun s => { s with
            prep := .failed f.sched.dir.entryGate ((f.channels.nth f.sched.dir.entryGate).req == some .turn) v.elapsed })
          (cancelChannel v f.sched.dir.entryGate f))
      ∨ followFailed v f = f := by
  by_cases h : (f.channels.nth f.sched.dir.entryGate).st = .failed ∧ preparesEntry f.toPlant = true
  · exact .inl ⟨h.1, h.2, by simp only [followFailed]; exact if_pos h⟩
  · exact .inr (by simp only [followFailed]; exact if_neg h)

/-- 07/R124: the taken levelling stands in the batch's record, or nothing is recorded. -/
theorem askOwn_cases (b : Batch) (p : Purpose) :
    (∃ why, requestLevelling v g p f = (.refused why, askOwn v b g p f))
      ∨ (∃ k, requestLevelling v g p f = (.taken, k)
        ∧ askOwn v b g p f = setBatch b.id (fun b => { b with own := some (g, p) })
          (if b.own = some (g, p) then k else cancelOwn v b k)) := by
  unfold askOwn
  rcases h : requestLevelling v g p f with ⟨a, k⟩
  cases a
  · exact .inl ⟨_, rfl⟩
  · exact .inr ⟨k, rfl, rfl⟩

/-! ## Grants, movements and the log room -/

/-- 02/R40: a request for a grant finds it held, finds the channel waiting, is granted, or joins the waiting list. -/
theorem requestGrant_cases :
    (f.grants.nth g = true ∧ requestGrant g f = (true, f))
      ∨ (f.grants.nth g = false ∧ g ∈ f.waiting ∧ requestGrant g f = (false, f))
      ∨ (f.grants.nth g = false ∧ g ∉ f.waiting ∧ grantable f g = true ∧ (∀ a ∈ f.waiting, sharesBody a g = false)
        ∧ requestGrant g f = (true, { f with grants := f.grants.put g true }))
      ∨ (f.grants.nth g = false ∧ g ∉ f.waiting ∧ ¬ (grantable f g = true ∧ ∀ a ∈ f.waiting, sharesBody a g = false)
        ∧ requestGrant g f = (false, { f with waiting := f.waiting ++ [g] })) := by
  by_cases h : f.grants.nth g = true
  · exact .inl ⟨h, by simp [requestGrant, h]⟩
  · have h : f.grants.nth g = false := by simpa using h
    by_cases w : g ∈ f.waiting
    · exact .inr (.inl ⟨h, w, by simp [requestGrant, h, w]⟩)
    · by_cases c : grantable f g = true ∧ ∀ a ∈ f.waiting, sharesBody a g = false
      · exact .inr (.inr (.inl ⟨h, w, c.1, c.2, by simp [requestGrant, h, w, c.1]; exact c.2⟩))
      · refine .inr (.inr (.inr ⟨h, w, c, ?_⟩))
        have n : (grantable f g && !(f.waiting.any fun a => sharesBody a g)) = false := by
          rw [← Bool.not_eq_true]
          simpa using c
        simp [requestGrant, h, w, n]

/-- 02/R30: a closing that begins, or resumes, keeps the travel time limit. -/
theorem limit_startClosing : ((startClosing v g f).gates.nth g).limit = (f.gates.nth g).limit := by
  have k : (startClosing v g f).toPlant = (setGate g (fun x => { x with
      st := .closing, travel := some v.elapsed, beamClear := none, ask := none }) f).toPlant := rfl
  rw [k]
  simp

/-- 03/R50: what the step timer of a channel follows, and that nothing else changes with it. -/
theorem toPlant_followStep : (followStep v g f).toPlant = { f.toPlant with channels := f.channels.upd g fun c => { c with
    reached := hasReached f g
    stepT := if (f.channels.nth g).st == .running && hasReached f g && headUsable v g (f.channels.nth g).req
        && (f.channels.nth g).far then some ((f.channels.nth g).stepT.getD v.elapsed) else none } } := rfl

/-- 03/R45, R50: an expiry of the step timer within the near band now set changes the channel alone. -/
theorem raiseStep_within (h : aboveBand v g = false) :
    raiseStep v g f = setChannel g (fun c => { c with stepT := none, far := false }) f := by simp [raiseStep, h]

/-- 03/R50, R51: one above the near band raises the command, or at the maximum leaves it, and restarts the timer. -/
theorem raiseStep_above (h : aboveBand v g = true) :
    let t := setChannel g (fun c => { c with stepT := some v.elapsed, far := true }) f
    raiseStep v g f =
      if (f.channels.nth g).cmd < t.toPlant.maxPosition g then channelCommand v g ((f.channels.nth g).cmd + 1) t else t := by
  intro t
  have k : raiseStep v g f =
      if true = true ∧ (f.channels.nth g).cmd < t.toPlant.maxPosition g then channelCommand v g ((f.channels.nth g).cmd + 1) t
      else t := by simp only [raiseStep, h]; rfl
  rw [k]
  exact if_congr (by simp) rfl rfl

/-- 04/R73, R76: a stray mark changes the head that carries it, and raises one report. -/
theorem toPlant_markStray (h : Fin 8) (l : Lamp) :
    (markStray v h l f).toPlant = { f.toPlant with heads := f.heads.upd h (Head.marked l) } := rfl

/-- 07/R121, R125: while another owns a gate that is not SHUT, a batch whose step opens it waits. -/
theorem workOpening_waits {b : Batch} {h : Fin 8} (r : openRefused f.toPlant b b.ahead = true)
    (n : (f.gates.nth b.ahead).st ≠ .shut) : workOpening v b h f = f := by
  unfold workOpening
  cases k : (f.gates.nth b.ahead).st <;> simp_all

/-- 06/R101: the short mark is cleared with LOG_FULL, or everything stands. -/
theorem followLogRoom_cases :
    (f.sched.short = true ∧ logRoom v f.toPlant 1 = true
        ∧ (followLogRoom v f).toPlant = { f.toPlant with sched := { f.sched with short := false } })
      ∨ followLogRoom v f = f := by
  by_cases h : f.sched.short = true ∧ logRoom v f.toPlant 1 = true
  · exact .inl ⟨h.1, h.2, by rw [followLogRoom, if_pos h]; rfl⟩
  · exact .inr (by rw [followLogRoom, if_neg h])

end Sys2Proof.Machine
end

