-- ==== Sys2Proof/Laws/Ops.lean ====
section
/-! SUPPORT. What the shared operations do: placing reports, handing a flow back, answering a request. -/

namespace Sys2Proof.Machine

/-! ## Reports on the ports (10/R176) -/

theorem dropNonAlarm_length {rs out : List Report} (h : dropNonAlarm rs = some out) : out.length + 1 = rs.length := by
  induction rs generalizing out with
  | nil => simp [dropNonAlarm] at h
  | cons r rest ih =>
    simp only [dropNonAlarm] at h
    split at h
    · cases hd : dropNonAlarm rest with
      | none => simp [hd] at h
      | some x =>
        simp only [hd, Option.map_some, Option.some.injEq] at h
        subst h
        simpa using ih hd
    · simp only [Option.some.injEq] at h
      subst h
      simp

/-- A queue that is within its bound stays within it. -/
theorem queue_bounded {k : PortRec} {r : Report} (h : k.reports.length ≤ Config.maxReports) :
    (k.queue r).reports.length ≤ Config.maxReports := by
  unfold PortRec.queue
  split
  · simp; omega
  · split
    · exact h
    · split
      · next hd => have := dropNonAlarm_length hd; simp; omega
      · exact h

theorem queue_sameLine (k : PortRec) (r : Report) : SameLine k (k.queue r) := by
  unfold PortRec.queue SameLine
  (repeat' split) <;> simp

theorem SameLine.refl (k : PortRec) : SameLine k k := by simp [SameLine]

theorem SameLine.trans {i j k : PortRec} (a : SameLine i j) (b : SameLine j k) : SameLine i k := by
  simp only [SameLine] at *
  grind

/-- One report changes nothing of the lines but the reports that wait. -/
theorem place_keeps (l : Link) (r : Report) :
    SameLine l.console (l.place r).console ∧ SameLine l.network (l.place r).network
      ∧ (l.place r).store = l.store ∧ (l.place r).restartDue = l.restartDue
      ∧ (l.place r).settingsDefaulted = l.settingsDefaulted ∧ (l.place r).retainedLost = l.retainedLost := by
  refine ⟨?_, ?_, rfl, rfl, rfl, rfl⟩ <;>
  · simp only [Link.place]
    split
    · exact queue_sameLine _ _
    · exact SameLine.refl _

theorem placeAll_keeps (rs : List Report) (l : Link) :
    SameLine l.console (l.placeAll rs).console ∧ SameLine l.network (l.placeAll rs).network
      ∧ (l.placeAll rs).store = l.store ∧ (l.placeAll rs).restartDue = l.restartDue
      ∧ (l.placeAll rs).settingsDefaulted = l.settingsDefaulted ∧ (l.placeAll rs).retainedLost = l.retainedLost := by
  induction rs generalizing l with
  | nil => exact ⟨SameLine.refl _, SameLine.refl _, rfl, rfl, rfl, rfl⟩
  | cons r rest ih =>
    have a := place_keeps l r
    have b := ih (l.place r)
    simp only [Link.placeAll, List.foldl_cons] at b ⊢
    exact ⟨a.1.trans b.1, a.2.1.trans b.2.1, b.2.2.1.trans a.2.2.1, b.2.2.2.1.trans a.2.2.2.1,
      b.2.2.2.2.1.trans a.2.2.2.2.1, b.2.2.2.2.2.trans a.2.2.2.2.2⟩

/-- The lines of a port after reports were placed. -/
theorem placeAll_port (rs : List Report) (l : Link) (p : Port) : SameLine (l.port p) ((l.placeAll rs).port p) := by
  cases p
  · exact (placeAll_keeps rs l).1
  · exact (placeAll_keeps rs l).2.1

theorem place_bounded {l : Link} (r : Report) (h : l.console.bounded ∧ l.network.bounded) :
    (l.place r).console.bounded ∧ (l.place r).network.bounded := by
  have one (k : PortRec) (hk : k.bounded) : (k.queue r).bounded := by
    have e := queue_sameLine k r
    exact ⟨e.2.2.1 ▸ hk.1, e.2.2.2.1 ▸ hk.2.1, queue_bounded hk.2.2⟩
  constructor <;>
  · simp only [Link.place]
    split
    · first | exact one _ h.1 | exact one _ h.2
    · first | exact h.1 | exact h.2

theorem placeAll_bounded {l : Link} (rs : List Report) (h : l.console.bounded ∧ l.network.bounded) :
    (l.placeAll rs).console.bounded ∧ (l.placeAll rs).network.bounded := by
  induction rs generalizing l with
  | nil => exact h
  | cons r rest ih => exact ih (place_bounded r h)

/-! ## The flow handed back -/

theorem sameLink_refl (s : State) : SameLink s s := by simp [SameLink, SameLine]

/-- What a step hands back changes nothing of the supply and the lines but the reports that wait. -/
theorem deliver_sameLink (s : State) (f : Flow) : SameLink s (s.deliver f) := by
  have h := placeAll_keeps f.out s.link
  exact ⟨rfl, rfl, rfl, h.1, h.2.1, h.2.2.1, h.2.2.2.1, h.2.2.2.2.1, h.2.2.2.2.2⟩

theorem conclude_sameLink (s : State) (f : Flow) : SameLink s (s.conclude f) :=
  deliver_sameLink s (settle s.base maxRounds f)

theorem deliver_bounded {s : State} (f : Flow) (h : LinesBounded s) : LinesBounded (s.deliver f) :=
  placeAll_bounded f.out h

theorem conclude_bounded {s : State} (f : Flow) (h : LinesBounded s) : LinesBounded (s.conclude f) :=
  deliver_bounded (settle s.base maxRounds f) h

/-- The replies of a port are those before the step. -/
theorem replies_deliver (s : State) (f : Flow) (p : Port) :
    ((s.deliver f).link.port p).replies = (s.link.port p).replies := (placeAll_port f.out s.link p).2.2.2.1

/-- The replies of a port are those before the step. -/
theorem replies_conclude (s : State) (f : Flow) (p : Port) :
    ((s.conclude f).link.port p).replies = (s.link.port p).replies := replies_deliver s (settle s.base maxRounds f) p

/-! ## Requests (10/R173) -/

/-- A request the port does not take has no effect. -/
theorem serve_not_taken {rq : Rq} {kind required : Nat} {act : State → Answer} {s : State}
    (h : s.takes rq.port = false) : serve rq kind required act s = s := by simp [serve, h]

/-- An admitted request is handed to its block, whose answer joins the reply line. -/
theorem serve_admitted {rq : Rq} {kind required : Nat} {act : State → Answer} {s : State} (h : Admitted s rq required) :
    serve rq kind required act s =
      match (act s).said with
      | some (st, body) => (act s).state.reply rq.port kind rq.tag st body (act s).after
      | none => (act s).state := by
  obtain ⟨a, b, c⟩ := h
  cases e : (act s).said <;> simp [serve, a, Nat.not_lt.mpr b, Nat.not_lt.mpr c, e]

/-- The answer of a block that accepts. -/
theorem serve_accept {rq : Rq} {kind required : Nat} {act : State → Answer} {s t : State} {body : List Byte}
    (h : Admitted s rq required) (e : act s = accept t body) :
    serve rq kind required act s = t.ok rq kind body := by
  simp [serve_admitted h, e, accept, State.ok]

/-- The answer of a block that refuses. -/
theorem serve_refuse {rq : Rq} {kind required : Nat} {act : State → Answer} {s : State} {st : Status} {body : List Byte}
    (h : Admitted s rq required) (e : act s = ⟨s, some (st, body), .nothing⟩) :
    serve rq kind required act s = s.no rq kind st body := by
  simp [serve_admitted h, e, State.no]

/-- A level byte above 2 is refused. -/
theorem serve_bad_level {rq : Rq} {kind required : Nat} {act : State → Answer} {s : State}
    (h : s.takes rq.port = true) (c : 2 < rq.claimed) :
    serve rq kind required act s = s.no rq kind .badField (u1 0) := by
  simp [serve, h, c, State.no]

/-- A level that does not allow the kind is denied. -/
theorem serve_denied {rq : Rq} {kind required : Nat} {act : State → Answer} {s : State}
    (h : s.takes rq.port = true) (c : rq.claimed ≤ 2) (d : required < effectiveLevel s rq) :
    serve rq kind required act s = s.no rq kind .denied [] := by
  simp [serve, h, Nat.not_lt.mpr c, d, State.no]

end Sys2Proof.Machine
end

