-- ==== Sys2Proof/Laws/Settings.lean ====
section
/-! SUPPORT. What writing one setting does to every setting, and what taking a new setting does to the rest of the
part (10/R178). -/

namespace Sys2Proof.Machine

/-- An admitted value lies in the range of its setting. -/
theorem admits_range {k : Setting} {x : Int} (h : k.admits x = true) : k.range.1 ≤ x ∧ x ≤ k.range.2 := by
  unfold Setting.admits at h
  exact of_decide_eq_true (Bool.and_eq_true_iff.mp h).1

/-- An admitted value written is the value read. -/
theorem value_write_same (v : Settings) (k : Setting) (x : Int) (h : k.admits x = true) : (v.write k x).value k = x := by
  have r := admits_range h
  cases k <;> simp only [Setting.range] at r <;> simp only [Settings.write, Settings.value, Tbl.nth_put_same] <;>
    first
    | omega
    | (obtain rfl | rfl : x = 0 ∨ x = 1 := by omega
       all_goals rfl)

/-- Every other setting reads as before. -/
theorem value_write_other (v : Settings) (k j : Setting) (x : Int) (h : j ≠ k) :
    (v.write k x).value j = v.value j := by
  cases k <;> cases j <;> first
    | rfl
    | (simp only [Settings.write, Settings.value]; rw [Tbl.nth_put_other]; intro e; apply h; rw [e])
    | (exact absurd rfl h)

/-- The tariff table is written by TARIFF_SET alone. -/
@[simp] theorem tariff_write (v : Settings) (k : Setting) (x : Int) : (v.write k x).tariff = v.tariff := by
  cases k <;> rfl

/-- What a new setting does at once leaves the base but the scanner, and the lines but the reports that wait. -/
theorem settingTaken_keeps (s : State) (k : Setting) :
    ∃ x, (s.settingTaken k).base = { s.base with scanner := x } ∧ SameLink s (s.settingTaken k) := by
  unfold State.settingTaken
  split
  · exact ⟨_, rfl, deliver_sameLink _ _⟩
  · exact ⟨_, rfl, deliver_sameLink _ _⟩
  · exact ⟨_, base_conclude _ _, conclude_sameLink _ _⟩
  · exact ⟨_, base_conclude _ _, conclude_sameLink _ _⟩
  · exact ⟨_, base_conclude _ _, conclude_sameLink _ _⟩
  · exact ⟨_, rfl, sameLink_refl _⟩

end Sys2Proof.Machine
end

