-- ==== Sys2Proof/WellFormed.lean ====
section
/-! DEFINITION. Which commands a frame or a pin can spell: every field fits the width its frame gives it
(spec 11, sections 11.1 and 11.3), and a sample fits the 12 bits of its gauge channel (spec 00, "Pin groups"; 01/R1).
A command that is not well formed has a meaning all the same; no port or pin can send it. -/

namespace Sys2Proof

/-- The value fits an unsigned field of `k` bytes. -/
def fitsU (k : Nat) (x : Nat) : Bool := decide (x < 256 ^ k)

/-- The value fits a signed field of `k` bytes (11/R181: two's complement). -/
def fitsS (k : Nat) (x : Int) : Bool := decide (-(256 ^ k : Int) ≤ 2 * x ∧ 2 * x < (256 ^ k : Int))

/-- The level byte and the tag of a request frame. -/
def Rq.wf (rq : Rq) : Bool := fitsU 1 rq.claimed && fitsU 1 rq.tag

/-- The widths of the PASS_REQUEST fields (11, section 11.3). -/
def Declaration.wf (d : Declaration) : Bool :=
  decide (d.mark.length = 8) && fitsU 1 d.direction && fitsU 2 d.length && fitsU 2 d.beam && fitsU 2 d.draught
    && fitsU 2 d.tonnes && fitsU 1 d.cls && fitsU 1 d.payment && fitsU 1 d.priority

/-- The widths of the PASS_QUERY key (11, section 11.3). -/
def PassKey.wf : PassKey → Bool
  | .number n => fitsU 4 n
  | .hull mark => decide (mark.length = 8)

/-- The command can be spelt by a frame or a pin. -/
def WellFormed : Instr → Bool
  | .powerOn _ | .warmStart | .powerLoss => true
  | .receiveByte _ _ | .framingErrorByte _ | .frameGapTimeout _ | .frameTaken _ | .transmitterFree _ => true
  | .status rq | .settingsStore rq | .restart rq | .levels rq | .gates rq | .levellingStatus rq | .signals rq
  | .schedulerStatus rq | .batches rq | .periodClose rq | .flightStatus rq | .flightClose rq | .flightOpen rq
  | .standdown rq | .resume rq => rq.wf
  | .subscribe rq x | .netLevel rq x | .gaugeSubstWithdrawal rq x | .calCommit rq x | .gateCmdOpen rq x
  | .gateCmdForceOpen rq x | .gateCmdClose rq x | .gateCmdReset rq x | .gateCmdRelease rq x | .sluiceCmdReset rq x
  | .levelCmdStart rq x | .levelCmdCancel rq x | .headCmdRelease rq x | .regime rq x | .waved rq x
  | .tariffGet rq x | .accountQuery rq x | .logRead rq x | .mode rq x => rq.wf && fitsU 1 x
  | .settingGet rq x => rq.wf && fitsU 2 x
  | .settingSet rq x v => rq.wf && fitsU 2 x && fitsS 4 v
  | .settingsStoreDone => true
  | .clockSet rq h m s d => rq.wf && fitsU 1 h && fitsU 1 m && fitsU 1 s && fitsU 2 d
  | .scan codes => codes.toList.all fun x => decide (x < 4096)
  | .floodCleared | .calCaptured _ => true
  | .gaugeSubst rq c l => rq.wf && fitsU 1 c && fitsS 2 l
  | .calPoint rq c i y => rq.wf && fitsU 1 c && fitsU 1 i && fitsS 2 y
  | .gateLimitInput _ _ _ | .beamInput _ _ | .beamClearExpiry _ | .travelTimeout _ | .sluicePositionInput _ _
  | .sluiceStepTimeout _ | .intervalMet _ | .stepTimerExpiry _ | .levellingComplete _ | .levellingTimeLimit _
  | .suspensionTimeout _ | .clearanceMarginExpiry _ | .lampFail _ _ | .lampCurrentInput _ _ _ | .lampStray _ _ => true
  | .sluiceCmdPosition rq x y | .lampReset rq x y | .headCmdAspect rq x y | .queueList rq x y
  | .confirm rq x y => rq.wf && fitsU 1 x && fitsU 1 y
  | .passRequest rq d => rq.wf && d.wf
  | .passWithdraw rq n | .berthed rq n | .missed rq n | .cleared rq n | .eject rq n | .remove rq n =>
      rq.wf && fitsU 4 n
  | .passQuery rq key => rq.wf && key.wf
  | .idleHoldExpiry | .preparationRetryExpiry | .drawLeavesWindow | .drawEntryExpiry => true
  | .entryBerthExpiry b | .shiftBerthExpiry b | .overdueRepeat b => fitsU 1 b
  | .tariffSet rq c b m t mn => rq.wf && fitsU 1 c && fitsU 4 b && fitsU 2 m && fitsU 2 t && fitsU 4 mn
  | .hullQuery rq mark => rq.wf && decide (mark.length = 8)
  | .accountSet rq i p st l => rq.wf && fitsU 1 i && fitsU 1 p && fitsU 1 st && fitsU 4 l
  | .accountCredit rq i a => rq.wf && fitsU 1 i && fitsU 4 a
  | .logDrop rq n o => rq.wf && fitsU 2 n && (match o with | none => true | some k => fitsU 4 k)
  | .mainsInput _ | .batteryInput _ | .deadlineExpiry => true

end Sys2Proof
end

