-- ==== Sys2Proof/Tests/Slice0.lean ====
section
/-! SUPPORT. Small checks of the model on fixed values: the form checks, reset, the worked cases of the spec, one step of
commands, and, for each statement with hypotheses, states that meet them, clause by clause. -/

namespace Sys2Proof.Tests

set_option Elab.async false

open Sys2Proof Sys2Proof.Machine

/-! ## Small states -/

/-- The keeper's request on the console port. -/
def kp : Rq := ⟨.console, 0, 7⟩

/-- A public request on the network port. -/
def pub : Rq := ⟨.network, 2, 9⟩

def onPlant (fn : Plant → Plant) (s : State) : State := { s with plant := fn s.plant }
def onBase (fn : Base → Base) (s : State) : State := { s with base := fn s.base }
def onLink (fn : Link → Link) (s : State) : State := { s with link := fn s.link }
def onGate (g : Fin 4) (fn : Gate → Gate) : State → State := onPlant fun p => { p with gates := p.gates.upd g fn }
def onSluice (g : Fin 4) (fn : Sluice → Sluice) : State → State :=
  onPlant fun p => { p with sluices := p.sluices.upd g fn }
def onChan (g : Fin 4) (fn : Channel → Channel) : State → State :=
  onPlant fun p => { p with channels := p.channels.upd g fn }
def onHead (h : Fin 8) (fn : Head → Head) : State → State := onPlant fun p => { p with heads := p.heads.upd h fn }
def onRegime (fn : Regime → Regime) : State → State := onPlant fun p => { p with regime := fn p.regime }
def onSched (fn : Scheduler → Scheduler) : State → State := onPlant fun p => { p with sched := fn p.sched }
def onGauge (c : Fin 8) (fn : Gauge → Gauge) : State → State :=
  onBase fun v => { v with scanner := { v.scanner with gauges := v.scanner.gauges.upd c fn } }
def at_ (t : Nat) : State → State := onBase fun v => { v with elapsed := t }
def off (s : State) : State := { s with powered := false }
def manual : State → State := onRegime fun r => { r with mode := .manual }
def running : State → State := onRegime fun r => { r with stoodDown := false }

/-- Reset, with every level at 2000 mm and every head 0. -/
def level : State := onBase (fun v => { v with scanner := { v.scanner with
  bodies := Vector.replicate 5 ⟨some 2000, .good, some 2000, false, false⟩
  heads := Vector.replicate 4 ⟨some 0, true, true, .none⟩ } }) State.reset

/-- The hull mark BARGE001. -/
def mark1 : List Byte := [66, 65, 82, 71, 69, 48, 48, 49]

/-- A declaration that fits. -/
def decl : Declaration := ⟨mark1, 0, 800, 100, 1200, 900, 2, 0, 0⟩

/-- An open passage in a state, with a batch. -/
def pass (n : Nat) (st : PassSt) (batch : Option Nat) (pay : Option Nat) : Passage :=
  { passageFrom decl n Clock.reset .console .up 2 pay with st := st, batch := batch, chamber := batch.map fun _ => 1 }

/-- Batch 1, upbound in chamber 1, with one member in a step. -/
def batch1 (st : Step) : Batch where
  id := 1
  dir := .up
  members := [⟨1, false⟩]
  chamber := some 1
  target := none
  step := st
  heldStep := none
  causes := HeldCauses.none
  stepStart := 0
  berth := ⟨0, some 0⟩
  overdue := none
  waved := false
  frozen := false
  own := none

/-- Reset with one passage, in batch 1 or alone. -/
def with1 (st : PassSt) : State :=
  onPlant (fun p => { p with passages := [pass 1 st none none], nextPassage := 2 }) State.reset
def inBatch (st : PassSt) (step : Step) : State := onPlant (fun p =>
  { p with passages := [pass 1 st (some 1) none], nextPassage := 2, batches := [batch1 step] }) State.reset

/-- Account 5, with 1000 cents. -/
def acc : Account := ⟨5, false, 1000, 0, 0, 0⟩
def withAcc : State := onPlant (fun p => { p with accounts := [acc] }) State.reset

/-- A log of two records. -/
def withLog : State := onBase (fun v => { v with books := { v.books with
  log := [logRecord (pass 1 .leaving none none) 10 false Clock.reset,
          logRecord (pass 2 .leaving none none) 20 false Clock.reset] } }) State.reset

/-- The state after one command. -/
def after (c : Instr) (s : State) : State :=
  match exec c s with
  | .next t => t
  | _ => s

/-- The status and body of the last reply on the console. -/
def said (s : State) : Option (Nat × List Nat) :=
  s.link.console.replies.getLast?.map fun o => (o.status, o.body.map (·.toNat))

/-! ## Form: an ill-formed command for each check -/

theorem test_wf_level : WellFormed (.status ⟨.console, 256, 0⟩) = false := by decide
theorem test_wf_tag : WellFormed (.status ⟨.console, 0, 256⟩) = false := by decide
theorem test_wf_byteField : WellFormed (.gateCmdOpen kp 256) = false := by decide
theorem test_wf_identifier : WellFormed (.settingGet kp 65536) = false := by decide
theorem test_wf_value : WellFormed (.settingSet kp 0x0120 2147483648) = false := by decide
theorem test_wf_clock : WellFormed (.clockSet kp 0 0 0 65536) = false := by decide
theorem test_wf_sample : WellFormed (.scan (Vector.replicate 8 4096)) = false := by decide
theorem test_wf_subst : WellFormed (.gaugeSubst kp 0 32768) = false := by decide
theorem test_wf_staff : WellFormed (.calPoint kp 0 1 (-32769)) = false := by decide
theorem test_wf_twoBytes : WellFormed (.confirm kp 1 256) = false := by decide
theorem test_wf_declaration : WellFormed (.passRequest kp { decl with mark := [65] }) = false := by decide
theorem test_wf_number : WellFormed (.cleared kp 4294967296) = false := by decide
theorem test_wf_key : WellFormed (.passQuery kp (.hull [])) = false := by decide
theorem test_wf_batch : WellFormed (.overdueRepeat 256) = false := by decide
theorem test_wf_tariff : WellFormed (.tariffSet kp 0 0 65536 0 0) = false := by decide
theorem test_wf_hull : WellFormed (.hullQuery kp []) = false := by decide
theorem test_wf_account : WellFormed (.accountSet kp 1 3 0 4294967296) = false := by decide
theorem test_wf_credit : WellFormed (.accountCredit kp 1 4294967296) = false := by decide
theorem test_wf_drop : WellFormed (.logDrop kp 1 (some 4294967296)) = false := by decide
theorem test_wf_good : WellFormed (.passRequest kp decl) = true := by decide

/-! ## Reset, and the worked cases of the spec -/

/-- Reset is a power-on of a part with nothing kept. -/
theorem test_reset_isPowerOn : State.reset.start true false = State.reset := by decide +kernel

/-- 08, section 8.3: a fee at night under water saving, and the quote at 15:00. -/
def tolled : Settings := { Settings.default with tariff := Vector.replicate 8 ⟨4500, 120, 35, 6000⟩ }
theorem test_toll_night : toll tolled true true 11 2 855 1350 = (27327, ⟨true, true, true⟩) := by decide +kernel
theorem test_toll_day : toll tolled false true 11 2 855 1350 = (23187, ⟨false, true, true⟩) := by decide +kernel

/-- 08/R142: 22:00 is night, 06:00 is day. -/
theorem test_night : nightBand Settings.default ⟨0, 792000, false⟩ = true
    ∧ nightBand Settings.default ⟨0, 216000, false⟩ = false := by decide +kernel

/-- 10, section 10.5: a burst of alarms on a full queue. -/
def alarmNo (k : Nat) : Report := ⟨.alarm, u1 k, none⟩
def passNo (k : Nat) : Report := ⟨.passage, u1 k, none⟩
def burst : PortRec := { PortRec.start 38400 0b00011#5 with
  reports := (List.range 20).map passNo ++ (List.range 4).map alarmNo }
theorem test_burst_dropsPassage : burst.queue (passNo 20) = burst := by decide +kernel
theorem test_burst_displaces : ((burst.queue (alarmNo 5)).reports.head?) = some (passNo 1) := by decide +kernel

/-- 10/R171: a full buffer answers BUSY; the CRC of the frame A5 03 01 05 00. -/
theorem test_frame_crc : crcMatches ([3, 1, 5, 0].map (BitVec.ofNat 8) ++ u2 (crc16 [3, 1, 5, 0]).toNat) = true := by
  decide +kernel

/-! ## One step of commands -/

theorem test_resume : (after (.resume kp) State.reset).plant.regime.stoodDown = false := by decide +kernel
theorem test_mode : said (after (.mode kp 1) State.reset) = some (0, [1, 2]) := by decide +kernel
theorem test_passRequest : said (after (.passRequest kp decl) State.reset) = some (0, [0, 0, 0, 1, 1, 0, 0, 0, 0]) := by
  decide +kernel
theorem test_passRequest_duplicate : said (after (.passRequest kp decl) (with1 .waiting)) = some (6, []) := by
  decide +kernel
theorem test_cleared : (after (.cleared kp 1) (inBatch .leaving .leaving)).plant.batches = [] := by decide +kernel
theorem test_credit_clamps : said (after (.accountCredit kp 5 99999999) withAcc)
    = some (0, [5, 245, 221, 23, 5, 245, 224, 255]) := by decide +kernel
theorem test_forceOpen : ((after (.gateCmdForceOpen kp 1) (manual level)).plant.gates.nth 1).st = .opening := by
  decide +kernel
theorem test_limitLost : ((after (.gateLimitInput 2 false false) State.reset).plant.gates.nth 2).cause = some .limitLost := by
  decide +kernel
theorem test_levelStart : ((after (.levelCmdStart kp 0) (manual (running level))).plant.channels.nth 0).st = .running := by
  decide +kernel
theorem test_mainsGone : (after (.mainsInput false) State.reset).plant.regime.deadline = .running 12000 := by
  decide +kernel
theorem test_settingSet : said (after (.settingSet kp 0x0500 45) State.reset) = some (0, [0, 0, 0, 45]) := by
  decide +kernel
theorem test_scan_first : (after (.scan (Vector.replicate 8 495)) State.reset).base.scanner.bodies.nth 1
    = ⟨some 2000, .good, some 2000, false, false⟩ := by decide +kernel
theorem test_headCmd : ((after (.headCmdAspect kp 3 4) (manual State.reset)).plant.heads.nth 3).shown = .shut := by
  decide +kernel
theorem test_standdown : said (after (.standdown kp) (running State.reset)) = some (0, [2, 0]) := by decide +kernel
theorem test_decode_none : decodeTableWord 8 0 = none := by decide

/-! ## States that meet the hypotheses of the statements, clause by clause -/

theorem test_met_admitted : Admitted State.reset kp 0 ∧ Admitted State.reset kp 1 ∧ Admitted State.reset pub 2 := by
  unfold Admitted; decide +kernel

theorem test_met_time : State.reset.pending = [] ∧ State.reset.powered = true ∧ (off State.reset).pending = []
    ∧ (off State.reset).powered = false ∧ Clock.inRange ⟨7, 863998, false⟩ ∧ Clock.inRange ⟨65534, 863999, true⟩
    ∧ Clock.inRange ⟨65535, 863999, false⟩ := by unfold Clock.inRange; decide +kernel

/-- Reset with the console's record changed. -/
def onConsole (fn : PortRec → PortRec) : State := onLink (fun l => { l with console := fn l.console }) State.reset
/-- The bytes of STATUS up to the low byte of its CRC. -/
def statusBytes (crcByte : Byte) : List Byte := [3, 1, 5, 0, crcByte]
def okReply : OutFrame := ⟨0x81, 5, 0, [], .nothing⟩
def statusFrame (kind level : Nat) (body : List Byte) : Frame := ⟨kind, 5, level, body⟩

theorem test_met_hunting : State.reset.powered = true ∧ (State.reset.link.port .network).asm = .hunting := by
  decide +kernel
theorem test_met_partial : ((onConsole fun k => { k with asm := .part [] 0 }).link.port .console).asm = .part [] 0
    ∧ ([1, 5, 0] : List Byte).length + 2 < (3 : Byte).toNat + 3 := by decide +kernel
theorem test_met_complete : ([1, 5, 0, 0] : List Byte).length + 2 = (3 : Byte).toNat + 3
    ∧ crcMatches (statusBytes 0 ++ [0]) = false
    ∧ (let c := crc16 [3, 1, 5, 0]
      crcMatches (statusBytes (BitVec.ofNat 8 (c.toNat / 256)) ++ [BitVec.ofNat 8 c.toNat]) = true)
    ∧ State.reset.link.console.buffer.length < 4
    ∧ 4 ≤ (List.replicate 4 (statusFrame 1 0 [])).length ∧ (List.replicate 7 okReply).length < 8
    ∧ 8 ≤ (List.replicate 8 okReply).length := by decide +kernel
theorem test_met_taken : (let s := onConsole fun k => { k with buffer := [statusFrame 1 0 []] }
      s.takes .console = true ∧ effectiveLevel s ⟨.console, 0, 5⟩ = 0)
    ∧ kindOf 0x7F = none ∧ (kindOf 0x01).isSome = true ∧ kindOf 0x07 = some (0, [0])
    ∧ (decodeRequest ⟨.console, 0, 5⟩ 0x01 []).isSome = true := by decide +kernel
theorem test_met_transmitter : State.reset.link.restartDue = false ∧ State.reset.link.console.owed = none
    ∧ State.reset.link.console.sending = none ∧ State.reset.link.console.replies = []
    ∧ State.reset.link.console.reports ≠ [] ∧ State.reset.link.network.reports = []
    ∧ (onConsole fun k => { k with replies := [okReply], sending := some okReply }).link.console.replies = [okReply] := by
  decide +kernel
theorem test_met_reportQueue : 24 ≤ burst.reports.length ∧ (burst.reports.drop 1).length < 24
    ∧ (passNo 1).cls ≠ .alarm ∧ (alarmNo 1).cls = .alarm
    ∧ (∀ x ∈ (List.range 24).map alarmNo, x.cls = .alarm)
    ∧ [alarmNo 0] ++ passNo 1 :: (List.range 22).map alarmNo = alarmNo 0 :: passNo 1 :: (List.range 22).map alarmNo := by
  decide +kernel
theorem test_met_bounded : LinesBounded State.reset ∧ (step State.reset = .next (tick State.reset)) := by
  refine ⟨?_, rfl⟩
  unfold LinesBounded PortRec.bounded
  decide +kernel
theorem test_met_safe : SafeSignals State.reset ∧ SafeSignals (onGate 0 (fun x => { x with st := .opened })
    (onHead 0 (fun x => { x with shown := .go }) State.reset)) := by
  unfold SafeSignals GreensLit GreensApart GreensAtOpenGates; decide +kernel

theorem test_met_netLevel : effectiveLevel State.reset kp = 0 ∧ pub.port = .network
    ∧ 1 ≤ State.reset.base.settings.networkCeiling := by decide +kernel
theorem test_met_settingGet : (setting? 0x0A02).isSome = true ∧ (setting? 0x0104).isNone = true := by decide +kernel
theorem test_met_settingSet : setting? 0x0101 = some (.usableLength 0) ∧ (Setting.usableLength 0).admits 599 = false
    ∧ (Setting.usableLength 0).admits 600 = true ∧ (Setting.openTol).admits 100 = true
    ∧ settingRefusal Settings.default [pass 1 .waiting none none] (.usableLength 0) 600 = some .state
    ∧ settingRefusal (Settings.default.write .nearBand 50) [] .openTol 50 = some .together
    ∧ settingRefusal Settings.default [] .openTol 100 = none := by decide +kernel
theorem test_met_store : State.reset.link.store = none ∧ State.reset.powered = true
    ∧ (onLink (fun l => { l with store := some ⟨.network, 1, Settings.default⟩ }) State.reset).link.store.isSome = true
    ∧ Admitted (onLink (fun l => { l with store := some ⟨.network, 1, Settings.default⟩ }) State.reset) kp 0 := by
  unfold Admitted; decide +kernel
theorem test_met_restart : ((onConsole fun k => { k with sending := some ⟨0x87, 7, 0, [], .restart⟩ }).link.port
      .console).sending = some ⟨0x87, 7, 0, [], .restart⟩
    ∧ (onLink (fun l => { l with restartDue := true }) State.reset).link.restartDue = true := by decide +kernel

theorem test_met_passQuery : (with1 .waiting).plant.passage? 1 = some (pass 1 .waiting none none)
    ∧ (with1 .waiting).plant.passage? 2 = none ∧ hullMarkOk mark1 = true ∧ hullMarkOk [] = false
    ∧ (with1 .waiting).plant.passages.find? (fun y => y.mark == mark1) = some (pass 1 .waiting none none)
    ∧ Admitted (with1 .waiting) kp 2 := by unfold Admitted; decide +kernel

theorem test_met_sample : 16 ≤ 4079 ∧ (Gauge.start.status ≠ .good) ∧ Gauge.start.level = none
    ∧ ({ Gauge.start with status := .good, level := some 5, reinit := false } : Gauge).reinit = false
    ∧ ({ Gauge.start with status := .subst, subst := some 9, capture := some ⟨1, 0, 7, 0⟩ } : Gauge).subst = some 9
    ∧ mag (1000 - 1040) ≤ 40 ∧ 40 < mag (1000 - 1041) := by decide +kernel
theorem test_met_flood : (let s := at_ 6000 (onBase (fun v => { v with scanner := { v.scanner with
      flood := true, clearSince := some 0 } }) State.reset)
    s.powered = true ∧ s.base.scanner.flood = true ∧ s.base.scanner.clearSince = some 0 ∧ 0 + 6000 ≤ s.base.elapsed) := by
  decide +kernel
theorem test_met_calibrate : (onGauge 3 (fun g => { g with status := .good }) State.reset).powered = true
    ∧ ((onGauge 3 (fun g => { g with status := .good }) State.reset).base.scanner.gauges.nth 3).status = .good
    ∧ ((onGauge 3 (fun g => { g with capture := some ⟨2, 100, 8, 800⟩ }) State.reset).base.scanner.gauges.nth 3).capture
      = some ⟨2, 100, 8, 800⟩
    ∧ calibrate ⟨100, 0⟩ ⟨100, 5⟩ = none ∧ (calibrate ⟨500, 2000⟩ ⟨2500, 12000⟩).isSome = true := by decide +kernel

theorem test_met_openGate : Admitted (manual level) kp 0 ∧ (manual level).plant.regime.mode = .manual
    ∧ ((manual level).plant.gates.nth 3).st = .shut ∧ openInterlock (manual level).base (manual level).plant 3 = false
    ∧ forceReady (manual level).base (manual level).plant 3 = true
    ∧ (let s := onChan 3 (fun c => { c with st := .level }) (manual level)
      openInterlock s.base s.plant 3 = true)
    ∧ forceReady (manual State.reset).base (manual State.reset).plant 3 = false := by unfold Admitted; decide +kernel

def openGate : State := onGate 2 (fun x => { x with st := .opened, owner := .keeper }) (manual State.reset)
theorem test_met_closeGate : Admitted openGate kp 0 ∧ (openGate.plant.gates.nth 2).st = .opened
    ∧ openGate.plant.regime.mode = .manual ∧ openGate.plant.gateLit 2 = false
    ∧ openGate.base.pins.beam.nth 2 = false
    ∧ (onHead 4 (fun x => { x with shown := .go }) openGate).plant.gateLit 2 = true
    ∧ (onBase (fun v => { v with pins := { v.pins with beam := v.pins.beam.put 2 true } }) openGate).base.pins.beam.nth 2
      = true := by unfold Admitted; decide +kernel
theorem test_met_resetGate : (let s := onGate 1 (Gate.faulted .travel) State.reset
      (s.plant.gates.nth 1).st = .fault ∧ (s.plant.gates.nth 1).owner = .keeper
      ∧ s.base.pins.shutLimit.nth 1 = true ∧ s.base.pins.openLimit.nth 1 = false)
    ∧ (openGate.plant.gates.nth 2).owner = .keeper ∧ (State.reset.plant.gates.nth 2).owner ≠ .keeper := by decide +kernel
theorem test_met_limits : ((onGate 1 (fun x => { x with st := .opening }) State.reset).plant.gates.nth 1).st = .opening
    ∧ ((onGate 1 (fun x => { x with st := .closing }) State.reset).plant.gates.nth 1).st = .closing
    ∧ (State.reset.plant.gates.nth 1).st = .shut := by decide +kernel
def stopped : State := at_ 100 (onGate 0 (fun x => { x with
  st := .stopped, beamClear := some 0, obstructions := 2 }) State.reset)
theorem test_met_beam : stopped.powered = true ∧ (stopped.plant.gates.nth 0).st = .stopped
    ∧ (stopped.plant.gates.nth 0).hold = false ∧ (stopped.plant.gates.nth 0).beamClear = some 0
    ∧ 0 + 100 ≤ stopped.base.elapsed ∧ stopped.plant.gateLit 0 = false := by decide +kernel
theorem test_met_travel : (let s := at_ 900 (onGate 0 (fun x => { x with
      st := .closing, travel := some 0, limit := 90 }) State.reset)
    (s.plant.gates.nth 0).travel = some 0 ∧ 0 + 10 * (s.plant.gates.nth 0).limit ≤ s.base.elapsed
      ∧ ¬ 0 + 10 * (s.plant.gates.nth 0).limit ≤ (at_ 899 s).base.elapsed) := by decide +kernel

def moving : State := at_ 150 (onSluice 1 (fun _ => ⟨.moving, 1, 3, some 0⟩) State.reset)
theorem test_met_sluice : moving.powered = true ∧ (moving.plant.sluices.nth 1).st = .moving
    ∧ (moving.plant.sluices.nth 1).step = some 0 ∧ 0 + 150 ≤ moving.base.elapsed
    ∧ ((5 : Fin 8).val > 4) ∧ ((2 : Fin 8).val ≠ (moving.plant.sluices.nth 1).pos) := by decide +kernel
theorem test_met_sluiceCmd : sluiceBarred (at_ 50 (manual State.reset)).base (at_ 50 (manual State.reset)).plant 2 4 = false
    ∧ sluiceBarred State.reset.base State.reset.plant 2 4 = true
    ∧ Admitted (at_ 50 (manual State.reset)) kp 0
    ∧ ((onSluice 2 (fun x => { x with st := .fault }) State.reset).plant.sluices.nth 2).st = .fault
    ∧ (let s := at_ 50 (onSluice 2 (fun x => { x with cmd := 1 }) State.reset)
      (s.plant.sluices.nth 2).pos = 0 ∧ 0 < (s.plant.sluices.nth 2).cmd ∧ intervalMet s.base s.plant 2 = true) := by
  unfold Admitted; decide +kernel

def levelling (st : ChanSt) : State := at_ 9000 (onChan 1 (fun c => { c with
  st := st, req := some .keeper, stepT := some 0, settleT := some 0, start := some 0, limit := some 900, susp := some 0,
  cmd := 3 }) State.reset)
theorem test_met_levelling : (levelling .running).powered = true
    ∧ 0 + 10 * State.reset.base.settings.stepInterval ≤ (levelling .running).base.elapsed
    ∧ ((levelling .running).plant.channels.nth 1).cmd < (levelling .running).plant.maxPosition 1
    ∧ ((levelling .holding).plant.channels.nth 1).settleT = some 0
    ∧ 0 + 10 * State.reset.base.settings.settleTime ≤ (levelling .holding).base.elapsed
    ∧ ((levelling .suspended).plant.channels.nth 1).limit = some 900 ∧ 0 + 10 * 900 ≤ (levelling .suspended).base.elapsed
    ∧ 0 + 1200 ≤ (levelling .suspended).base.elapsed := by decide +kernel
theorem test_met_maximum : (let s := onPlant (fun p => { p with batches := [batch1 .waitingAhead] }) (levelling .running)
    s.plant.maxPosition 1 ≤ (s.plant.channels.nth 1).cmd) := by decide +kernel
theorem test_met_levelStart : levelStartBarred (manual level).base (manual level).plant 0 = false
    ∧ levelStartBarred level.base level.plant 0 = true
    ∧ ((onChan 0 (fun c => { c with st := .level, req := some .entry }) level).plant.channels.nth 0).req ≠ some .keeper
    ∧ level.plant.regime.mode = .auto
    ∧ levelStartBarred (onSluice 0 (fun x => { x with st := .fault }) (manual level)).base
      (onSluice 0 (fun x => { x with st := .fault }) (manual level)).plant 0 = false := by decide +kernel

/-- Reset with levels, a head of gate 1 and a channel of it in a state. -/
def scanAt (st : ChanSt) (head : Int) (pos : Nat) : State :=
  onSluice 1 (fun _ => ⟨.steady, pos, pos, none⟩) (onChan 1 (fun c => { c with
    st := st, req := some .entry, cmd := 2, surge := 1, susp := some 0, reached := decide (0 < pos) }) (onBase (fun v => { v with scanner :=
      { v.scanner with heads := v.scanner.heads.put 1 ⟨some head, true, true, .pos⟩ } }) level))
theorem test_met_scanRunning : (let s := scanAt .running 30 1
      levelsUsable s.base 1 (some .entry) = true ∧ mag (headValue s.base 1) ≤ s.base.settings.openTol
        ∧ (s.plant.channels.nth 1).reached = true)
    ∧ mag (headValue (scanAt .running 250 1).base 1) ≤ Settings.default.nearBand
    ∧ (Settings.default.nearBand : Int) < mag (headValue (scanAt .running (-251) 1).base 1)
    ∧ levelsUsable (manual State.reset).base 1 (some .entry) = false := by decide +kernel
theorem test_met_scanHolding : (Settings.default.openTol : Int) < mag (headValue (scanAt .holding 31 1).base 1)
    ∧ signChanged (scanAt .holding (-30) 1).base (Vector.replicate 4 .pos) 1 = true
    ∧ signChanged (scanAt .holding 30 1).base (Vector.replicate 4 .pos) 1 = false
    ∧ 1 + 1 < Settings.default.surgeLimit ∧ Settings.default.surgeLimit ≤ 2 + 1 := by decide +kernel
theorem test_met_scanResume : (let s := at_ 1200 (scanAt .suspended 5 0)
      levelsUsable s.base 1 (some .entry) = true ∧ (s.plant.channels.nth 1).susp = some 0 ∧ s.base.elapsed - 0 ≤ 1200
        ∧ 1200 < (at_ 1201 s).base.elapsed - 0) := by decide +kernel
theorem test_met_scanDrift : (let s := scanAt .level 31 0
      (s.plant.gates.nth 1).st = .shut ∧ (s.plant.channels.nth 1).opened = false ∧ (s.plant.sluices.nth 1).st = .steady
        ∧ (s.plant.sluices.nth 1).pos = 0 ∧ headUsable s.base 1 (s.plant.channels.nth 1).req = true
        ∧ (s.base.settings.openTol : Int) < mag (headValue s.base 1))
    ∧ ¬ (Settings.default.openTol : Int) < mag (headValue (scanAt .level 30 0).base 1) := by decide +kernel
/-- Channel 3 waits for water above a head of 1 mm. -/
def dry : State := onChan 3 (fun c => { c with st := .waitingWater, permit := .undecided, req := some .entry })
  (onBase (fun v => { v with scanner := { v.scanner with heads := v.scanner.heads.put 3 ⟨some 1, true, true, .pos⟩ } }) level)
theorem test_met_scanWater : headUsable dry.base 3 (some .entry) = true ∧ 0 < headValue dry.base 3
    ∧ permitDeferral dry.base dry.plant.sched = none
    ∧ permitDeferral (onBase (fun v => { v with scanner := { v.scanner with
        bodies := v.scanner.bodies.upd 4 fun b => { b with low := true } } }) dry).base dry.plant.sched = some .upstreamLow
    ∧ permitDeferral dry.base { dry.plant.sched with saving := true, draws := List.replicate 6 ⟨0, .entry⟩ } = some .window
    ∧ headValue level.base 3 ≤ 0 ∧ headUsable State.reset.base 3 (some .entry) = false := by decide +kernel

def lamp : State := at_ 20 (onHead 4 (fun x => { x with
  shown := .go, prove := ⟨none, none, some ⟨0, 20⟩⟩, stray := ⟨some ⟨0, 20⟩, none, none⟩ }) State.reset)
theorem test_met_lamp : (lamp.plant.heads.nth 4).good.nth .gn = true ∧ (lamp.plant.heads.nth 4).driven.nth .gn = true
    ∧ (lamp.plant.heads.nth 4).prove.nth .gn = some ⟨0, 20⟩ ∧ (lamp.plant.heads.nth 4).stray.nth .ra = some ⟨0, 20⟩
    ∧ (lamp.plant.heads.nth 4).mark.nth .ra = false ∧ 0 + 20 ≤ lamp.base.elapsed := by decide +kernel
theorem test_met_lampReset : lamps? 3 = some [.ra, .rb, .gn] ∧ lamps? 0 = some [.ra]
    ∧ (let s := at_ 30 (onGate 2 (fun x => { x with st := .opened }) (onHead 4 (fun x => { x with
        staged := .go, pending := true }) State.reset))
      (s.plant.heads.nth 4).pending = true ∧ greenReady s.base s.plant 4 (s.plant.heads.nth 4).staged = true) := by
  decide +kernel
theorem test_met_headCmd : aspect? 1 = some .stop ∧ aspect? 3 = some .go ∧ Aspect.stop.stopping = true
    ∧ Aspect.go.stopping = false ∧ ((manual State.reset).plant.heads.nth 7).good.gn = true
    ∧ ¬ (Aspect.go = .prepare ∧ ((manual State.reset).plant.heads.nth 7).good.ra = false
      ∧ ((manual State.reset).plant.heads.nth 7).good.rb = false)
    ∧ ((onHead 7 (fun x => { x with holder := .keeper }) (manual State.reset)).plant.heads.nth 7).holder = .keeper := by
  decide +kernel

theorem test_met_passRequest : Admitted State.reset pub 2 ∧ badDeclaration decl = none ∧ dir? decl.direction = some .up
    ∧ unit? 8 decl.cls = some 2 ∧ payment? decl.payment = some none ∧ payment? 5 = some (some 5)
    ∧ ¬ (decl.priority = 1 ∧ effectiveLevel State.reset pub = 2)
    ∧ ((List.range 32).map fun k => pass k .waiting none none).length = 32
    ∧ (∃ x ∈ (with1 .waiting).plant.passages, x.mark = decl.mark)
    ∧ decl.beam ≤ Settings.default.maxBeam ∧ decl.beam ≤ Settings.default.flightWidth
    ∧ decl.length ≤ Settings.default.flightLength ∧ ¬ 1101 ≤ Settings.default.flightLength
    ∧ State.reset.plant.account? 5 = none ∧ withAcc.plant.account? 5 = some acc ∧ acc.blocked = false
    ∧ ({ acc with blocked := true } : Account).blocked = true := by unfold Admitted; decide +kernel
theorem test_met_withdraw : (with1 .waiting).plant.passage? 1 = some (pass 1 .waiting none none)
    ∧ effectiveLevel (with1 .waiting) pub = 2 ∧ (pass 1 .waiting none none).origin ≠ pub.port
    ∧ effectiveLevel (with1 .waiting) kp ≠ 2 ∧ (pass 1 .waiting none none).st.waits = true
    ∧ (pass 1 .leaving none none).st.waits = false ∧ (pass 1 .waiting none none).batch = none := by decide +kernel

theorem test_met_leaves : (inBatch .called .entering).plant.passage? 1 = some (pass 1 .called (some 1) none)
    ∧ (pass 1 .called (some 1) none).st.waits = false ∧ (pass 1 .called (some 1) none).batch = some 1
    ∧ (inBatch .called .entering).plant.batch? 1 = some (batch1 .entering)
    ∧ (∀ m ∈ (batch1 .entering).members, m.number = 1)
    ∧ (∃ m ∈ ({ batch1 .entering with members := [⟨1, false⟩, ⟨2, true⟩] } : Batch).members, m.number ≠ 1) := by
  decide +kernel

theorem test_met_start : (off State.reset).powered = false ∧ State.reset.nv.good = false ∧ State.reset.link.store = none
    ∧ (∃ g, State.reset.base.pins.shutLimit.nth g = true ∧ State.reset.base.pins.openLimit.nth g = false)
    ∧ (pass 1 .waiting none none).st.waits = true ∧ (pass 1 .called (some 1) none).st.waits = false
    ∧ ¬ Settings.default.flightLength < (pass 1 .waiting none none).length
    ∧ Settings.default.flightLength < ({ pass 1 .waiting none none with length := 1101 } : Passage).length := by
  decide +kernel
/-- A start of a part whose gate 1 shows both limits and whose sluice 2 reads 4. -/
def odd : State := onBase (fun v => { v with pins := { v.pins with
  openLimit := v.pins.openLimit.put 1 true, sluicePos := v.pins.sluicePos.put 2 4 } }) (inBatch .berthed .sealing)
theorem test_start_gate : ((odd.start false true).plant.gates.nth 1).cause = some .limitBoth
    ∧ (odd.start false true).plant.sluices.nth 2 = ⟨.moving, 4, 0, some 0⟩
    ∧ ((odd.start false true).plant.passage? 1).map (·.st) = some .unresolved
    ∧ ((odd.start false true).plant.batch? 1).map (·.step) = some .unresolved := by decide +kernel

theorem test_met_schedTimers : (let s := at_ 3000 (onSched (fun x => { x with idle := .running 0 }) State.reset)
      0 + 10 * s.base.settings.idleHold ≤ s.base.elapsed)
    ∧ (let s := at_ 1200 (onSched (fun x => { x with st := .turning, prep := .failed 0 true 0 }) State.reset)
      s.plant.sched.prep = .failed 0 true 0 ∧ 0 + 1200 ≤ s.base.elapsed
        ∧ (s.plant.channels.nth s.plant.sched.dir.entryGate).st ≠ .level)
    ∧ (let s := onSched (fun x => { x with permit := some ⟨.entry, 0, .window⟩ }) State.reset
      s.plant.sched.permit = some ⟨.entry, 0, .window⟩ ∧ permitDeferral s.base s.plant.sched = none) := by decide +kernel

/-- A flight that runs, with water above every sill and a waiting passage. -/
def waitingOne : State := onPlant (fun p => { p with passages := [pass 1 .waiting none none], nextPassage := 2 })
  (onBase (fun v => { v with scanner := { v.scanner with
    bodies := v.scanner.bodies.upd 4 fun b => { b with level := some 14000 } } }) (running level))
theorem test_met_opportunity : opportunityOpen waitingOne.base waitingOne.plant = true
    ∧ opportunityOpen level.base level.plant = false ∧ logRoom waitingOne.base waitingOne.plant 1 = true
    ∧ logRoom (onBase (fun v => { v with books := { v.books with
        log := List.replicate 256 (logRecord (pass 9 .leaving none none) 0 false Clock.reset) } }) waitingOne).base
      waitingOne.plant 1 = false := by decide +kernel
theorem test_met_formation : depthAvailable waitingOne.base = some 3000 ∧ (1200 : Int) + 300 ≤ 3000
    ∧ (waitingOne.base.scanner.bodies.nth 0).status.usable = true
    ∧ (State.reset.base.scanner.bodies.nth 0).status.usable = false
    ∧ accountPasses waitingOne.base waitingOne.plant (pass 1 .waiting none none) = true
    ∧ accountPasses waitingOne.base waitingOne.plant (pass 1 .waiting none (some 5)) = false
    ∧ (pass 1 .leaving none none).st.waits = false := by decide +kernel
theorem test_met_oldest : oldestOf [pass 1 .waiting none none, { pass 2 .waiting none none with priority := true }]
      = some { pass 2 .waiting none none with priority := true }
    ∧ oldestOf [pass 1 .waiting none none] = some (pass 1 .waiting none none) ∧ oldestOf [] = none := by decide +kernel
theorem test_met_serving : (pass 1 .waiting none none).dir = waitingOne.plant.sched.dir
    ∧ (pass 1 .waiting none none).bypass < Settings.default.bypassLimit
    ∧ Settings.default.bypassLimit ≤ ({ pass 1 .waiting none none with bypass := 3 } : Passage).bypass
    ∧ ({ pass 1 .waiting none none with dir := .down } : Passage).dir ≠ waitingOne.plant.sched.dir
    ∧ waitingOne.plant.sched.idle = .stopped := by decide +kernel
theorem test_met_prepare : (waitingOne.plant.channels.nth 0).st = .idle ∧ waitingOne.plant.regime.mode = .auto
    ∧ waitingOne.plant.regime.condition ≠ .stoodDown ∧ (waitingOne.plant.gates.nth 0).st = .shut
    ∧ levelsUsable waitingOne.base 0 (some .entry) = true ∧ levelsUsable State.reset.base 0 (some .entry) = false := by
  decide +kernel
theorem test_met_pack : Settings.default.flightLength < 1000 + 20 + 81 ∧ ¬ Settings.default.flightLength < 1000 + 20 + 80
    ∧ (∀ b ∈ waitingOne.plant.batches, b.id ≠ waitingOne.plant.nextBatch)
    ∧ (waitingOne.plant.heads.nth (Dir.up.headAt Dir.up.entryGate)).lostRed = false
    ∧ (onHead 0 (fun x => { x with good := ⟨false, false, true⟩ }) waitingOne).plant.heads.nth 0 ≠
      waitingOne.plant.heads.nth 0 ∧ waitingOne.plant.passage? 1 = some (pass 1 .waiting none none) := by decide +kernel
theorem test_met_turn : (let s := onSched (fun x => { x with st := .draining }) (running level)
      s.plant.sched.st = .draining ∧ s.plant.batches = [] ∧ s.plant.regime.condition = .running
        ∧ s.plant.regime.mode = .auto ∧ (s.plant.channels.nth s.plant.sched.dir.flip.entryGate).st ≠ .level)
    ∧ (let s := onChan 0 (fun c => { c with st := .failed, req := some .entry }) (running level)
      (s.plant.channels.nth s.plant.sched.dir.entryGate).st = .failed
        ∧ ∀ b ∈ s.plant.batches, b.own ≠ some (0, .entry)) := by decide +kernel
/-- The passage is called to a batch when its entry gate is level. -/
theorem test_formation_calls : (let s := onChan 0 (fun c => { c with st := .level, req := some .entry }) waitingOne
    (takeOpportunity s.base s.flow).toPlant.passage? 1) = some { pass 1 .waiting none none with
      st := .called, batch := some 1, chamber := some 1, committed := some (.quote, 0) } := by decide +kernel

/-- Batch 1 of a running flight in a step, its member in a state. -/
def inStep (st : Step) (m : PassSt) : State :=
  onPlant (fun p => { p with passages := [pass 1 m (some 1) none], nextPassage := 2, batches := [batch1 st] })
    (running level)
def onBatch (fn : Batch → Batch) : State → State := onPlant fun p => { p with batches := p.batches.map fn }
/-- A gate that stands OPEN for batch 1. -/
def openFor1 (g : Fin 4) : State → State := onGate g fun x => { x with st := .opened, owner := .batch 1 }
theorem test_met_examine : (let s := inStep .waitingAhead .berthed
      s.plant.batch? 1 = some (batch1 .waitingAhead)
        ∧ followCauses s.base 1 (followWaved 1 (followOwn 1 s.flow)) = s.flow ∧ (batch1 .waitingAhead).frozen = false
        ∧ s.plant.regime.mode = .auto ∧ s.plant.regime.condition ≠ .stoodDown) := by decide +kernel
theorem test_met_entering : (batch1 .entering).headOf .entering = some 0 ∧ (batch1 .entering).behind = 0
    ∧ (batch1 .entering).allBerthed = false ∧ ((batch1 .entering).setFlag 1).allBerthed = true
    ∧ ((inStep .entering .called).plant.gates.nth 0).st = .shut
    ∧ ((inStep .entering .called).plant.channels.nth 0).st = .idle
    ∧ levelsUsable (inStep .entering .called).base 0 (some .entry) = true
    ∧ ((inStep .entering .called).plant.gates.nth 0).owner = .none
    ∧ ((inStep .entering .called).plant.heads.nth 0).shown.stopping = true
    ∧ (let s := onChan 0 (fun c => { c with st := .level, req := some .entry }) (inStep .entering .called)
      openInterlock s.base s.plant 0 = true ∧ openInterlock State.reset.base State.reset.plant 0 = false)
    ∧ ((openFor1 0 (inStep .entering .called)).plant.gates.nth 0).st = .opened := by decide +kernel
theorem test_met_sealing : gateBarred 1 0 (openFor1 0 (inStep .sealing .berthed)).flow = false
    ∧ (openFor1 0 (inStep .sealing .berthed)).plant.gateLit 0 = false
    ∧ (onHead 0 (fun x => { x with mark := ⟨false, false, true⟩ }) (openFor1 0 (inStep .sealing .berthed))).plant.gateLit 0
      = true
    ∧ gateBarred 1 0 (onGate 0 (fun x => { x with st := .opened, owner := .keeper }) (inStep .sealing .berthed)).flow = true
    ∧ ((inStep .sealing .berthed).plant.gates.nth 0).st = .shut := by decide +kernel
theorem test_met_claim : (batch1 .waitingAhead).dir.nextChamber (batch1 .waitingAhead).at_ = some 2
    ∧ (inStep .waitingAhead .berthed).plant.occupants 2 = [] ∧ (inStep .waitingAhead .berthed).plant.batchIn? 2 = none
    ∧ (onPlant (fun p => { p with batches := p.batches ++ [{ batch1 .sealing with id := 2, chamber := some 2 }] })
      (inStep .waitingAhead .berthed)).plant.occupants 2 ≠ []
    ∧ ({ batch1 .waitingAhead with chamber := some 3 } : Batch).dir.nextChamber 3 = none
    ∧ levelsUsable (inStep .waitingAhead .berthed).base 1 (some (.ahead 1)) = true := by decide +kernel
/-- Batch 1 with its AHEAD levelling of gate 1 in a state. -/
def ahead (st : Step) (c : ChanSt) : State := onChan 1 (fun x => { x with st := c, req := some (.ahead 1) })
  (onBatch (fun b => { b with own := some (1, .ahead 1), target := some 2 }) (inStep st .berthed))
theorem test_met_ahead : (ahead .waitingAhead .running).plant.batches.head?.bind (·.own) = some (1, .ahead 1)
    ∧ ((ahead .levellingAhead .level).plant.channels.nth 1).st = .level
    ∧ (batch1 .openingAhead).headOf .openingAhead = some 2 ∧ (batch1 .openingAhead).ahead = 1
    ∧ openInterlock (ahead .openingAhead .level).base (ahead .openingAhead .level).plant 1 = true
    ∧ ((openFor1 1 (ahead .openingAhead .level)).plant.gates.nth 1).st = .opened := by decide +kernel
/-- Batch 1 shifts through gate 1, its head at GO. -/
def passing : State := onHead 2 (fun x => { x with shown := .go, holder := .batch 1 }) (openFor1 1 (ahead .shifting .level))
theorem test_met_passing : (let s := passing
      (s.plant.gates.nth 1).st = .opened ∧ (s.plant.heads.nth 2).shown = .go ∧ (s.plant.heads.nth 2).holder = .batch 1
        ∧ s.plant.memberSt ⟨1, false⟩ = some .berthed
        ∧ ((s.plant.batch? 1).map fun b => b.effective) = some .shifting) := by decide +kernel
theorem test_met_held : (let s := onGate 0 (Gate.faulted .travel) (inStep .sealing .berthed)
      (batch1 .sealing).moves .sealing = some 0 ∧ (s.plant.gates.nth 0).st = .fault ∧ s.plant.batch? 1 = some (batch1 .sealing))
    ∧ ({ batch1 .held with heldStep := some .sealing, causes := { HeldCauses.none with gate := true } } : Batch).causes.has
      .gate = true
    ∧ ((ahead .levellingAhead .failed).plant.channels.nth 1).st = .failed
    ∧ (let s := onHead 2 (fun x => { x with holder := .batch 1, pending := true, good := ⟨true, true, false⟩ }) (inStep .shifting .berthed)
      (s.plant.heads.nth 2).holder = .batch 1 ∧ (s.plant.heads.nth 2).waved = false
        ∧ (batch1 .shifting).headOf .shifting = some 2) := by decide +kernel
theorem test_met_reenter : gatesReady (inStep .entering .called).plant (batch1 .entering) .entering = true
    ∧ gatesReady (inStep .leaving .leaving).plant (batch1 .leaving) .leaving = false
    ∧ gatesReady (inStep .shifting .berthed).plant (batch1 .shifting) .shifting = true
    ∧ gatesReady (ahead .openingAhead .level).plant (batch1 .openingAhead) .openingAhead = true
    ∧ (batch1 .openingAhead).own = none := by decide +kernel
theorem test_met_ended : ((openFor1 0 (inStep .sealing .berthed)).plant.gates.nth 0).owner = .batch 1
    ∧ (endBatch level.base 1 .dissolved (openFor1 0 (inStep .sealing .berthed)).flow).toPlant.gateLit 0 = false
    ∧ (endBatch level.base 1 .dissolved (onHead 0 (fun x => { x with mark := ⟨false, false, true⟩ })
      (openFor1 0 (inStep .sealing .berthed))).flow).errands.nth 0 = some 1
    ∧ (onPlant (fun p => { p with errands := p.errands.put 2 (some 7) }) State.reset).plant.errands.nth 2 = some 7
    ∧ (State.reset.plant.gates.nth 2).ask ≠ some (.closeFor 7) := by decide +kernel

theorem test_met_berthed : Admitted (inBatch .called .entering) kp 0
    ∧ (inBatch .called .entering).plant.passage? 1 = some (pass 1 .called (some 1) none)
    ∧ (inBatch .called .entering).plant.stepOf (pass 1 .called (some 1) none) = some .entering
    ∧ (inBatch .shifting .shifting).plant.passage? 1 = some (pass 1 .shifting (some 1) none)
    ∧ (inBatch .called .sealing).plant.stepOf (pass 1 .called (some 1) none) ≠ some .entering
    ∧ (pass 1 .called (some 1) none).misses = 0
    ∧ 1 ≤ ({ pass 1 .called (some 1) none with misses := 1 } : Passage).misses
    ∧ (let s := at_ 6000 (inBatch .called .entering)
      s.plant.batch? 1 = some (batch1 .entering) ∧ berthDue s.base s.plant .entering (batch1 .entering) = true)
    ∧ berthDue (inBatch .called .entering).base (inBatch .called .entering).plant .entering (batch1 .entering) = false := by
  unfold Admitted; decide +kernel

/-- Batch 1 held for GREEN at gate 1, whose head it holds without GN. -/
def greenHeld : State := onHead 2 (fun x => { x with holder := .batch 1, good := ⟨true, true, false⟩ })
  (onPlant (fun p => { p with batches := [{ batch1 .held with
    heldStep := some .shifting, causes := { HeldCauses.none with green := true } }] }) State.reset)
theorem test_met_overdue : (let s := at_ 6000 (inBatch .shifting .shifting)
      berthDue s.base s.plant .shifting (batch1 .shifting) = true ∧ anyShifting s.plant (batch1 .shifting) = true)
    ∧ 0 + 3000 ≤ (at_ 3000 State.reset).base.elapsed
    ∧ (greenHeld.plant.batches.any fun b => b.headOf b.effective == some 2 && b.step == .held && b.causes.green) = true
    ∧ (greenHeld.plant.heads.nth 2).holder = .batch 1 ∧ (greenHeld.plant.heads.nth 2).good.gn = false
    ∧ (batch1 .entering).step ≠ .held := by decide +kernel
theorem test_met_confirm : (let s := inBatch .unresolved .unresolved
      s.plant.batch? 1 = some (batch1 .unresolved) ∧ s.plant.batch? 2 = none
      ∧ ¬ ∃ x ∈ s.plant.batches, x.step ≠ .unresolved ∧ x.names 3 = true)
    ∧ (inBatch .called .entering).plant.batch? 1 = some (batch1 .entering) := by decide +kernel
theorem test_met_cleared : (inBatch .leaving .leaving).plant.stepOf (pass 1 .leaving (some 1) none) = some .leaving
    ∧ (inBatch .leaving .leaving).plant.passage? 1 = some (pass 1 .leaving (some 1) none)
    ∧ Admitted (inBatch .leaving .leaving) kp 0
    ∧ mayEject (inBatch .called .entering).plant (pass 1 .called (some 1) none) = true
    ∧ mayEject (inBatch .leaving .leaving).plant (pass 1 .leaving (some 1) none) = false
    ∧ (pass 1 .heldDepth none none).st.waits = true := by unfold Admitted; decide +kernel

theorem test_met_tolls : Tariff.inRange ⟨100000, 10000, 10000, 1000000⟩ ∧ ¬ Tariff.inRange ⟨100001, 0, 0, 0⟩
    ∧ Settings.default.nightEnd < Settings.default.nightStart
    ∧ (Settings.default.write .nightEnd 1321).nightStart < (Settings.default.write .nightEnd 1321).nightEnd
    ∧ (Settings.default.write .nightEnd 1320).nightStart = (Settings.default.write .nightEnd 1320).nightEnd
    ∧ withAcc.plant.account? 5 = some acc ∧ withAcc.plant.account? 6 = none ∧ Admitted withAcc kp 1
    ∧ acc.balance + 99998999 ≤ 99999999 ∧ ¬ acc.balance + 99999000 ≤ 99999999
    ∧ 1 < effectiveLevel State.reset pub ∧ State.reset.takes pub.port = true := by
  unfold Tariff.inRange Admitted; decide +kernel
theorem test_met_hull : (let s := after (.passRequest kp decl) State.reset
    (s.base.books.hulls.find? fun h => h.mark == mark1).isSome = true)
    ∧ (State.reset.base.books.hulls.find? fun h => h.mark == mark1) = none := by decide +kernel
theorem test_met_log : Admitted withLog kp 1 ∧ withLog.base.books.log.length = 2
    ∧ (withLog.base.books.log.head?.map (·.number)) = some 1 := by unfold Admitted; decide +kernel

theorem test_met_regime : mode? 0 = some .auto ∧ mode? 1 = some .manual ∧ mode? 2 = none
    ∧ State.reset.plant.regime.mode = .auto ∧ State.reset.plant.regime.stoodDown = true
    ∧ (running State.reset).plant.regime.stoodDown = false ∧ resumeBar State.reset.plant = none
    ∧ resumeBar (running State.reset).plant = some .notStoodDown := by decide +kernel
/-- A running flight with a levelling at gate 1, gates 0 and 2 open, and gate 2's beam blocked. -/
def busy : State := onBase (fun v => { v with pins := { v.pins with beam := v.pins.beam.put 2 true } })
  (onGate 0 (fun x => { x with st := .opened }) (onGate 2 (fun x => { x with st := .opened }) (running (levelling .running))))
theorem test_met_standDown : busy.plant.regime.stoodDown = false ∧ (busy.plant.channels.nth 1).st ≠ .idle
    ∧ (busy.plant.channels.nth 0).st = .idle ∧ (busy.plant.sluices.nth 1).st ≠ .fault
    ∧ busy.base.pins.beam.nth 2 = true ∧ busy.base.pins.beam.nth 0 = false ∧ busy.plant.passingSet.nth 0 = false
    ∧ (busy.plant.gates.nth 0).hold = false ∧ (busy.plant.gates.nth 1).st = .shut := by decide +kernel
theorem test_standDown_leaves : (let s := after (.standdown kp) busy
    (s.plant.gates.nth 0).st = .closing ∧ s.plant.regime.left = [⟨false, 2, .beam⟩]) := by decide +kernel
/-- A stand-down in progress that awaits gate 0 and sluice 1, or nothing. -/
def awaiting (x : Bool) : Progress := ⟨Tbl.put (Vector.replicate 4 false) 0 x, Tbl.put (Vector.replicate 4 false) 1 x, true, 0⟩
theorem test_met_progress : (onRegime (fun r => { r with progress := some (awaiting true) }) State.reset).plant.regime.progress
      = some (awaiting true)
    ∧ (awaiting true).gates.nth 0 = true ∧ (awaiting true).gates.nth 1 = false ∧ (awaiting true).sluices.nth 1 = true
    ∧ (∀ g, (awaiting false).gates.nth g = false) ∧ (∀ g, (awaiting false).sluices.nth g = false)
    ∧ headsAtRest State.reset.flow = true ∧ headsAtRest (onHead 3 (fun x => { x with shown := .go }) State.reset).flow = false
    ∧ (State.reset.plant.gates.nth 0).st = .shut ∧ (stopped.plant.gates.nth 0).st = .stopped := by decide +kernel
theorem test_met_deadline : (let s := at_ 50 (onRegime (fun r => { r with deadline := .running 50 }) State.reset)
      s.plant.regime.deadline = .running 50 ∧ 50 ≤ s.base.elapsed ∧ ¬ 50 ≤ (at_ 49 s).base.elapsed)
    ∧ State.reset.plant.regime.mainsPresent = true ∧ State.reset.plant.regime.mainsCause = false
    ∧ State.reset.plant.regime.batteryLow = false
    ∧ (onRegime (fun r => { r with mainsPresent := false }) State.reset).plant.regime.mainsPresent = false
    ∧ (onRegime (fun r => { r with deadline := .running 1201 }) State.reset).base.elapsed + 1200 < 1201 := by
  decide +kernel

/-! ## The clauses that spell a condition, or a refusal -/

/-- Pins changed. -/
def onPins (fn : Pins → Pins) : State → State := onBase fun v => { v with pins := fn v.pins }

theorem test_met_rate : (onConsole fun k => { k with sending := some ⟨0x85, 7, 0, [], .rate .console 9600⟩ }).link.console.sending
      = some ⟨0x85, 7, 0, [], .rate .console 9600⟩
    ∧ (after (.transmitterFree .console) (onConsole fun k => { k with
        sending := some ⟨0x85, 7, 0, [], .rate .console 9600⟩ })).link.console.rate = 9600 := by decide +kernel
theorem test_met_refusedSettings : settingRefusal Settings.default [] (.lowLimit 1) (Settings.default.highLimit.nth 1 - 99)
      = some .together
    ∧ settingRefusal Settings.default [] (.lowLimit 1) (Settings.default.highLimit.nth 1 - 100) = none
    ∧ settingRefusal Settings.default [] .nearBand Settings.default.openTol = some .together
    ∧ settingRefusal Settings.default [pass 1 .waiting none none] (.usableLength 2) 799 = some .state
    ∧ settingRefusal Settings.default [pass 1 .waiting none none] (.usableLength 2) 800 = none
    ∧ settingRefusal Settings.default [{ pass 1 .waiting none none with bypass := 2 }] .bypassLimit 1 = some .state := by
  decide +kernel
theorem test_levels_lastScan : levelsBody (after (.gaugeSubst kp 3 900) State.reset).base.scanner = levelsBody Scanner.start
    ∧ ((after (.gaugeSubst kp 3 900) State.reset).base.scanner.gauges.nth 3).status = .subst := by decide +kernel

/-- A gauge of a status and a level. -/
def gauge (st : GaugeStatus) (l : Int) : Gauge := { Gauge.start with status := st, level := some l }
/-- A body last GOOD at 1000. -/
def body1000 : Body := ⟨some 1000, .good, some 1000, false, false⟩
theorem test_chamber_rows : deriveChamber 40 (gauge .good 1000) (gauge .good 1041) body1000 = ⟨some 1000, .doubtful, some 1000, false, false⟩
    ∧ deriveChamber 40 (gauge .good 800) (gauge .good 1041) body1000 = ⟨some 1041, .doubtful, some 1000, false, false⟩
    ∧ deriveChamber 40 (gauge .good 900) (gauge .fault 0) body1000 = ⟨some 900, .single, some 1000, false, false⟩
    ∧ deriveChamber 40 (gauge .subst 900) (gauge .subst 901) body1000 = ⟨some 900, .subst, some 1000, false, false⟩
    ∧ deriveChamber 40 (gauge .subst 900) (gauge .fault 0) body1000 = ⟨some 900, .subst, some 1000, false, false⟩
    ∧ deriveChamber 40 (gauge .fault 0) (gauge .fault 0) body1000 = ⟨some 1000, .fault, some 1000, false, false⟩
    ∧ deriveReach (gauge .subst 7) body1000 = ⟨some 7, .subst, some 1000, false, false⟩
    ∧ deriveReach (gauge .fault 7) body1000 = ⟨some 1000, .fault, some 1000, false, false⟩ := by decide +kernel

/-- Gauge 3 gathers its eighth sample, or has two points. -/
def gathering : Gauge := { gauge .good 2000 with capture := some ⟨2, 12000, 7, 17500⟩ }
def pointed : State := onChan 1 (fun c => { c with st := .holding, surge := 1 }) (onGauge 3 (fun _ =>
  { gauge .good 2000 with point1 := some ⟨500, 2000⟩, point2 := some ⟨2500, 12000⟩ }) State.reset)
theorem test_capture : (sampleGauge 1024 0 2500 gathering).capture = some ⟨2, 12000, 8, 20000⟩
    ∧ ((after (.calCaptured 3) (onGauge 3 (fun _ => { gathering with capture := some ⟨2, 12000, 8, 20000⟩ }) State.reset)
      ).base.scanner.shown.nth 3).point2 = some ⟨2500, 12000⟩ := by decide +kernel
theorem test_commit : (let s := after (.calCommit kp 3) pointed
    s.base.settings.gain.nth 3 = 5120 ∧ s.base.settings.offset.nth 3 = -500
      ∧ s.base.scanner.gauges.nth 3 = { gauge .good 2000 with reinit := true }
      ∧ (s.plant.channels.nth 1).settleT = some 0 ∧ (s.plant.channels.nth 1).surge = 0
      ∧ said s = some (0, [0, 0, 20, 0, 255, 255, 254, 12])) := by decide +kernel
theorem test_met_commit : (pointed.base.scanner.gauges.nth 3).point1 = some ⟨500, 2000⟩
    ∧ said (after (.calCommit kp 3) (onGauge 3 (fun g => { g with point2 := some ⟨699, 12000⟩ }) pointed)) = some (4, [255])
    ∧ said (after (.calCommit kp 3) (onGauge 3 (fun g => { g with point2 := none }) pointed)) = some (8, [])
    ∧ said (after (.calCommit kp 3) (onGauge 3 (fun _ => gathering) pointed)) = some (1, []) := by decide +kernel

/-- A gate in a state of its own. -/
def gateIn (st : GateSt) : State := onGate 1 (fun x => { x with st := st, hold := true, obstructions := 3 }) (manual State.reset)
theorem test_open_stopped : (let s := after (.gateCmdOpen kp 1) (gateIn .stopped)
      (s.plant.gates.nth 1).st = .opening ∧ (s.plant.gates.nth 1).hold = false ∧ (s.plant.gates.nth 1).obstructions = 0)
    ∧ (let s := after (.gateCmdOpen kp 1) (onPins (fun p => { p with
        openLimit := p.openLimit.put 1 true, shutLimit := p.shutLimit.put 1 false }) (gateIn .stopped))
      (s.plant.gates.nth 1).st = .opened ∧ (s.plant.gates.nth 1).travel = none) := by decide +kernel
theorem test_open_refused : said (after (.gateCmdOpen kp 1) (gateIn .fault)) = some (8, [])
    ∧ said (after (.gateCmdOpen kp 1) (gateIn .closing)) = some (8, [])
    ∧ said (after (.gateCmdOpen kp 4) (gateIn .stopped)) = some (4, [1])
    ∧ said (after (.gateCmdForceOpen kp 1) level) = some (8, [])
    ∧ said (after (.gateCmdOpen kp 1) (onGate 1 (fun x => { x with st := .opened, owner := .batch 9 }) State.reset)) = some (8, [])
    ∧ said (after (.gateCmdOpen kp 1) (onGate 1 (fun x => { x with st := .opened, owner := .batch 9 }) (manual State.reset)))
      = some (0, [2]) := by decide +kernel
theorem test_close_others : said (after (.gateCmdClose kp 1) (gateIn .fault)) = some (8, [])
    ∧ ((after (.gateCmdClose kp 1) (manual State.reset)).plant.gates.nth 1).owner = .keeper
    ∧ ((after (.gateCmdClose kp 1) (gateIn .stopped)).plant.gates.nth 1).st = .closing
    ∧ (let s := after (.gateCmdClose kp 1) (onPins (fun p => { p with beam := p.beam.put 1 true }) (gateIn .stopped))
      (s.plant.gates.nth 1).obstructions = 1 ∧ (s.plant.gates.nth 1).st = .stopped ∧ (s.plant.gates.nth 1).hold = false)
    ∧ said (after (.gateCmdReset kp 1) (gateIn .stopped)) = some (8, []) := by decide +kernel
/-- A gate in a state, with neither limit showing. -/
def between (st : GateSt) : State := onPins (fun p => { p with shutLimit := p.shutLimit.put 1 false }) (gateIn st)
theorem test_limit_wrong : ((after (.gateLimitInput 1 true false) (between .opening)).plant.gates.nth 1).cause = some .limitWrong
    ∧ ((after (.gateLimitInput 1 false true) (between .closing)).plant.gates.nth 1).cause = some .limitWrong
    ∧ ((after (.gateLimitInput 1 false true) (between .stopped)).plant.gates.nth 1).cause = some .limitWrong
    ∧ ((after (.gateLimitInput 1 true false) (gateIn .opening)).plant.gates.nth 1).st = .opening := by decide +kernel
theorem test_limit_openLost : ((after (.gateLimitInput 1 false false) (gateIn .opened)).plant.gates.nth 1).cause = some .limitLost
    ∧ ((after (.gateLimitInput 1 true true) (gateIn .opened)).plant.gates.nth 1).cause = some .limitBoth
    ∧ (let s := after (.gateLimitInput 1 false true) (between .opening)
      (s.plant.gates.nth 1).st = .opened ∧ (s.plant.gates.nth 1).travel = none) := by decide +kernel
theorem test_resume_limit : ((after (.beamClearExpiry 0) (onGate 0 (fun x => { x with limit := 33 }) stopped)).plant.gates.nth 0).limit
    = 33 := by decide +kernel

theorem test_steady_moved : (after (.sluicePositionInput 2 1) State.reset).plant.sluices.nth 2 = ⟨.fault, 1, 0, none⟩
    ∧ (after (.sluicePositionInput 2 5) State.reset).plant.sluices.nth 2 = ⟨.fault, 0, 0, none⟩ := by decide +kernel
theorem test_sluice_refused : (let s := at_ 50 (manual State.reset)
    said (after (.sluiceCmdPosition kp 2 5) s) = some (4, [2]) ∧ said (after (.sluiceCmdPosition kp 4 0) s) = some (4, [1])
      ∧ said (after (.sluiceCmdPosition kp 2 1) (onGate 1 (fun x => { x with st := .opened }) s)) = some (8, [])
      ∧ said (after (.sluiceCmdReset kp 2) s) = some (8, [])
      ∧ said (after (.sluiceCmdPosition kp 2 1) (at_ 1 s)) = some (8, [])) := by decide +kernel

theorem test_grant : requestGrant 1 State.reset.flow = (true, { State.reset.flow with grants := State.reset.plant.grants.put 1 true })
    ∧ (requestGrant 1 { State.reset.flow with waiting := [2] }).1 = false
    ∧ (requestGrant 1 { State.reset.flow with waiting := [3] }).1 = true
    ∧ (requestGrant 1 (onGate 2 (fun x => { x with st := .opened }) State.reset).flow).2.waiting = [1]
    ∧ (reviewWaiting [1, 2, 3] [] State.reset.flow).1 = [1]
    ∧ (reviewWaiting [1, 3] [] State.reset.flow).1 = [1, 3] := by decide +kernel
theorem test_levelStart_waits : (let s := onPlant (fun p => { p with grants := p.grants.put 1 true }) (manual level)
      said (after (.levelCmdStart kp 0) s) = some (0, [1]))
    ∧ said (after (.levelCmdStart kp 4) level) = some (4, [1]) := by decide +kernel

theorem test_green_ready : (let s := at_ 30 (onGate 2 (fun x => { x with st := .opened }) State.reset)
    greenReady s.base s.plant 4 .go = true ∧ greenReady s.base (onHead 4 (fun x => { x with good := ⟨false, false, true⟩ }) s).plant 4 .prepare = false
      ∧ greenReady (at_ 29 s).base s.plant 4 .go = decide (Settings.default.clearMargin ≤ 29)
      ∧ greenReady s.base (onHead 5 (fun x => { x with waved := true }) s).plant 4 .go = false
      ∧ greenReady s.base (onHead 1 (fun x => { x with waved := true }) s).plant 4 .go = true) := by decide +kernel
theorem test_head_refused : (let s := manual State.reset
    said (after (.headCmdAspect kp 3 3) (onHead 3 (fun x => { x with good := ⟨true, true, false⟩ }) s)) = some (8, [])
      ∧ said (after (.headCmdAspect kp 3 2) (onHead 3 (fun x => { x with good := ⟨false, false, true⟩ }) s)) = some (8, [])
      ∧ said (after (.headCmdAspect kp 8 2) s) = some (4, [1]) ∧ said (after (.headCmdAspect kp 3 5) s) = some (4, [2])) := by
  decide +kernel

/-- A hull entry without passages. -/
def hullNo (k : Nat) : Hull := ⟨u1 k, 800, 100, 1200, 2, none, k, none⟩
/-- A full hull table, whose last hull has an open passage. -/
def hulls128 : List Hull := (List.range 126).map hullNo ++ [hullNo 126, { hullNo 127 with mark := [65] }]
def full : State := onPlant (fun p => { p with
    passages := [{ pass 2 .waiting none none with mark := [65] }] }) (onBase (fun v => { v with books := { v.books with
  hulls := hulls128 } }) State.reset)
theorem test_hull_evicted : hulls128.length = 128 ∧ (∀ h ∈ hulls128, h.mark ≠ decl.mark)
    ∧ (let s := after (.passRequest kp decl) full
      s.base.books.hulls.length = 128 ∧ (s.base.books.hulls.find? fun h => h.mark == u1 126) = none
        ∧ s.plant.nextPassage = 3) := by decide +kernel
theorem test_hull_changed : (let s := onBase (fun v => { v with books := { v.books with
      hulls := [hullNo 1, { hullNo 9 with mark := mark1, beam := 90, last := some ⟨1, 5, false⟩ }] } }) State.reset
    (after (.passRequest kp decl) s).base.books.hulls
      = [⟨mark1, 800, 100, 1200, 2, none, 9, some ⟨1, 5, false⟩⟩, hullNo 1]) := by decide +kernel
theorem test_log_room : (followLogRoom State.reset.base { State.reset.flow with
      sched := { State.reset.plant.sched with short := true } }).sched.short = false
    ∧ logRoom State.reset.base State.reset.plant 256 = true ∧ logRoom State.reset.base State.reset.plant 257 = false := by
  decide +kernel

/-- Batch 1 follows the keeper's channel of gate 1. -/
def followed (c : ChanSt) : State := onChan 1 (fun x => { x with st := c, req := some .keeper })
  (onBatch (fun b => { b with target := some 2 }) (inStep .levellingAhead .berthed))
theorem test_keeper_followed : (let s := followed .running
      workStep s.base { batch1 .levellingAhead with target := some 2 } s.flow = s.flow)
    ∧ (let s := followed .failed
      ((followCauses s.base 1 s.flow).toPlant.batch? 1).map (fun b => (b.step, b.heldStep, b.causes.levelling))
        = some (.held, some .levellingAhead, true)) := by decide +kernel
/-- Batch 1 with an OPEN of its entry gate pending. -/
def entering1 : State :=
  onGate 0 (fun x => { x with ask := some (.openFor 1), owner := .batch 1 }) (inStep .entering .berthed)
theorem test_entry_withdrawn : (batch1 .entering).behind = 0 ∧ ((batch1 .entering).setFlag 1).allBerthed = true
    ∧ ((workStep entering1.base ((batch1 .entering).setFlag 1) entering1.flow).gates.nth 0).ask = none := by decide +kernel

/-- A RUNNING channel whose step interval has run, at a head of gate 1. -/
def stepDue (head : Int) : State := at_ 300 (onChan 1 (fun c => { c with stepT := some 0, far := true }) (scanAt .running head 2))
theorem test_step_band : (let s := after (.stepTimerExpiry 1) (stepDue 251)
      (s.plant.channels.nth 1).cmd = 3 ∧ (s.plant.channels.nth 1).stepT = some 300)
    ∧ (let s := after (.stepTimerExpiry 1) (stepDue 250)
      (s.plant.channels.nth 1).cmd = 2 ∧ (s.plant.channels.nth 1).stepT = none ∧ (s.plant.channels.nth 1).far = false)
    ∧ (let s := after (.beamInput 0 true) (after (.settingSet kp 0x0401 300) (stepDue 251))
      (s.plant.channels.nth 1).stepT = some 0 ∧ s.base.settings.nearBand = 300) := by decide +kernel
theorem test_step_resumed : (let f := resumeScan (scanAt .suspended 251 3).base 1 (scanAt .suspended 251 3).flow
      (f.channels.nth 1).reached = false
        ∧ ((followStep (scanAt .suspended 251 3).base 1 f).channels.nth 1).reached = false)
    ∧ (let f := resumeScan (scanAt .suspended 251 1).base 1 (scanAt .suspended 251 1).flow
      ((followStep (scanAt .suspended 251 1).base 1 f).channels.nth 1).reached = true)
    ∧ (let s := onChan 1 (fun c => { c with far := true }) (scanAt .running 251 1)
      ((followStep s.base 1 s.flow).channels.nth 1).stepT = some 0) := by decide +kernel
theorem test_stray_waved : (let s := onHead 4 (fun x => { x with pending := true, waved := true }) lamp
      ((markStray s.base 4 .gn s.flow).heads.nth 4).waved = false
        ∧ ((markStray s.base 4 .ra s.flow).heads.nth 4).waved = true)
    ∧ (let s := onHead 4 (fun x => { x with good := ⟨true, true, false⟩, waved := true }) lamp
      ((markStray s.base 4 .gn s.flow).heads.nth 4).waved = true) := by decide +kernel
/-- A gate that the close errand of batch 9 owns, OPEN. -/
def errandOn (g : Fin 4) (s : State) : State := onGate g (fun x => { x with
  st := .opened, owner := .batch 9, ask := some (.closeFor 9) }) (onPlant (fun p => { p with errands := p.errands.put g (some 9) }) s)
theorem test_errand_waits : (let s := errandOn 0 (inStep .entering .called)
      workStep s.base (batch1 .entering) s.flow = s.flow)
    ∧ (let s := errandOn 1 (ahead .openingAhead .level)
      workStep s.base (batch1 .openingAhead) s.flow = s.flow)
    ∧ (let s := errandOn 1 (ahead .shifting .level)
      workStep s.base (batch1 .shifting) s.flow = s.flow) := by decide +kernel
/-- The errand's CLOSE is taken, and batch 1 waits on for the gate to be SHUT. -/
theorem test_errand_ends : (let s := after (.beamInput 3 true) (errandOn 0 (running (inStep .entering .called)))
    (s.plant.gates.nth 0).st = .closing ∧ (s.plant.gates.nth 0).owner = .none ∧ s.plant.errands.nth 0 = none
      ∧ (s.plant.heads.nth 0).holder = .none ∧ (s.plant.batch? 1).map (·.step) = some .entering) := by decide +kernel

/-- Gate 0 STOPPED in a flight stood down that left it for its beam. -/
def leftGate : State := onPlant (fun p => { p with regime := { p.regime with
  stoodDown := true, left := [⟨false, 0, .beam⟩] } }) (onGate 0 (fun x => { x with st := .stopped }) State.reset)
theorem test_beam_timer : (let s := at_ 40 (onGate 0 (fun x => { x with st := .stopped, beamClear := none }) State.reset)
      ((after (.beamInput 0 false) s).plant.gates.nth 0).beamClear = some 40
        ∧ ((after (.beamInput 0 true) (after (.beamInput 0 false) s)).plant.gates.nth 0).beamClear = none
        ∧ ((after (.beamInput 0 true) s).plant.gates.nth 0).obstructions = 0)
    ∧ ⟨false, 0, .beam⟩ ∈ leftGate.plant.regime.left ∧ leftGate.plant.passingSet.nth 0 = false
    ∧ ((after (.beamInput 0 false) (onGate 0 (fun x => { x with st := .opened }) leftGate)).plant.gates.nth 0).st = .closing
    ∧ ((after (.beamInput 0 false) leftGate).plant.gates.nth 0).st = .stopped := by decide +kernel
theorem test_lamp_timers : (let s := at_ 7 (manual State.reset)
      ((after (.headCmdAspect kp 3 4) s).plant.heads.nth 3).prove.nth .rb = some ⟨7, Settings.default.lampProving⟩
        ∧ (s.plant.heads.nth 3).driven.nth .rb = false ∧ (s.plant.heads.nth 3).prove.nth .rb = none)
    ∧ ((after (.lampCurrentInput 4 .gn true) (at_ 9 State.reset)).plant.heads.nth 4).stray.nth .gn
      = some ⟨9, Settings.default.lampProving⟩
    ∧ (State.reset.plant.heads.nth 4).driven.nth .gn = false
    ∧ ((after (.lampCurrentInput 4 .ra false) (after (.lampCurrentInput 4 .ra true) State.reset)).plant.heads.nth 4).prove.nth .ra
      = some ⟨0, Settings.default.lampProving⟩ := by decide +kernel
theorem test_pass_fields : said (after (.passRequest kp { decl with mark := [65] }) State.reset) = some (4, [1])
    ∧ said (after (.passRequest kp { decl with length := 99, beam := 201 }) State.reset) = some (4, [3])
    ∧ said (after (.passRequest kp { decl with priority := 2 }) State.reset) = some (4, [9])
    ∧ effectiveLevel State.reset ⟨.console, 2, 0⟩ = 2
    ∧ said (after (.passRequest ⟨.console, 2, 0⟩ { decl with priority := 1 }) State.reset) = some (2, []) := by
  decide +kernel
theorem test_eject_where : said (after (.eject kp 1) (inBatch .berthed .sealing)) = some (0, [])
    ∧ said (after (.eject kp 1) (inBatch .berthed .waitingAhead)) = some (8, [])
    ∧ said (after (.eject kp 1) (onBatch (fun b => { b with chamber := some 2 }) (inBatch .berthed .sealing))) = some (8, [])
    ∧ said (after (.eject kp 1) (onBatch (fun b => { b with heldStep := some .entering }) (inBatch .called .held)))
      = some (0, []) := by decide +kernel
/-- The berth timer of batch 1 began at 0, and the berth limit is 600 s. -/
theorem test_berth_limit : (batch1 .entering).berth.since = some 0
    ∧ 10 * Settings.default.berthLimit ≤ (batch1 .entering).berth.run + (6000 - 0)
    ∧ (let s := at_ 5999 (inBatch .called .entering)
      (after (.entryBerthExpiry 1) s) = s)
    ∧ (let s := at_ 6000 (inBatch .called .entering)
      ((after (.entryBerthExpiry 1) s).plant.passage? 1).map (·.st) = some .waiting)
    ∧ (let s := at_ 6000 (inBatch .berthed .shifting)
      (after (.shiftBerthExpiry 1) s) = s) := by decide +kernel

end Sys2Proof.Tests
end

section
/-! The night band and the toll formula (08/R142, R143). -/

namespace Sys2Proof.Machine

/-! ## The night band -/

/-- While the clock is unset no time lies in the night band. -/
theorem nightBand_unset {v : Settings} {c : Clock} (h : c.unset = true) : nightBand v c = false := by
  simp [nightBand, h]

/-- A band whose start is later than its end crosses midnight. -/
theorem nightBand_crossing {v : Settings} {c : Clock} (h : c.unset = false) (hb : v.nightEnd < v.nightStart) :
    nightBand v c = true ↔ v.nightStart ≤ c.tod / 600 ∨ c.tod / 600 < v.nightEnd := by
  simp [nightBand, h, hb]

/-- A band whose end is not earlier than its start lies within one day. -/
theorem nightBand_within {v : Settings} {c : Clock} (h : c.unset = false) (hb : v.nightStart ≤ v.nightEnd) :
    nightBand v c = true ↔ v.nightStart ≤ c.tod / 600 ∧ c.tod / 600 < v.nightEnd := by
  simp [nightBand, h, Nat.not_lt.mpr hb]

/-- A band whose start is its end is empty, whatever the clock. -/
theorem nightBand_empty {v : Settings} {c : Clock} (hb : v.nightStart = v.nightEnd) : nightBand v c = false := by
  cases hu : c.unset with
  | true => exact nightBand_unset hu
  | false =>
    rw [← Bool.not_eq_true, nightBand_within hu hb.le]
    omega

/-! ## The toll -/

/-- `r` is the integer nearest to `n / d`, the upper one of two equally near: `r - 1/2 ≤ n / d < r + 1/2`. -/
def IsHalfUp (n d r : Nat) : Prop := d * (2 * r) ≤ 2 * n + d ∧ 2 * n + d < d * (2 * r + 2)

/-- The rounding of the spec for money is half up (00, "Rounding"). -/
theorem isHalfUp_roundHalfUp (n : Nat) {d : Nat} (hd : 0 < d) : IsHalfUp n d (roundHalfUp n d) := by
  have lower : 2 * d * roundHalfUp n d ≤ 2 * n + d := Nat.mul_div_le (2 * n + d) (2 * d)
  have upper : 2 * n + d < 2 * d * (roundHalfUp n d + 1) := Nat.lt_mul_div_succ (2 * n + d) (by omega)
  constructor
  · calc d * (2 * roundHalfUp n d) = 2 * d * roundHalfUp n d := by ring
      _ ≤ 2 * n + d := lower
  · calc 2 * n + d < 2 * d * (roundHalfUp n d + 1) := upper
      _ = d * (2 * roundHalfUp n d + 2) := by ring

/-- The part of `n` that a percentage takes, when its condition holds; otherwise 0. -/
def percentWhen (c : Prop) [Decidable c] (n rate : Nat) : Nat := if c then roundHalfUp (n * rate) 100 else 0

/-- A surcharge or discount is rounded half up when it applies, and is 0 when it does not. -/
theorem percentWhen_spec (c : Prop) [Decidable c] (n rate : Nat) :
    if c then IsHalfUp (n * rate) 100 (percentWhen c n rate) else percentWhen c n rate = 0 := by
  unfold percentWhen
  split
  · exact isHalfUp_roundHalfUp _ (by decide)
  · rfl

/-- The charges of R143, steps 1 to 3, summed before any surcharge. -/
def grossOf (t : Tariff) (length tonnes : Nat) : Nat :=
  t.base + roundHalfUp (t.perMetre * length) 10 + roundHalfUp (t.perTonne * tonnes) 10

/-- The toll, step by step: both surcharges on the gross, the discount on the surcharged sum, then the class minimum and
the cap. -/
theorem toll_eq (v : Settings) (night saving : Bool) (k : Nat) (cls : Fin 8) (length tonnes : Nat) :
    toll v night saving k cls length tonnes =
      (let gross := grossOf (v.tariff.nth cls) length tonnes
       let surcharged := gross + percentWhen (night = true) gross v.nightSurcharge
         + percentWhen (saving = true) gross v.waterSurcharge
       let discount := percentWhen (v.frequentThreshold ≤ k) surcharged v.frequentDiscount
       (min (max (surcharged - discount) (v.tariff.nth cls).minimum) 9999999,
         ⟨night, saving, decide (v.frequentThreshold ≤ k)⟩)) := by
  simp only [toll, decide_eq_true_eq]
  rfl

/-- Settles O53: the four cases of the night band, and the steps of the toll with each rounding's own bounds. -/
theorem tollFollowsTheFormula : Obligations.TollFollowsTheFormula := by
  refine ⟨fun v c => ⟨nightBand_unset, nightBand_crossing, fun hu hb => nightBand_within hu hb.le, nightBand_empty⟩,
    ?_, fun _ _ _ => rfl⟩
  intro v night saving k cls length tonnes isHalfUp t
  let gross := grossOf t length tonnes
  let n := percentWhen (night = true) gross v.nightSurcharge
  let s := percentWhen (saving = true) gross v.waterSurcharge
  exact ⟨_, _, n, s, percentWhen (v.frequentThreshold ≤ k) (gross + n + s) v.frequentDiscount,
    isHalfUp_roundHalfUp (t.perMetre * length) (by decide), isHalfUp_roundHalfUp (t.perTonne * tonnes) (by decide),
    percentWhen_spec _ gross _, percentWhen_spec _ gross _, percentWhen_spec _ (gross + n + s) _,
    toll_eq v night saving k cls length tonnes⟩

end Sys2Proof.Machine
end

section
/-! Accounts and their credits (08/R148). -/

namespace Sys2Proof.Machine

/-! ## The accounts of the part -/

/-- Account ids are 1 to 64 (08, section 8.6). -/
theorem accountIdOk_iff {id : Nat} : accountIdOk id = true ↔ 1 ≤ id ∧ id ≤ 64 := by simp [accountIdOk]

/-- The account found under an id carries it. -/
theorem id_of_account? {p : Plant} {id : Nat} {a : Account} (h : p.account? id = some a) : a.id = id := by
  simpa using List.find?_some h

/-- A change of one account that keeps its id shows in that account, and in no other. -/
theorem account?_setAccount {id : Nat} {fn : Account → Account} (hfn : ∀ a, a.id = id → (fn a).id = id) (f : Flow)
    (k : Nat) :
    (setAccount id fn f).toPlant.account? k
      = (f.toPlant.account? k).map fun a => if a.id = id then fn a else a := by
  have keepsId (a : Account) : (if a.id = id then fn a else a).id = a.id := by
    split
    · next h => rw [hfn a h, h]
    · rfl
  simp [Plant.account?, List.find?_map, keepsId]

/-- The changed account. -/
theorem account?_setAccount_same {id : Nat} {fn : Account → Account} (hfn : ∀ a, a.id = id → (fn a).id = id) {f : Flow}
    {a : Account} (h : f.toPlant.account? id = some a) :
    (setAccount id fn f).toPlant.account? id = some (fn a) := by
  rw [account?_setAccount hfn, h, Option.map_some, if_pos (id_of_account? h)]

/-- Every other account. -/
theorem account?_setAccount_other {id k : Nat} {fn : Account → Account} (hfn : ∀ a, a.id = id → (fn a).id = id)
    (f : Flow) (hk : k ≠ id) : (setAccount id fn f).toPlant.account? k = f.toPlant.account? k := by
  rw [account?_setAccount hfn]
  cases h : f.toPlant.account? k with
  | none => rfl
  | some a => simp [id_of_account? h, hk]

/-- A step whose blocks did nothing hands back the state it began with. -/
@[simp] theorem deliver_flow (s : State) : s.deliver s.flow = s := rfl

/-! ## ACCOUNT_CREDIT -/

section Credit

variable {rq : Rq} {id amount : Nat} {s : State} {a : Account}

theorem exec_accountCredit (rq : Rq) (id amount : Nat) (s : State) :
    exec (.accountCredit rq id amount) s = execAccountCredit rq id amount s := rfl

/-- The amount applied is the amount, or what brings the balance to its bound. -/
theorem creditApplied_eq (a : Account) (amount : Nat) :
    creditApplied a amount = if a.balance + amount ≤ 99999999 then amount else (99999999 - a.balance).toNat := by
  unfold creditApplied Config.maxBalance
  split <;> omega

/-- The account after a credit. -/
def Account.credited (a : Account) (amount : Nat) : Account :=
  { a with balance := a.balance + creditApplied a amount }

/-- A credit of nothing leaves the account as it is. -/
theorem credited_of_applied_zero (h : creditApplied a amount = 0) : a.credited amount = a := by
  simp [Account.credited, h]

/-- The blocks' state after a credit of account `id`, and the report of it: both stand when nothing is applied. -/
def creditFlow (s : State) (id : Nat) (a : Account) (amount : Nat) : Flow :=
  if creditApplied a amount = 0 then s.flow
  else accountReport s.base (a.credited amount) (setAccount id (fun _ => a.credited amount) s.flow)

/-- An admitted credit in its ranges of an account that exists is applied. -/
theorem exec_accountCredit_applied (adm : Admitted s rq 1) (hid : accountIdOk id = true)
    (hamt : ¬ (amount < 1 ∨ 99999999 < amount)) (ha : s.plant.account? id = some a) :
    exec (.accountCredit rq id amount) s = .next ((s.deliver (creditFlow s id a amount)).ok rq 0x55
      (u4 (creditApplied a amount) ++ s4 (a.credited amount).balance)) := by
  rw [exec_accountCredit]
  refine congrArg _ (serve_accept adm ?_)
  by_cases h0 : creditApplied a amount = 0 <;>
  · simp only [hid, hamt, ha, creditFlow, h0, Account.credited]
    rfl

/-- A credit changes accounts alone. -/
theorem toPlant_creditFlow (s : State) (id : Nat) (a : Account) (amount : Nat) :
    (creditFlow s id a amount).toPlant = { s.plant with accounts := (creditFlow s id a amount).accounts } := by
  unfold creditFlow
  split <;> rfl

/-- A credit is shown in its account. -/
theorem account?_creditFlow_same (ha : s.plant.account? id = some a) (amount : Nat) :
    (creditFlow s id a amount).toPlant.account? id = some (a.credited amount) := by
  unfold creditFlow
  split
  · next h0 => rw [credited_of_applied_zero h0]; exact ha
  · exact account?_setAccount_same (fn := fun _ => a.credited amount) (fun _ _ => id_of_account? (a := a) ha) ha

/-- A credit leaves every other account. -/
theorem account?_creditFlow_other (ha : s.plant.account? id = some a) (amount : Nat) {k : Nat} (hk : k ≠ id) :
    (creditFlow s id a amount).toPlant.account? k = s.plant.account? k := by
  unfold creditFlow
  split
  · rfl
  · exact account?_setAccount_other (fn := fun _ => a.credited amount) (fun _ _ => id_of_account? (a := a) ha) s.flow hk

/-- A credit is reported when it changes the balance. -/
theorem out_creditFlow (s : State) (id : Nat) (a : Account) (amount : Nat) :
    (creditFlow s id a amount).out = if creditApplied a amount = 0 then []
      else [⟨.account, u1 0x72 ++ stampBytes s.base.clock ++ (a.credited amount).bytes, none⟩] := by
  unfold creditFlow
  split <;> rfl

end Credit

/-- Settles O55: the four refusals in the order of their checks, and the credit applied. -/
theorem accountCreditRaisesTheBalance : Obligations.AccountCreditRaisesTheBalance := by
  intro rq id amount s
  refine ⟨?denied, ?badId, ?badAmount, ?noAccount, ?applied⟩
  case denied => exact fun ht hc hl => congrArg _ (serve_denied ht hc hl)
  case badId =>
    intro adm hid
    have hid : accountIdOk id = false := by rw [← Bool.not_eq_true, accountIdOk_iff]; omega
    exact congrArg _ (serve_refuse adm (by simp [hid, badField]))
  case badAmount =>
    intro adm h1 h64 hamt
    exact congrArg _ (serve_refuse adm (by simp only [accountIdOk_iff.mpr ⟨h1, h64⟩, hamt]; rfl))
  case noAccount =>
    intro adm h1 h64 hlo hhi hnone
    have hamt : ¬ (amount < 1 ∨ 99999999 < amount) := by omega
    exact congrArg _ (serve_refuse adm (by simp only [accountIdOk_iff.mpr ⟨h1, h64⟩, hamt, hnone]; rfl))
  case applied =>
    intro a adm h1 h64 hlo hhi ha n b
    have hamt : ¬ (amount < 1 ∨ 99999999 < amount) := by omega
    have hn : creditApplied a amount = n := creditApplied_eq a amount
    have hb : a.credited amount = b := by simp only [Account.credited, hn, b]
    rw [← hb, ← hn]
    exact ⟨creditFlow s id a amount, exec_accountCredit_applied adm (accountIdOk_iff.mpr ⟨h1, h64⟩) hamt ha,
      toPlant_creditFlow s id a amount, account?_creditFlow_same ha amount,
      fun _ hk => account?_creditFlow_other ha amount hk, out_creditFlow s id a amount⟩

end Sys2Proof.Machine
end

section
/-! Reading the log (08/R153). -/

namespace Sys2Proof.Machine

theorem exec_logRead (rq : Rq) (n : Nat) (s : State) : exec (.logRead rq n) s = execLogRead rq n s := rfl

/-- LOG_READ of a count out of its range is refused. -/
theorem exec_logRead_bad {rq : Rq} {n : Nat} {s : State} (adm : Admitted s rq 1) (hn : n < 1 ∨ 4 < n) :
    exec (.logRead rq n) s = .next (s.no rq 0x56 .badField (u1 1)) := by
  rw [exec_logRead]
  exact congrArg _ (serve_refuse adm (if_pos hn))

/-- LOG_READ of a count in its range replies from the head of the log, and changes nothing else. -/
theorem exec_logRead_ok {rq : Rq} {n : Nat} {s : State} (adm : Admitted s rq 1) (hn : ¬ (n < 1 ∨ 4 < n)) :
    exec (.logRead rq n) s = .next (s.ok rq 0x56
      (u2 s.base.books.log.length ++ (s.base.books.log.take n).flatMap LogRec.bytes)) := by
  rw [exec_logRead]
  exact congrArg _ (serve_accept adm (if_neg hn))

/-- Settles O56: the request by its cases; records join the log at its tail, so a reading's records stay in front. -/
theorem logReadGivesTheOldestRecords : Obligations.LogReadGivesTheOldestRecords := by
  refine ⟨fun rq n s => ⟨?denied, exec_logRead_bad, ?read⟩, ?later⟩
  case denied => exact fun ht hc hl => congrArg _ (serve_denied ht hc hl)
  case read => exact fun adm h1 h4 => exec_logRead_ok adm (by omega)
  case later => exact fun log more n => ⟨more.take (n - log.length), List.take_append.symm⟩

end Sys2Proof.Machine
end

section
/-! STATUS (10/R177). -/

namespace Sys2Proof.Machine

theorem exec_status (rq : Rq) (s : State) : exec (.status rq) s = execStatus rq s := rfl

/-- STATUS is never refused once admitted: its body is read from the state it meets, and the flag of its port is cleared
after that. -/
theorem exec_status_ok {rq : Rq} {s : State} (adm : Admitted s rq 2) :
    exec (.status rq) s = .next ((s.updPort rq.port fun k => { k with overflow := false }).ok rq 0x01
      (statusBody s rq.port)) := by
  rw [exec_status]
  exact congrArg _ (serve_accept adm rfl)

/-- Settles O12: the request by its equation; the list of R177, in its order, is `statusBody` written out. -/
theorem statusShowsThenClearsOverflow : Obligations.StatusShowsThenClearsOverflow :=
  fun _ _ adm => exec_status_ok adm

end Sys2Proof.Machine
end

section
/-! What each command keeps of the queue and of the lines' bounds (10/R171, R176). -/

namespace Sys2Proof.Machine

/-! ## A block's own work -/

/-- What a block's own work on a request leaves to the Link Unit: the queue, the number of replies waiting on each port,
and, where both lines were within their bounds, those bounds. -/
structure Tame (s t : State) : Prop where
  pending : t.pending = s.pending
  replies : ∀ p, (t.link.port p).replies.length = (s.link.port p).replies.length
  bounded : LinesBounded s → LinesBounded t

theorem linesBounded_iff (s : State) : LinesBounded s ↔ ∀ p, (s.link.port p).bounded :=
  ⟨fun h p => by cases p; exacts [h.1, h.2], fun h => ⟨h .console, h .network⟩⟩

@[simp] theorem tame_refl (s : State) : Tame s s := ⟨rfl, fun _ => rfl, id⟩

theorem Tame.trans {s t u : State} (a : Tame s t) (b : Tame t u) : Tame s u :=
  ⟨b.pending.trans a.pending, fun p => (b.replies p).trans (a.replies p), fun h => b.bounded (a.bounded h)⟩

/-- Work that leaves the queue, the waiting replies, the buffers and the report queues is tame. -/
theorem tame_of_ports {s t : State} (hq : t.pending = s.pending)
    (hp : ∀ p, (t.link.port p).buffer = (s.link.port p).buffer ∧ (t.link.port p).replies = (s.link.port p).replies
      ∧ (t.link.port p).reports = (s.link.port p).reports) : Tame s t := by
  refine ⟨hq, fun p => by rw [(hp p).2.1], fun h => ?_⟩
  rw [linesBounded_iff] at h ⊢
  intro p
  obtain ⟨hb, hr, hs⟩ := hp p
  simpa [PortRec.bounded, hb, hr, hs] using h p

/-- Work that leaves the queue and both ports is tame. -/
theorem tame_of_link {s t : State} (hq : t.pending = s.pending) (hc : t.link.console = s.link.console)
    (hn : t.link.network = s.link.network) : Tame s t :=
  tame_of_ports hq fun p => by cases p <;> simp [Link.port, hc, hn]

@[simp] theorem tame_deliver (s : State) (f : Flow) : Tame s (s.deliver f) :=
  ⟨rfl, fun p => congrArg List.length (replies_deliver s f p), deliver_bounded f⟩

@[simp] theorem tame_conclude (s : State) (f : Flow) : Tame s (s.conclude f) := tame_deliver s _

@[simp] theorem tame_withSettings (s : State) (v : Settings) : Tame s (s.withSettings v) := tame_of_link rfl rfl rfl
@[simp] theorem tame_withScanner (s : State) (x : Scanner) : Tame s (s.withScanner x) := tame_of_link rfl rfl rfl
@[simp] theorem tame_withPins (s : State) (x : Pins) : Tame s (s.withPins x) := tame_of_link rfl rfl rfl
@[simp] theorem tame_withBooks (s : State) (x : Books) : Tame s (s.withBooks x) := tame_of_link rfl rfl rfl
@[simp] theorem tame_updGauge (s : State) (c : Fin 8) (fn : Gauge → Gauge) : Tame s (s.updGauge c fn) :=
  tame_of_link rfl rfl rfl
@[simp] theorem tame_withBase (s : State) (v : Base) : Tame s { s with base := v } := tame_of_link rfl rfl rfl

theorem tame_settingTaken (s : State) (k : Setting) : Tame s (s.settingTaken k) := by
  unfold State.settingTaken
  split
  case h_1 | h_2 => exact (tame_withBase s _).trans (tame_deliver _ _)
  case h_6 => exact tame_refl s
  all_goals exact tame_conclude s _

theorem tame_committed (s : State) (c : Fin 8) (gain offset : Int) : Tame s (s.committed c gain offset) :=
  (tame_withBase s _).trans ((tame_deliver _ _).trans (tame_deliver _ _))

/-- Only the assembly, the mask, the rate, the overflow flag, the frame being sent or the owed reply of a port differ. -/
theorem tame_updPort {s : State} {p : Port} {fn : PortRec → PortRec}
    (h : ∀ k, (fn k).buffer = k.buffer ∧ (fn k).replies = k.replies ∧ (fn k).reports = k.reports) :
    Tame s (s.updPort p fn) := by
  refine tame_of_ports rfl fun q => ?_
  by_cases e : p = q
  · subst e; simpa using h _
  · simp [port_setPort_other p q _ _ e]

/-! ## A command -/

/-- What a command keeps: the queue, and the lines' bounds. -/
structure Orderly (s t : State) : Prop where
  pending : t.pending = s.pending
  bounded : LinesBounded s → LinesBounded t

theorem Tame.orderly {s t : State} (h : Tame s t) : Orderly s t := ⟨h.pending, h.bounded⟩

@[simp] theorem orderly_refl (s : State) : Orderly s s := ⟨rfl, id⟩

theorem Orderly.trans {s t u : State} (a : Orderly s t) (b : Orderly t u) : Orderly s u :=
  ⟨b.pending.trans a.pending, fun h => b.bounded (a.bounded h)⟩

/-- A port record replaced by one within its bounds. -/
theorem orderly_updPort {s : State} {p : Port} {fn : PortRec → PortRec}
    (h : (s.link.port p).bounded → (fn (s.link.port p)).bounded) : Orderly s (s.updPort p fn) := by
  refine ⟨rfl, fun hb => ?_⟩
  rw [linesBounded_iff] at hb ⊢
  intro q
  by_cases e : p = q
  · subst e; simpa using h (hb p)
  · simpa [port_setPort_other p q _ _ e] using hb q

/-- A reply joins a line that has room. -/
theorem orderly_reply {s : State} {p : Port} (room : (s.link.port p).replies.length < Config.maxReplies)
    (kind tag : Nat) (st : Status) (body : List Byte) (a : AfterSent) : Orderly s (s.reply p kind tag st body a) :=
  orderly_updPort (fn := fun r => { r with replies := r.replies ++ [⟨(kind + 0x80) % 256, tag, st.code, body, a⟩] })
    fun hb => ⟨hb.1, by simpa using Nat.succ_le_of_lt room, hb.2.2⟩

theorem room_of_takes {s : State} {p : Port} (h : s.takes p = true) :
    (s.link.port p).replies.length < Config.maxReplies := by
  simp only [State.takes, Bool.and_eq_true, decide_eq_true_eq] at h
  exact h.1.1.2

/-- A request whose block's work is tame is answered within the bounds. -/
theorem orderly_serve {rq : Rq} {kind required : Nat} {act : State → Answer} {s : State}
    (h : Tame s (act s).state) : Orderly s (serve rq kind required act s) := by
  by_cases ht : s.takes rq.port = true
  case neg => rw [serve_not_taken (by simpa using ht)]; exact orderly_refl s
  have room := room_of_takes ht
  by_cases hc : 2 < rq.claimed
  case pos => rw [serve_bad_level ht hc]; exact orderly_reply room _ _ _ _ _
  have hc := Nat.not_lt.mp hc
  by_cases hd : required < effectiveLevel s rq
  case pos => rw [serve_denied ht hc hd]; exact orderly_reply room _ _ _ _ _
  rw [serve_admitted ⟨ht, hc, Nat.not_lt.mp hd⟩]
  split
  · exact h.orderly.trans (orderly_reply ((h.replies _).trans_lt room) _ _ _ _ _)
  · exact h.orderly

end Sys2Proof.Machine
end

section
/-! Every command answers, keeps the queue, and keeps the lines within their bounds (log 1, 42; 10/R171, R176). -/

namespace Sys2Proof.Machine

@[simp] theorem state_accept (s : State) (body : List Byte) : (accept s body).state = s := rfl
@[simp] theorem state_refuse (s : State) (st : Status) : (refuse s st).state = s := rfl
@[simp] theorem state_badField (s : State) (k : Nat) : (badField s k).state = s := rfl
@[simp] theorem state_badTogether (s : State) : (badTogether s).state = s := rfl
@[simp] theorem state_gateTaken (s : State) (g : Fin 4) (f : Flow) : (gateTaken s g f).state = s.conclude f := rfl

/-! ## Requests -/

theorem tame_keeperOpen (ready : Base → Plant → Fin 4 → Bool) (g : Fin 4) (s : State) :
    Tame s (keeperOpen ready g s).state := by
  unfold keeperOpen
  dsimp only
  (repeat' split) <;> simp

theorem tame_keeperClose (g : Fin 4) (s : State) : Tame s (keeperClose g s).state := by
  unfold keeperClose
  (repeat' split) <;> simp

theorem tame_keeperReset (g : Fin 4) (s : State) : Tame s (keeperReset g s).state := by
  unfold keeperReset
  dsimp only
  (repeat' split) <;> simp

theorem tame_keeperRelease (g : Fin 4) (s : State) : Tame s (keeperRelease g s).state := by
  unfold keeperRelease
  dsimp only
  split <;> simp

/-- The checks that every GATE_CMD shares change nothing. -/
theorem orderly_gateCommand {act : Fin 4 → State → Answer} (h : ∀ g s, Tame s (act g s).state) (rq : Rq) (gate : Nat)
    (s : State) : Orderly s (gateCommand rq gate act s) := by
  refine orderly_serve ?_
  dsimp only
  split
  · simp
  · (repeat' split) <;> simp [h]

/-- A passage that joins the queue changes the books and the blocks alone. -/
theorem tame_joined (s : State) (p : Passage) (f : Flow) : Tame s ((s.joined p).1.conclude f) :=
  Tame.trans (t := (s.joined p).1) (tame_of_link rfl rfl rfl) (tame_conclude _ f)

theorem tame_flightCheck {s : State} {d : Declaration} {pay : Option Nat} {a : Answer}
    (h : flightCheck s d pay = some a) : Tame s a.state := by
  unfold flightCheck at h
  grind [tame_refl, state_refuse, state_badField]

theorem tame_passRequest (rq : Rq) (d : Declaration) (s : State) : Tame s (passRequest rq d s).state := by
  unfold passRequest
  split
  · split
    · simp
    · split
      · next h => exact tame_flightCheck h
      · exact tame_joined s _ _
  · simp
  · simp

/-- Work on new books changes neither the queue nor the lines but the reports that wait. -/
theorem tame_booked (s : State) (x : Books) (f : Flow) : Tame s ((s.withBooks x).conclude f) :=
  (tame_withBooks s x).trans (tame_conclude _ f)

/-- Every request answers, keeps the queue, and keeps the lines within their bounds. -/
theorem runRequest_orderly (i : Instr) (s : State) : ∃ t, runRequest i s = .next t ∧ Orderly s t := by
  cases i
  case gateCmdOpen | gateCmdForceOpen => exact ⟨_, rfl, orderly_gateCommand (tame_keeperOpen _) _ _ _⟩
  case gateCmdClose => exact ⟨_, rfl, orderly_gateCommand tame_keeperClose _ _ _⟩
  case gateCmdReset => exact ⟨_, rfl, orderly_gateCommand tame_keeperReset _ _ _⟩
  case gateCmdRelease => exact ⟨_, rfl, orderly_gateCommand tame_keeperRelease _ _ _⟩
  case status rq =>
    exact ⟨_, rfl, orderly_serve (tame_updPort (p := rq.port) (fn := fun k => { k with overflow := false })
      fun _ => ⟨rfl, rfl, rfl⟩)⟩
  case subscribe rq mask =>
    refine ⟨_, rfl, orderly_serve ?_⟩
    dsimp only
    split
    · exact tame_refl s
    · exact tame_updPort (p := rq.port) (fn := fun k => { k with mask := _ }) fun _ => ⟨rfl, rfl, rfl⟩
  case settingsStore =>
    refine ⟨_, rfl, orderly_serve ?_⟩
    dsimp only
    split
    · exact tame_refl s
    · exact tame_of_link rfl rfl rfl
  case settingSet =>
    refine ⟨_, rfl, orderly_serve ?_⟩
    dsimp only
    split
    · simp
    · split
      · simp
      · split
        · simp
        · simp
        · exact (tame_withSettings s _).trans (tame_settingTaken _ _)
  case calCommit =>
    refine ⟨_, rfl, orderly_serve ?_⟩
    dsimp only
    (repeat' split) <;> simp [tame_committed]
  case passRequest => exact ⟨_, rfl, orderly_serve (tame_passRequest _ _ _)⟩
  case cleared | remove | logDrop =>
    refine ⟨_, rfl, orderly_serve ?_⟩
    dsimp only
    (repeat' split) <;> simp [tame_booked]
  case periodClose =>
    refine ⟨_, rfl, orderly_serve (Tame.trans ?_ (tame_deliver _ _))⟩
    exact tame_of_link rfl rfl rfl
  case standdown =>
    refine ⟨_, rfl, orderly_serve ?_⟩
    dsimp only
    split <;> simp
  case flightClose | flightOpen => exact ⟨_, rfl, orderly_serve (tame_conclude _ _)⟩
  case powerOn | warmStart | powerLoss | receiveByte | framingErrorByte | frameGapTimeout | frameTaken | transmitterFree
      | settingsStoreDone | scan | floodCleared | calCaptured | gateLimitInput | beamInput | beamClearExpiry | travelTimeout
      | sluicePositionInput | sluiceStepTimeout | intervalMet | stepTimerExpiry | levellingComplete | levellingTimeLimit
      | suspensionTimeout | clearanceMarginExpiry | lampFail | lampCurrentInput | lampStray | idleHoldExpiry
      | preparationRetryExpiry | drawLeavesWindow | drawEntryExpiry | entryBerthExpiry | shiftBerthExpiry | overdueRepeat
      | mainsInput | batteryInput | deadlineExpiry => exact ⟨s, rfl, orderly_refl s⟩
  all_goals
    refine ⟨_, rfl, orderly_serve ?_⟩
    try dsimp only
    (repeat' split) <;> simp

/-! ## The lines -/

theorem bounded_sendNext {k : PortRec} (h : k.bounded) : k.sendNext.bounded := by
  unfold PortRec.sendNext
  split
  · next o rest e => exact ⟨h.1, by have := h.2.1; rw [e, List.length_cons] at this; exact (Nat.le_succ _).trans this, h.2.2⟩
  · next r rest _ e =>
    exact ⟨h.1, h.2.1, by have := h.2.2; rw [e, List.length_cons] at this; exact (Nat.le_succ _).trans this⟩
  · exact h

theorem tame_afterSent (s : State) (a : AfterSent) : Tame s (s.afterSent a) := by
  cases a
  · exact tame_refl s
  · exact tame_of_link rfl rfl rfl
  · exact tame_updPort (fn := fun k => { k with rate := _, asm := .hunting }) fun _ => ⟨rfl, rfl, rfl⟩

theorem tame_finishSending (s : State) (p : Port) : Tame s (s.finishSending p) := by
  unfold State.finishSending
  split
  · exact tame_refl s
  · refine Tame.trans ?_ (tame_afterSent _ _)
    exact tame_updPort fun _ => ⟨rfl, rfl, rfl⟩

theorem orderly_payOwed (s : State) (p : Port) : Orderly s (s.payOwed p) := by
  unfold State.payOwed
  split
  · exact orderly_refl s
  · split
    · next room =>
      refine Orderly.trans ?_ (orderly_reply (by simpa using room) _ _ _ _ _)
      exact Tame.orderly (tame_updPort fun _ => ⟨rfl, rfl, rfl⟩)
    · exact orderly_refl s

theorem orderly_transmitterFree (p : Port) (s : State) : ∃ t, execTransmitterFree p s = .next t ∧ Orderly s t := by
  refine ⟨_, rfl, ?_⟩
  dsimp only
  split
  · refine (tame_finishSending s p).orderly.trans ?_
    split
    · exact orderly_refl _
    · exact (orderly_updPort bounded_sendNext).trans (orderly_payOwed _ p)
  · exact orderly_refl s

theorem orderly_joinBuffer (s : State) (p : Port) (x : Frame) : Orderly s (s.joinBuffer p x) := by
  unfold State.joinBuffer
  split
  · next room => exact orderly_updPort fun h => ⟨by simpa using Nat.succ_le_of_lt room, h.2⟩
  · split
    · next room => exact orderly_reply room _ _ _ _ _
    · exact orderly_refl s

theorem orderly_receiveByte (p : Port) (b : Byte) (s : State) : ∃ t, execReceiveByte p b s = .next t ∧ Orderly s t := by
  have keep (asm : Assembly) : Orderly s (s.updPort p fun k => { k with asm := asm }) :=
    Tame.orderly (tame_updPort fun _ => ⟨rfl, rfl, rfl⟩)
  refine ⟨_, rfl, ?_⟩
  split
  · split
    · exact keep _
    · exact (keep _).trans (orderly_joinBuffer _ p _)
  · exact orderly_refl s

theorem orderly_judgeFrame {p : Port} {s : State} (room : (s.link.port p).replies.length < Config.maxReplies) (x : Frame) :
    ∃ t, judgeFrame p x s = .next t ∧ Orderly s t := by
  have refusal (st : Status) (body : List Byte) : ∃ t, (Host.Outcome.next (s.reply p x.kind x.tag st body .nothing) : Result)
      = .next t ∧ Orderly s t := ⟨_, rfl, orderly_reply room _ _ _ _ _⟩
  unfold judgeFrame
  dsimp only
  (repeat' split) <;> first | exact refusal _ _ | exact runRequest_orderly _ s

theorem orderly_frameTaken (p : Port) (s : State) : ∃ t, execFrameTaken p s = .next t ∧ Orderly s t := by
  unfold execFrameTaken
  split
  · next ht =>
    split
    · exact ⟨s, rfl, orderly_refl s⟩
    · next x rest e =>
      have pop : Orderly s (s.updPort p fun k => { k with buffer := rest }) := orderly_updPort fun h =>
        ⟨by have := h.1; rw [e, List.length_cons] at this; exact (Nat.le_succ _).trans this, h.2⟩
      obtain ⟨t, ht, h⟩ := orderly_judgeFrame (s := s.updPort p fun k => { k with buffer := rest })
        (p := p) (by simpa using room_of_takes ht) x
      exact ⟨t, ht, pop.trans h⟩
  · exact ⟨s, rfl, orderly_refl s⟩

theorem orderly_storeReply (s : State) (p : Port) (tag : Nat) : Orderly s (s.storeReply p tag) := by
  unfold State.storeReply
  dsimp only
  split
  · next room => exact orderly_reply room _ _ _ _ _
  · exact Tame.orderly (tame_updPort (fn := fun k => { k with owed := some tag }) fun _ => ⟨rfl, rfl, rfl⟩)

theorem orderly_settingsStoreDone (s : State) : ∃ t, execSettingsStoreDone s = .next t ∧ Orderly s t := by
  refine ⟨_, rfl, ?_⟩
  split
  · refine Orderly.trans ?_ (orderly_storeReply _ _ _)
    exact Tame.orderly (tame_of_link rfl rfl rfl)
  · exact orderly_refl s

/-! ## The supply -/

theorem bounded_start (rate : Nat) (mask : BitVec 5) : (PortRec.start rate mask).bounded :=
  ⟨Nat.zero_le _, Nat.zero_le _, Nat.zero_le _⟩

theorem orderly_losePower (s : State) : Orderly s s.losePower :=
  ⟨rfl, fun _ => ⟨bounded_start _ _, bounded_start _ _⟩⟩

theorem orderly_start (cold kept : Bool) (s : State) : Orderly s (s.start cold kept) :=
  ⟨rfl, fun _ => deliver_bounded _ ⟨bounded_start _ _, bounded_start _ _⟩⟩

theorem orderly_powerOn (kept : Bool) (s : State) : ∃ t, execPowerOn kept s = .next t ∧ Orderly s t := by
  refine ⟨_, rfl, ?_⟩
  split
  · exact (orderly_losePower s).trans (orderly_start _ _ _)
  · exact orderly_start _ _ _

/-! ## Every command -/

/-- A command with a condition, which otherwise leaves the state. -/
theorem orderly_if {s t : State} (c : Prop) [Decidable c] (h : Orderly s t) : Orderly s (if c then t else s) := by
  split
  · exact h
  · exact orderly_refl s

/-- An input: its pin follows, and the blocks react where the condition holds. -/
theorem orderly_input (s : State) (x : Pins) (f : Flow) (c : Prop) [Decidable c] :
    Orderly s (if c then (s.withPins x).conclude f else s.withPins x) := by
  have pins := (tame_withPins s x).orderly
  split
  · exact pins.trans (tame_conclude _ f).orderly
  · exact pins

/-- Every command answers, keeps the queue, and keeps the lines within their bounds. -/
theorem exec_orderly (i : Instr) (s : State) : ∃ t, exec i s = .next t ∧ Orderly s t := by
  have request := runRequest_orderly i s
  cases i
  case powerOn kept => exact orderly_powerOn kept s
  case warmStart => exact ⟨_, rfl, orderly_if _ (orderly_start _ _ s)⟩
  case powerLoss => exact ⟨_, rfl, orderly_if _ (orderly_losePower s)⟩
  case receiveByte p b => exact orderly_receiveByte p b s
  case framingErrorByte | frameGapTimeout =>
    exact ⟨_, rfl, orderly_if _ (Tame.orderly (tame_updPort fun _ => ⟨rfl, rfl, rfl⟩))⟩
  case frameTaken p => exact orderly_frameTaken p s
  case transmitterFree p => exact orderly_transmitterFree p s
  case settingsStoreDone => exact orderly_settingsStoreDone s
  case scan | floodCleared =>
    exact ⟨_, rfl, orderly_if _ ((tame_withScanner s _).trans (tame_conclude _ _)).orderly⟩
  case calCaptured c =>
    refine ⟨_, rfl, ?_⟩
    split
    · exact orderly_if _ ((tame_withBase s _).trans (tame_deliver _ _)).orderly
    · exact orderly_refl s
  case gateLimitInput | beamInput | sluicePositionInput | lampCurrentInput | mainsInput | batteryInput =>
    exact ⟨_, rfl, orderly_input s _ _ _⟩
  case drawEntryExpiry => exact ⟨_, rfl, orderly_if _ (tame_deliver s _).orderly⟩
  case beamClearExpiry | travelTimeout | sluiceStepTimeout | intervalMet | stepTimerExpiry | levellingTimeLimit
      | suspensionTimeout | clearanceMarginExpiry | lampFail | lampStray | drawLeavesWindow | deadlineExpiry =>
    exact ⟨_, rfl, orderly_if _ (tame_conclude s _).orderly⟩
  case levellingComplete => exact ⟨_, rfl, orderly_if _ (tame_conclude s _).orderly⟩
  case idleHoldExpiry | entryBerthExpiry | shiftBerthExpiry | overdueRepeat | preparationRetryExpiry =>
    refine ⟨_, rfl, Tame.orderly ?_⟩
    (repeat' split) <;> simp
  all_goals exact request

/-- Settles O3: every command is orderly. -/
theorem everyCommandAnswersAndKeepsTheQueue : Obligations.EveryCommandAnswersAndKeepsTheQueue := fun c s =>
  let ⟨t, e, h⟩ := exec_orderly c s
  ⟨t, e, h.pending⟩

/-- Settles O11: the step is a command, which is orderly, or the time base, which leaves the lines. -/
theorem stepKeepsLinesBounded : Obligations.StepKeepsLinesBounded := by
  intro s t hs hstep
  unfold step at hstep
  split at hstep
  · obtain rfl := Host.Outcome.next.inj hstep
    unfold tick
    split <;> exact hs
  · next c rest _ =>
    obtain ⟨u, e, h⟩ := exec_orderly c (s.withPending rest)
    obtain rfl := Host.Outcome.next.inj (e.symm.trans hstep)
    exact h.bounded hs

end Sys2Proof.Machine
end

section
/-! The lines: assembly, judged frames, the transmitter, and the report queue (10/R169 to R176; log 1, 2, 6). -/

namespace Sys2Proof.Machine

/-! ## The queue and the time base -/

/-- Settles O1. -/
theorem stepRunsTheFrontOfTheQueue : Obligations.StepRunsTheFrontOfTheQueue := fun _ _ _ => rfl

/-- Settles O2: by the supply; and the clock by what stands before midnight. -/
theorem emptyQueueLetsTimePass : Obligations.EmptyQueueLetsTimePass := by
  refine ⟨fun s hq => ⟨fun hp => ?_, fun hp => ?_⟩, fun c _ => ⟨fun h => ?_, fun h hd => ?_, fun h hd => ?_⟩⟩
  · simp [step, hq, tick, hp]
  · simp [step, hq, tick, hp]
  · have : c.tod + 1 < 864000 := by omega
    simp [Clock.tick, this]
  · simp [Clock.tick, h, Nat.mod_eq_of_lt (show c.day + 1 < 65536 by omega)]
  · simp [Clock.tick, h, hd]

/-! ## Ports -/

theorem updPort_updPort (s : State) (p : Port) (f g : PortRec → PortRec) :
    (s.updPort p f).updPort p g = s.updPort p (g ∘ f) := by cases p <;> rfl

/-- Changes of the two ports do not meet. -/
theorem updPort_comm {p q : Port} (h : p ≠ q) (s : State) (f g : PortRec → PortRec) :
    (s.updPort p f).updPort q g = (s.updPort q g).updPort p f := by
  cases p <;> cases q <;> first | rfl | exact absurd rfl h

theorem port_updPort_same (s : State) (p : Port) (f : PortRec → PortRec) :
    (s.updPort p f).link.port p = f (s.link.port p) := by simp

theorem port_updPort_other {p q : Port} (h : p ≠ q) (s : State) (f : PortRec → PortRec) :
    (s.updPort p f).link.port q = s.link.port q := by simp [port_setPort_other p q _ _ h]

/-! ## Assembly (10/R170, R171) -/

section Assembly

variable {p : Port} {b n : Byte} {bs : List Byte} {k : Nat} {s : State}

/-- A byte that completes no frame changes the assembly alone. -/
theorem exec_receiveByte_incomplete (hp : s.powered = true) {asm : Assembly}
    (h : (s.link.port p).asm.take s.base.elapsed b = (asm, none)) :
    exec (.receiveByte p b) s = .next (s.updPort p fun r => { r with asm := asm }) := by
  show execReceiveByte p b s = _
  simp only [execReceiveByte, hp, if_true, h]

/-- A frame completed, its CRC matching, meets the buffer. -/
theorem exec_receiveByte_complete (hp : s.powered = true) {asm : Assembly} {x : Frame}
    (h : (s.link.port p).asm.take s.base.elapsed b = (asm, some x)) :
    exec (.receiveByte p b) s = .next ((s.updPort p fun r => { r with asm := asm }).joinBuffer p x) := by
  show execReceiveByte p b s = _
  simp only [execReceiveByte, hp, if_true, h]

theorem take_collecting (now : Nat) (h : bs.length + 2 < n.toNat + 3) :
    (Assembly.part (n :: bs) k).take now b = (.part (n :: bs ++ [b]) now, none) := by
  simp [Assembly.take, h]

/-- The byte after which the frame holds its length and two more ends the assembly. -/
theorem take_completing (now : Nat) (h : bs.length + 2 = n.toNat + 3) : (Assembly.part (n :: bs) k).take now b =
    (.hunting, if crcMatches (n :: bs ++ [b]) then some (frameOf (n :: bs ++ [b])) else none) := by
  simp [Assembly.take, h]

/-- A frame is buffered where fewer than 4 wait, answered BUSY where the reply line has room, and dropped otherwise. -/
theorem joinBuffer_cases (s : State) (p : Port) (x : Frame) :
    ((s.link.port p).buffer.length < 4 → s.joinBuffer p x = s.updPort p fun k => { k with buffer := k.buffer ++ [x] })
    ∧ (4 ≤ (s.link.port p).buffer.length → (s.link.port p).replies.length < 8 →
      s.joinBuffer p x = s.reply p x.kind x.tag .busy [] .nothing)
    ∧ (4 ≤ (s.link.port p).buffer.length → 8 ≤ (s.link.port p).replies.length → s.joinBuffer p x = s) := by
  unfold State.joinBuffer Config.maxBuffer Config.maxReplies
  refine ⟨fun h => if_pos h, fun h k => ?_, fun h k => ?_⟩
  · rw [if_neg (by omega), if_pos k]
  · rw [if_neg (by omega), if_neg (by omega)]

end Assembly

/-- Settles O5: each event by the assembly it meets. -/
theorem huntingTakesOnlyTheStartByte : Obligations.HuntingTakesOnlyTheStartByte := by
  intro p s hp
  refine ⟨fun b h => exec_receiveByte_incomplete hp (by rw [h]; rfl), ?_, ?_⟩
  · exact congrArg _ (if_pos hp)
  · exact congrArg _ (if_pos hp)

/-- Settles O6: the length byte, and a byte that does not complete the frame. -/
theorem partialFrameCollectsBytes : Obligations.PartialFrameCollectsBytes := by
  intro p b s hp
  refine ⟨fun k h => exec_receiveByte_incomplete hp ?_, fun n bs k h hlen => exec_receiveByte_incomplete hp ?_⟩
  · simp [h, Assembly.take, lengthOk]
  · rw [h, take_collecting _ hlen]

/-- Settles O7: the assembly ends, and a frame whose CRC matches meets the buffer as it was. -/
theorem completeFrameIsBufferedOrAnsweredBusy : Obligations.CompleteFrameIsBufferedOrAnsweredBusy := by
  intro p b n bs k s hp h hlen x t
  have done := take_completing (b := b) (k := k) s.base.elapsed hlen
  refine ⟨fun hcrc => exec_receiveByte_incomplete hp (by rw [h, done, hcrc]; rfl), fun hcrc => ?_⟩
  have e : exec (.receiveByte p b) s = .next (t.joinBuffer p x) :=
    exec_receiveByte_complete hp (by rw [h, done, hcrc]; rfl)
  have hport : t.link.port p = { s.link.port p with asm := .hunting } := port_updPort_same s p _
  have cases := joinBuffer_cases t p x
  rw [hport] at cases
  obtain ⟨buffered, busy, dropped⟩ := cases
  exact ⟨fun hb => e.trans (congrArg _ (buffered hb)), fun hb hr => e.trans (congrArg _ (busy hb hr)),
    fun hb hr => e.trans (congrArg _ (dropped hb hr))⟩

/-! ## Taking a frame (10/R171, R173) -/

theorem gateAction_runs {rq : Rq} {g a : Nat} {i : Instr} (h : gateAction rq g a = some i) (s : State) :
    runRequest i s = exec i s := by
  unfold gateAction at h
  split at h
  all_goals first | (obtain rfl := Option.some.inj h; rfl) | exact absurd h (by simp)

theorem levelAction_runs {rq : Rq} {g a : Nat} {i : Instr} (h : levelAction rq g a = some i) (s : State) :
    runRequest i s = exec i s := by
  unfold levelAction at h
  split at h
  all_goals first | (obtain rfl := Option.some.inj h; rfl) | exact absurd h (by simp)

/-- What a frame spells is a request, which runs as the command of its row (log 5). -/
theorem decodeRequest_runs {rq : Rq} {kind : Nat} {b : List Byte} {i : Instr} (h : decodeRequest rq kind b = some i)
    (s : State) : runRequest i s = exec i s := by
  unfold decodeRequest at h
  split at h
  case h_14 => exact gateAction_runs h s
  case h_17 => exact levelAction_runs h s
  case h_10 | h_15 | h_19 =>
    obtain rfl := Option.some.inj h
    split <;> rfl
  case h_50 => exact absurd h (by simp)
  all_goals
    obtain rfl := Option.some.inj h
    rfl

theorem exec_frameTaken {p : Port} {x : Frame} {rest : List Frame} {s : State} (ht : s.takes p = true)
    (hb : (s.link.port p).buffer = x :: rest) :
    exec (.frameTaken p) s = judgeFrame p x (s.updPort p fun r => { r with buffer := rest }) := by
  show execFrameTaken p s = _
  unfold execFrameTaken
  rw [if_pos ht]
  split
  · next e => rw [hb] at e; cases e
  · next y ys e =>
    obtain ⟨rfl, rfl⟩ := List.cons.inj (hb.symm.trans e)
    rfl

/-- Settles O8: the frame leaves the buffer, and the judgement's branches stand in the order of the rule. -/
theorem takenFrameIsJudgedThenRun : Obligations.TakenFrameIsJudgedThenRun := by
  intro p x rest s ht hb t rq
  have e : exec (.frameTaken p) s = judgeFrame p x t := exec_frameTaken ht hb
  have level : effectiveLevel t rq = effectiveLevel s rq := rfl
  rw [e]
  unfold judgeFrame
  refine ⟨fun hk => by rw [hk]; rfl, fun required lengths hk => ?_⟩
  rw [hk]
  refine ⟨fun h2 => if_pos h2, fun h2 hr => ?_, fun h2 hr hl => ?_, fun h2 hr hl i hi => ?_⟩
  · simp only [Nat.not_lt.mpr h2, if_false]
    exact if_pos hr
  · simp only [Nat.not_lt.mpr h2, if_false]
    rw [if_neg (by rw [level]; omega), if_pos (by simpa using hl)]
    rfl
  · simp only [Nat.not_lt.mpr h2, if_false]
    rw [if_neg (by rw [level]; omega), if_neg (by simpa using hl), hi]
    exact decodeRequest_runs hi t

/-! ## Sending (10/R169, R172) -/

/-- A part that waits for no start, with no store's reply owed on the port: the frame before is finished, and the next
one begins. -/
theorem exec_transmitterFree {p : Port} {s : State} (hp : s.powered = true)
    (hd : (s.finishSending p).link.restartDue = false)
    (ho : ((s.finishSending p).link.port p).sendNext.owed = none) :
    exec (.transmitterFree p) s = .next ((s.finishSending p).updPort p PortRec.sendNext) := by
  show execTransmitterFree p s = _
  have paid : ((s.finishSending p).updPort p PortRec.sendNext).payOwed p
      = (s.finishSending p).updPort p PortRec.sendNext := by
    unfold State.payOwed
    rw [port_updPort_same, ho]
  simp only [execTransmitterFree, hp, hd, if_true, paid]
  rfl

theorem owed_sendNext (k : PortRec) : k.sendNext.owed = k.owed := by
  unfold PortRec.sendNext
  split <;> rfl

/-- What a finished frame leaves where it brings no RESTART: the rate it granted, if any, and a port that sends nothing. -/
theorem finishSending_eq {p : Port} {s x : State}
    (h : ((∀ o, (s.link.port p).sending = some o → o.after = .nothing) ∧ x = s)
      ∨ ∃ o q n, (s.link.port p).sending = some o ∧ o.after = .rate q n
        ∧ x = s.updPort q fun r => { r with rate := n, asm := .hunting }) :
    s.finishSending p = x.updPort p fun r => { r with sending := none } := by
  unfold State.finishSending
  obtain ⟨hn, rfl⟩ | ⟨o, q, n, ho, ha, rfl⟩ := h
  · split
    · next e => cases p <;> simp only [State.updPort, Link.setPort, Link.port] at e ⊢ <;> rw [← e]
    · next o e => rw [hn o e]; rfl
  · rw [ho]
    dsimp only
    rw [ha]
    dsimp only [State.afterSent]
    by_cases hq : p = q
    · subst hq
      rw [updPort_updPort, updPort_updPort]
      rfl
    · exact updPort_comm hq _ _ _

/-- Settles O9: the finished frame, then what waits on the port. -/
theorem transmitterSendsRepliesBeforeReports : Obligations.TransmitterSendsRepliesBeforeReports := by
  intro p s x hp hd ho hx
  have fin := finishSending_eq hx
  have same : (x.link.port p).replies = (s.link.port p).replies ∧ (x.link.port p).reports = (s.link.port p).reports
      ∧ (x.link.port p).owed = (s.link.port p).owed ∧ x.link.restartDue = s.link.restartDue := by
    obtain ⟨-, rfl⟩ | ⟨o, q, n, -, -, rfl⟩ := hx
    · exact ⟨rfl, rfl, rfl, rfl⟩
    · cases p <;> cases q <;> exact ⟨rfl, rfl, rfl, rfl⟩
  obtain ⟨hreplies, hreports, howed, hdue⟩ := same
  have e : exec (.transmitterFree p) s
      = .next (x.updPort p (PortRec.sendNext ∘ fun r => { r with sending := none })) := by
    rw [exec_transmitterFree hp, fin, updPort_updPort]
    · rw [fin]; simpa [hdue] using hd
    · rw [fin, owed_sendNext, port_updPort_same]; exact howed.trans ho
  rw [e, ← hreplies, ← hreports]
  refine ⟨fun o rest h => ?_, fun r rest h h' => ?_, fun h h' => ?_⟩
  · simp [State.updPort, PortRec.sendNext, h]
  · simp [State.updPort, PortRec.sendNext, h, h', Report.frame]
  · simp [State.updPort, PortRec.sendNext, h, h']

/-! ## The report queue (10/R175, R176) -/

theorem dropNonAlarm_none {rs : List Report} (h : ∀ x ∈ rs, x.cls = .alarm) : dropNonAlarm rs = none := by
  induction rs with
  | nil => rfl
  | cons r rest ih => simp [dropNonAlarm, h r (by simp), ih fun x hx => h x (by simp [hx])]

/-- The report that leaves is the oldest that is no alarm. -/
theorem dropNonAlarm_first {a b : List Report} {x : Report} (ha : ∀ y ∈ a, y.cls = .alarm) (hx : x.cls ≠ .alarm) :
    dropNonAlarm (a ++ x :: b) = some (a ++ b) := by
  induction a with
  | nil => simp [dropNonAlarm, hx]
  | cons r rest ih => simp [dropNonAlarm, ha r (by simp), ih fun y hy => ha y (by simp [hy])]

/-- A report is placed on a port whose mask has its class, and on the port it names beside. -/
theorem port_place (l : Link) (r : Report) (p : Port) :
    (l.place r).port p = if maskHas (l.port p).mask r.cls || r.also == some p then (l.port p).queue r else l.port p := by
  cases p <;> rfl

/-- Settles O10: a report on the ports, then on one queue by its length and the classes that wait on it. -/
theorem fullReportQueueKeepsAlarms : Obligations.FullReportQueueKeepsAlarms := by
  refine ⟨fun l r p => ⟨fun h => ?_, fun h h' => ?_⟩, fun _ _ => rfl, fun _ _ _ => ⟨rfl, rfl⟩, fun k r => ?_⟩
  · rw [port_place, if_pos (by simpa [maskHas] using h)]
  · rw [port_place, if_neg (by simpa [maskHas] using ⟨h, h'⟩)]
  unfold PortRec.queue Config.maxReports
  refine ⟨fun h => if_pos h, fun h hc => ?_, fun h hc hall => ?_, fun h hc a x b e ha hx => ?_⟩
  · rw [if_neg (Nat.not_lt.mpr h), if_pos hc]
  · rw [if_neg (Nat.not_lt.mpr h), if_neg (not_not.mpr hc), dropNonAlarm_none hall]
  · rw [if_neg (Nat.not_lt.mpr h), if_neg (not_not.mpr hc), e, dropNonAlarm_first ha hx]

end Sys2Proof.Machine
end

section
/-! The Link Unit's requests, the settings store and the clock (10/R174 to R180; 08/R141). -/

namespace Sys2Proof.Machine

/-- Settles O13: the two requests by their conditions; on the network port the ceiling alone denies NET_LEVEL. -/
theorem subscribeAndNetLevelAct : Obligations.SubscribeAndNetLevelAct := by
  refine ⟨fun rq mask s adm => ⟨fun h => ?_, fun h => ?_⟩, fun rq level s ht hc => ⟨fun h hl => ?_, fun h h1 h2 => ?_,
    fun hp hn => ?_⟩⟩
  · exact congrArg _ (serve_accept adm (if_neg (by omega)))
  · exact congrArg _ (serve_refuse adm (if_pos h))
  · exact congrArg _ (serve_accept ⟨ht, hc, h.le⟩ (if_pos hl))
  · exact congrArg _ (serve_refuse ⟨ht, hc, h.le⟩ (if_neg (by omega)))
  · refine congrArg _ (serve_denied ht hc ?_)
    simp only [effectiveLevel, ceiling, hp]
    omega

/-- Settles O14. -/
theorem settingGetReadsValueDefaultRange : Obligations.SettingGetReadsValueDefaultRange := by
  intro rq ident s adm
  refine ⟨fun k h => congrArg _ (serve_accept adm ?_), fun h => congrArg _ (serve_refuse adm ?_)⟩
  · simp only [h]
  · simp only [h]; rfl

/-- Settles O16: the request by whether a store is in progress; its end where the reply line has room. -/
theorem settingsStoreCopiesThenReplies : Obligations.SettingsStoreCopiesThenReplies := by
  refine ⟨fun rq s adm => ⟨fun h => ?_, fun h => congrArg _ (serve_refuse adm (if_pos h))⟩, fun st s hp hs room => ?_⟩
  · show Host.Outcome.next (serve _ _ _ _ _) = _
    rw [serve_admitted adm]
    simp [h]
  · show execSettingsStoreDone s = _
    have room' : (Link.port { s.link with store := none, settingsDefaulted := false } st.port).replies.length < 8 := by
      cases e : st.port <;> simpa [Link.port, e] using room
    simp only [execSettingsStoreDone, hp, hs, State.storeReply, Config.maxReplies]
    rw [if_pos room']

/-- Settles O17: the request; the end of its reply; the start. -/
theorem restartAnswersThenStarts : Obligations.RestartAnswersThenStarts := by
  refine ⟨fun rq s adm => ⟨fun h => ?_, fun h => congrArg _ (serve_refuse adm (if_pos h))⟩, fun p o s hp ho ha => ?_,
    fun s hp hd => ⟨congrArg _ (if_pos (by simp [hp, hd])), ?_, ?_, ?_⟩⟩
  · show Host.Outcome.next (serve _ _ _ _ _) = _
    rw [serve_admitted adm]
    simp [h, accept]
  · have fin : s.finishSending p = (s.updPort p fun k => { k with sending := none }).afterSent .restart := by
      simp only [State.finishSending, ho, ha]
    have due : (s.finishSending p).link.restartDue = true := by rw [fin]; rfl
    refine ⟨s.finishSending p, ?_, due, ?_⟩
    · show execTransmitterFree p s = _
      simp only [execTransmitterFree, hp, due, if_true]
    · rw [fin]
      cases p <;> exact ⟨rfl, rfl, rfl, rfl⟩
  · simp [State.start, startBase]
  · simp [State.start, startBase]
  · simp only [State.start, link_deliver]
    exact (placeAll_keeps _ _).2.2.2.1

/-- Settles O18: the four fields in the order of their checks. -/
theorem clockSetSetsTheClock : Obligations.ClockSetSetsTheClock := by
  intro rq h m sec d s adm
  refine ⟨fun hh hm hs hd => ?_, fun bad => ?_⟩
  · refine congrArg _ (serve_accept adm ?_)
    have tod : ((h * 60 + m) * 60 + sec) * 10 = 36000 * h + 600 * m + 10 * sec := by omega
    simp only [Nat.not_lt.mpr hh, Nat.not_lt.mpr hm, Nat.not_lt.mpr hs, Nat.not_lt.mpr hd, if_false, tod]
  · by_cases hh : 23 < h
    · exact ⟨1, congrArg _ (serve_refuse adm (if_pos hh))⟩
    by_cases hm : 59 < m
    · exact ⟨2, congrArg _ (serve_refuse adm (by simp only [hh, hm, if_true, if_false]; rfl))⟩
    by_cases hs : 59 < sec
    · exact ⟨3, congrArg _ (serve_refuse adm (by simp only [hh, hm, hs, if_true, if_false]; rfl))⟩
    have hd : 65535 < d := by omega
    exact ⟨4, congrArg _ (serve_refuse adm (by simp only [hh, hm, hs, hd, if_true, if_false]; rfl))⟩

/-! ## Queries -/

/-- The greatest of the numbers of a list is at most `n` when each is. -/
theorem foldl_max_le {α : Type} (fn : α → Nat) (xs : List α) (m n : Nat) :
    xs.foldl (fun m k => max m (fn k)) m ≤ n ↔ m ≤ n ∧ ∀ k ∈ xs, fn k ≤ n := by
  induction xs generalizing m with
  | nil => simp
  | cons x xs ih => simp [ih, and_assoc]

/-- GN is lit while it shows green in health, or carries the stray mark. -/
theorem lit_iff (x : Head) :
    x.lit = true ↔ ((x.shown = .prepare ∨ x.shown = .go) ∧ x.good.gn = true) ∨ x.mark.gn = true := by
  unfold Head.lit Head.driven lampsFor
  cases x.shown <;> simp

theorem marginLeft_zero {v : Base} {p : Plant} {h : Fin 8}
    (z : (p.heads.nth h).pending = false ∨ (p.heads.nth h).lit = true) : marginLeft v p h = 0 := by
  unfold marginLeft
  rw [if_neg]
  obtain z | z := z <;> simp [z]

theorem marginLeft_le {v : Base} {p : Plant} {h : Fin 8} (hp : (p.heads.nth h).pending = true)
    (hl : ¬ (p.heads.nth h).lit = true) (n : Nat) : marginLeft v p h ≤ n ↔
      ∀ k ∈ h :: conflictSet h, (p.heads.nth k).goEnd + v.settings.clearMargin ≤ v.elapsed + n := by
  unfold marginLeft
  rw [if_pos (by simp [hp, hl]), foldl_max_le]
  simp only [Nat.zero_le, true_and, Nat.sub_le_iff_le_add']

/-- What LEVELS shows is of the last scan alone. -/
theorem levelsBody_congr {x y : Scanner} (hs : x.shown = y.shown) (hf : x.shownFlood = y.shownFlood)
    (hb : x.bodies = y.bodies) (hh : x.heads = y.heads) : levelsBody x = levelsBody y := by
  simp only [levelsBody, hs, hf, hb, hh]

section Keys

variable {rq : Rq} {s : State}

/-- PASS_QUERY of a well-formed key that names an open passage. -/
theorem exec_passQuery_found (adm : Admitted s rq 2) {key : PassKey} {x : Passage} (hk : keyMalformed key = false)
    (hx : passageOf s.plant key = some x) : exec (.passQuery rq key) s = .next (s.ok rq 0x32
      (x.bytes (queuePosition s.plant.passages x.number)
        (if x.committed.isSome then 0 else (quote s.base s.plant x).1))) :=
  congrArg _ (serve_accept adm (by simp only [hk, hx]; rfl))

/-- PASS_QUERY of a well-formed key that names none. -/
theorem exec_passQuery_missing (adm : Admitted s rq 2) {key : PassKey} (hk : keyMalformed key = false)
    (hx : passageOf s.plant key = none) : exec (.passQuery rq key) s = .next (s.no rq 0x32 .notFound []) :=
  congrArg _ (serve_refuse adm (by simp only [hk, hx]; rfl))

end Keys

theorem unit?_val {n : Nat} (k : Fin n) : unit? n k.val = some k := by simp [unit?]

/-- Settles O19: each query by the state it meets and the key it names. -/
theorem plainQueriesChangeNothing : Obligations.PlainQueriesChangeNothing := by
  refine ⟨?fieldless, fun _ _ => levelsBody_congr, rfl, rfl, ?margin, ?passages, ?hulls, ?accounts⟩
  case fieldless =>
    intro rq s adm p
    refine ⟨?_, ?_, ?_, ?_, ?_, ?_, ?_⟩ <;> exact congrArg _ (serve_accept adm rfl)
  case margin =>
    intro v p h x green
    have lit : x.lit = true ↔ green := lit_iff x
    refine ⟨fun z => marginLeft_zero (z.imp_right lit.mpr), fun hp hg n => marginLeft_le hp (fun l => hg (lit.mp l)) n⟩
  case passages =>
    intro rq s adm shows
    refine ⟨fun n x hx => exec_passQuery_found adm rfl hx,
      fun m x hm hx => exec_passQuery_found adm (by simp [keyMalformed, hm]) hx,
      fun n hx => exec_passQuery_missing adm rfl hx,
      fun m hm hx => exec_passQuery_missing adm (by simp [keyMalformed, hm]) hx,
      fun m hm => ?_, fun first count h1 h2 h3 h4 => ?_, fun first count h => ?_, fun first count h1 h2 h => ?_, fun c => ?_⟩
    · exact congrArg _ (serve_refuse adm (if_pos (by simp [keyMalformed, hm])))
    · exact congrArg _ (serve_accept adm ((if_neg (by omega)).trans (if_neg (by omega))))
    · exact congrArg _ (serve_refuse adm (if_pos h))
    · exact congrArg _ (serve_refuse adm ((if_neg (by omega)).trans (if_pos h)))
    · exact congrArg _ (serve_accept adm (by simp only [unit?_val]))
  case hulls =>
    intro rq m s adm hs
    refine ⟨fun hm => ?_, fun h hm hh => ?_, fun hm hh => ?_⟩
    · exact congrArg _ (serve_refuse adm (if_pos hm))
    · refine congrArg _ (serve_accept adm ((if_neg (by simp [hm])).trans ?_))
      have hh : s.base.books.hulls.find? (fun h => h.mark == m) = some h := hh
      simp only [hh]
      rfl
    · refine congrArg _ (serve_refuse adm ((if_neg (by simp [hm])).trans ?_))
      have hh : s.base.books.hulls.find? (fun h => h.mark == m) = none := hh
      simp only [hh]
      rfl
  case accounts =>
    intro rq id s adm ps
    refine ⟨fun h => ?_, fun h1 h2 ha => ?_, fun a h1 h2 ha => ?_⟩
    · exact congrArg _ (serve_refuse adm (if_pos (by rw [← Bool.not_eq_true, accountIdOk_iff]; omega)))
    · exact congrArg _ (serve_refuse adm (by simp only [accountIdOk_iff.mpr ⟨h1, h2⟩, ha]; rfl))
    · refine congrArg _ (serve_accept adm ?_)
      simp only [accountIdOk_iff.mpr ⟨h1, h2⟩, ha, maxListed, List.length_take, Account.headroom]
      rfl

end Sys2Proof.Machine
end

section
/-! The Signal Unit's and the Gate Unit's own operations: what they do to the greens (04/R68 to R70) and to the reports. -/

namespace Sys2Proof.Machine

/-! ## Heads -/

/-- What `changeHead` makes of a head record: the change, the GO-end stamp of a GN that goes out, the lamp timers. -/
def headAfter (v : Base) (h : Fin 8) (fn : Head → Head) (old : Head) : Head :=
  (if old.driven.gn && !(fn old).driven.gn then { fn old with goEnd := v.elapsed } else fn old).retimed v
    (v.pins.lampCurrent.nth h)

theorem shown_headAfter (v : Base) (h : Fin 8) (fn : Head → Head) (old : Head) :
    (headAfter v h fn old).shown = (fn old).shown := by
  unfold headAfter
  split <;> rfl

theorem good_headAfter (v : Base) (h : Fin 8) (fn : Head → Head) (old : Head) :
    (headAfter v h fn old).good = (fn old).good := by
  unfold headAfter
  split <;> rfl

/-- The record is put in place, its pending greens are marked for re-examination, and ASPECT tells of a change of the shown
aspect or of the lamps driven (04/R71). -/
theorem changeHead_eq (v : Base) (h : Fin 8) (fn : Head → Head) (f : Flow) :
    changeHead v h fn f =
      (let x := headAfter v h fn (f.heads.nth h)
       let g := recheckHeads (headsToRecheck h (f.heads.nth h) x) { f with heads := f.heads.put h x }
       if x.shown ≠ (f.heads.nth h).shown ∨ x.driven ≠ (f.heads.nth h).driven then aspectReport v h x g else g) := rfl

/-- A change of a head record changes that record alone. -/
theorem toPlant_changeHead (v : Base) (h : Fin 8) (fn : Head → Head) (f : Flow) :
    (changeHead v h fn f).toPlant = { f.toPlant with heads := f.heads.upd h (headAfter v h fn) } := by
  rw [changeHead_eq]
  dsimp only
  split <;> rfl

theorem out_changeHead (v : Base) (h : Fin 8) (fn : Head → Head) (f : Flow) :
    (changeHead v h fn f).out = f.out ++
      if (headAfter v h fn (f.heads.nth h)).shown ≠ (f.heads.nth h).shown
          ∨ (headAfter v h fn (f.heads.nth h)).driven ≠ (f.heads.nth h).driven
        then [aspectNow v h (headAfter v h fn (f.heads.nth h))] else [] := by
  rw [changeHead_eq]
  dsimp only
  split
  · rfl
  · simp

/-! ## Greens -/

/-- GN is driven while a green aspect is shown in health (04/R64). -/
theorem driven_gn (x : Head) : x.driven.gn = (!x.shown.stopping && x.good.gn) := by
  unfold Head.driven lampsFor Aspect.stopping
  cases x.shown <;> rfl

theorem driven_iff (x : Head) : x.driven.gn = true ↔ x.shown.stopping = false ∧ x.good.gn = true := by
  simp [driven_gn]

/-- The signals of the blocks' state are safe. -/
def SafePlant (p : Plant) : Prop := GreensLit p ∧ GreensApart p ∧ GreensAtOpenGates p

/-- What stands of the safety of the signals right after a gate has failed, before the Signal Unit reacts: a green that is
shown is driven, the greens are apart, and no gate whose head shows GO is OPENING. -/
structure GreensSound (p : Plant) : Prop where
  lit : GreensLit p
  apart : GreensApart p
  go : ∀ h : Fin 8, (p.heads.nth h).shown = .go → (p.gates.nth (gateOf h)).st ≠ .opening

theorem SafePlant.sound {p : Plant} (h : SafePlant p) : GreensSound p :=
  ⟨h.1, h.2.1, fun k hk => by rw [(h.2.2 k).2 hk]; decide⟩

/-- The head shows a stopping aspect now, or what it showed before, its GN in no worse health. -/
def Dims (x y : Head) : Prop := y.shown.stopping = true ∨ (y.shown = x.shown ∧ (x.good.gn = true → y.good.gn = true))

theorem Dims.refl (x : Head) : Dims x x := .inr ⟨rfl, id⟩

theorem Dims.shown_eq {x y : Head} (d : Dims x y) (h : y.shown.stopping = false) : y.shown = x.shown := by
  obtain d | d := d
  · rw [d] at h; cases h
  · exact d.1

/-- A head that drives its green drove it before, where it was lit in health. -/
theorem Dims.driven {x y : Head} (d : Dims x y) (lit : x.shown.stopping = false → x.good.gn = true)
    (h : y.driven.gn = true) : x.driven.gn = true := by
  rw [driven_iff] at h ⊢
  have e := d.shown_eq h.1
  exact ⟨e ▸ h.1, lit (e ▸ h.1)⟩

section Dimmed

variable {p q : Plant} (hd : ∀ h, Dims (p.heads.nth h) (q.heads.nth h))

include hd

theorem GreensLit.dims (hp : GreensLit p) : GreensLit q := by
  intro h hs
  have e := (hd h).shown_eq hs
  obtain d | d := hd h
  · rw [d] at hs; cases hs
  · exact d.2 (hp h (e ▸ hs))

theorem GreensApart.dims (hl : GreensLit p) (hp : GreensApart p) : GreensApart q := by
  intro h k hk hdr
  rw [← Bool.not_eq_true]
  intro hk'
  have := hp h k hk ((hd h).driven (hl h) hdr)
  rw [(hd k).driven (hl k) hk'] at this
  cases this

theorem GreensSound.dims (hp : GreensSound p)
    (hg : ∀ h, (q.gates.nth (gateOf h)).st = (p.gates.nth (gateOf h)).st) : GreensSound q where
  lit := hp.lit.dims hd
  apart := hp.apart.dims hd hp.lit
  go h hs := by
    rw [hg h]
    exact hp.go h ((hd h).shown_eq (by rw [hs]; rfl) ▸ hs)

/-- Heads that dim keep the signals safe, where a gate whose green is driven stays as it is, or is then OPEN. -/
theorem SafePlant.dims (hp : SafePlant p)
    (hg : ∀ h, (p.heads.nth h).driven.gn = true → (q.gates.nth (gateOf h)).st = (p.gates.nth (gateOf h)).st
      ∨ (q.gates.nth (gateOf h)).st = .opened) : SafePlant q := by
  obtain ⟨hl, ha, ho⟩ := hp
  refine ⟨hl.dims hd, ha.dims hd hl, fun h => ⟨fun hdr => ?_, fun hgo => ?_⟩⟩
  · have hdr := (hd h).driven (hl h) hdr
    obtain e | e := hg h hdr
    · rw [e]; exact (ho h).1 hdr
    · exact .inr e
  · have hs : (p.heads.nth h).shown = .go := ((hd h).shown_eq (by rw [hgo]; rfl)) ▸ hgo
    have hdr : (p.heads.nth h).driven.gn = true := (driven_iff _).mpr ⟨by rw [hs]; rfl, hl h (by rw [hs]; rfl)⟩
    obtain e | e := hg h hdr
    · rw [e]; exact (ho h).2 hs
    · exact e

end Dimmed

/-! ## Calm operations -/

/-- Work within a step that only adds to the reports, and keeps the signals safe. -/
structure Calm (f g : Flow) : Prop where
  out : f.out <+: g.out
  safe : SafePlant f.toPlant → SafePlant g.toPlant

theorem Calm.refl (f : Flow) : Calm f f := ⟨List.prefix_refl _, id⟩

theorem Calm.trans {f g k : Flow} (a : Calm f g) (b : Calm g k) : Calm f k := ⟨a.out.trans b.out, b.safe ∘ a.safe⟩

/-- Work that leaves the heads and the states of the gates. -/
theorem Calm.of_still {a f g : Flow} (h : Calm a f) (hout : f.out <+: g.out) (hh : g.heads = f.heads)
    (hg : ∀ k, (g.gates.nth k).st = (f.gates.nth k).st) : Calm a g :=
  h.trans ⟨hout, fun hs => hs.dims (fun k => by rw [hh]; exact Dims.refl _) fun k _ => .inl (hg _)⟩

/-- Work that leaves the heads, the gates and the reports. -/
theorem Calm.of_eq {a f g : Flow} (h : Calm a f) (hout : g.out = f.out) (hh : g.heads = f.heads)
    (hg : g.gates = f.gates) : Calm a g :=
  h.of_still (by rw [hout]) hh fun k => by rw [hg]

/-- Work that changes one gate alone, in a way that keeps the signals safe. -/
theorem Calm.of_gate {a f g : Flow} (h : Calm a f) (k : Fin 4) (hout : f.out <+: g.out) (hh : g.heads = f.heads)
    (ho : ∀ j, j ≠ k → (g.gates.nth j).st = (f.gates.nth j).st)
    (hk : SafePlant f.toPlant → (g.gates.nth k).st = (f.gates.nth k).st ∨ (g.gates.nth k).st = .opened
      ∨ ∀ h, gateOf h = k → (f.heads.nth h).driven.gn = false) : Calm a g := by
  refine h.trans ⟨hout, fun hs => hs.dims (fun k => by rw [hh]; exact Dims.refl _) fun j hj => ?_⟩
  by_cases e : gateOf j = k
  · obtain st | st | dark := hk hs
    · exact .inl (e ▸ st)
    · exact .inr (e ▸ st)
    · rw [dark j e] at hj; cases hj
  · exact .inl (ho _ e)

section Rules

variable {a f : Flow} (h : Calm a f) (v : Base)

include h

omit h in
theorem calm_ite {c : Prop} [Decidable c] {x y : Flow} (hx : Calm a x) (hy : Calm a y) : Calm a (if c then x else y) := by
  split
  · exact hx
  · exact hy

theorem calm_raiseTo (also : Option Port) (c : RClass) (code : Nat) (fields : List Byte) :
    Calm a (raiseTo also v c code fields f) := h.of_still (List.prefix_append _ _) rfl fun _ => rfl

theorem calm_raise (c : RClass) (code : Nat) (fields : List Byte) : Calm a (raise v c code fields f) :=
  calm_raiseTo h v none c code fields

theorem calm_askOpportunity : Calm a (askOpportunity f) := h.of_eq rfl rfl rfl
theorem calm_setSluice (g : Fin 4) (fn : Sluice → Sluice) : Calm a (setSluice g fn f) := h.of_eq rfl rfl rfl
theorem calm_setChannel (g : Fin 4) (fn : Channel → Channel) : Calm a (setChannel g fn f) := h.of_eq rfl rfl rfl
theorem calm_setSched (fn : Scheduler → Scheduler) : Calm a (setSched fn f) := h.of_eq rfl rfl rfl
theorem calm_setRegime (fn : Regime → Regime) : Calm a (setRegime fn f) := h.of_eq rfl rfl rfl
theorem calm_setBatch (n : Nat) (fn : Batch → Batch) : Calm a (setBatch n fn f) := h.of_eq rfl rfl rfl
theorem calm_setPassage (n : Nat) (fn : Passage → Passage) : Calm a (setPassage n fn f) := h.of_eq rfl rfl rfl
theorem calm_setAccount (n : Nat) (fn : Account → Account) : Calm a (setAccount n fn f) := h.of_eq rfl rfl rfl
theorem calm_recheckHeads (hs : List (Fin 8)) : Calm a (recheckHeads hs f) := h.of_eq rfl rfl rfl

omit h in
/-- A calm act for each of a list in turn. -/
theorem calm_overAll {α : Type} {act : α → Flow → Flow} (hact : ∀ x f, Calm a f → Calm a (act x f)) (xs : List α)
    {f : Flow} (h : Calm a f) : Calm a (overAll xs act f) := by
  induction xs generalizing f with
  | nil => exact h
  | cons x xs ih => exact ih (hact x f h)

/-! ## Gates -/

omit h in
theorem gates_setGate (f : Flow) (g : Fin 4) (fn : Gate → Gate) : (setGate g fn f).gates = f.gates.upd g fn := by
  rw [toPlant_setGate]

omit h in
theorem heads_setGate (f : Flow) (g : Fin 4) (fn : Gate → Gate) : (setGate g fn f).heads = f.heads := by
  rw [toPlant_setGate]

/-- A gate changed in a way that keeps the signals safe. -/
theorem calm_setGate_of (g : Fin 4) (fn : Gate → Gate)
    (hk : SafePlant f.toPlant → (fn (f.gates.nth g)).st = (f.gates.nth g).st ∨ (fn (f.gates.nth g)).st = .opened
      ∨ ∀ k, gateOf k = g → (f.heads.nth k).driven.gn = false) : Calm a (setGate g fn f) := by
  refine h.of_gate g (by simp) (heads_setGate f g fn) (fun j hj => ?_) fun hs => ?_
  · rw [gates_setGate, Tbl.nth_upd_other _ _ _ _ hj.symm]
  · rw [gates_setGate, Tbl.nth_upd_same]
    exact hk hs

theorem calm_setGate (g : Fin 4) {fn : Gate → Gate} (hst : ∀ x, (fn x).st = x.st) : Calm a (setGate g fn f) :=
  calm_setGate_of h g fn fun _ => .inl (hst _)

theorem calm_setGate_opened (g : Fin 4) {fn : Gate → Gate} (hst : ∀ x, (fn x).st = .opened) : Calm a (setGate g fn f) :=
  calm_setGate_of h g fn fun _ => .inr (.inl (hst _))

/-- A gate that is neither OPENING nor OPEN has no green driven. -/
theorem calm_setGate_dark {g : Fin 4} (hst : (f.gates.nth g).st ≠ .opening ∧ (f.gates.nth g).st ≠ .opened)
    (fn : Gate → Gate) : Calm a (setGate g fn f) := by
  refine calm_setGate_of h g fn fun hs => .inr (.inr fun k hk => ?_)
  rw [← Bool.not_eq_true]
  intro hdr
  obtain e | e := (hs.2.2 k).1 hdr
  · exact hst.1 (hk ▸ e)
  · exact hst.2 (hk ▸ e)

omit h in
theorem eq_lower_or_upper {k : Fin 8} {g : Fin 4} (e : gateOf k = g) : k = lowerHead g ∨ k = upperHead g := by
  subst e
  revert k
  decide

/-- A gate with no GN lit. -/
theorem calm_setGate_unlit {g : Fin 4} (hl : f.toPlant.gateLit g = false) (fn : Gate → Gate) :
    Calm a (setGate g fn f) := by
  refine calm_setGate_of h g fn fun _ => .inr (.inr fun k hk => ?_)
  simp only [Plant.gateLit, Head.lit, Bool.or_eq_false_iff] at hl
  obtain rfl | rfl := eq_lower_or_upper hk
  · exact hl.1.1
  · exact hl.2.1

theorem calm_gateReport (g : Fin 4) : Calm a (gateReport v g f) := calm_raise h v _ _ _

theorem calm_setOwner (g : Fin 4) (o : Owner) : Calm a (setOwner g o f) := calm_setGate h g fun _ => rfl

theorem calm_ownGate (g : Fin 4) (o : Owner) : Calm a (ownGate v g o f) :=
  calm_ite h (calm_gateReport (calm_setOwner h g o) v g)

theorem calm_startOpening {g : Fin 4} (hst : (f.gates.nth g).st ≠ .opening ∧ (f.gates.nth g).st ≠ .opened) :
    Calm a (startOpening v g f) := calm_gateReport (calm_setGate_dark h hst _) v g

theorem calm_startClosing {g : Fin 4} (hl : f.toPlant.gateLit g = false) : Calm a (startClosing v g f) :=
  calm_gateReport (calm_setGate_unlit h hl _) v g

theorem calm_obstruct {g : Fin 4} (hl : f.toPlant.gateLit g = false) : Calm a (obstruct v g f) :=
  calm_raise (calm_setGate_unlit h hl _) v _ _ _

omit h in
/-- What is lit at a gate does not depend on the gate. -/
theorem gateLit_setGate (f : Flow) (g k : Fin 4) (fn : Gate → Gate) :
    (setGate g fn f).toPlant.gateLit k = f.toPlant.gateLit k := by
  rw [toPlant_setGate]
  rfl

theorem calm_takeClose {g : Fin 4} (hl : f.toPlant.gateLit g = false) : Calm a (takeClose v g f) := by
  have t : Calm a (setGate g (fun x => { x with obstructions := 0, hold := false, limit := v.settings.travelLimit }) f) :=
    calm_setGate h g fun _ => rfl
  have hl := (gateLit_setGate f g g (fun x => { x with
    obstructions := 0, hold := false, limit := v.settings.travelLimit })).trans hl
  exact calm_ite (calm_obstruct t v hl) (calm_startClosing t v hl)

omit h in
theorem gateLit_ownGate (f : Flow) (v : Base) (g k : Fin 4) (o : Owner) :
    (ownGate v g o f).toPlant.gateLit k = f.toPlant.gateLit k := by
  obtain ⟨-, e⟩ | ⟨-, e⟩ := ownGate_cases v f g o
  · rw [e]
  · rw [e]
    exact gateLit_setGate f g k _

theorem calm_takeCloseFor {g : Fin 4} (hl : f.toPlant.gateLit g = false) (o : Owner) :
    Calm a (takeCloseFor v g o f) := by
  unfold takeCloseFor
  split
  · exact calm_takeClose (calm_ownGate h v g o) v ((gateLit_ownGate f v g g o).trans hl)
  · exact calm_takeClose (calm_setOwner h g o) v ((gateLit_setGate f g g _).trans hl)

theorem calm_releaseGate (b : Nat) (g : Fin 4) : Calm a (releaseGate v b g f) := calm_ite (calm_ownGate h v g _) h
theorem calm_yieldGate (b : Nat) (g : Fin 4) : Calm a (yieldGate v b g f) := calm_ite (calm_ownGate h v g _) h

theorem calm_withdrawOpen (b : Nat) (g : Fin 4) : Calm a (withdrawOpen b g f) :=
  calm_setGate h g fun x => by split <;> rfl

theorem calm_discardTrackerAsks : Calm a (discardTrackerAsks f) :=
  calm_overAll (fun g _ h => calm_setGate h g fun x => by split <;> rfl) _ h

theorem calm_askOpen (b : Nat) (g : Fin 4) : Calm a (askOpen v b g f).2 := by
  unfold askOpen
  have own := calm_ownGate h v g (.batch b)
  split
  · exact h
  · dsimp only
    split
    · next hst =>
      dsimp only
      split
      · refine calm_startOpening (calm_setOwner h g _) v ?_
        have e : ((setOwner g (.batch b) f).gates.nth g).st = (f.gates.nth g).st := by
          rw [setOwner, gates_setGate, Tbl.nth_upd_same]
        rw [e, hst]
        decide
      · exact calm_setGate own g fun _ => rfl
    · exact own
    · exact own
    · exact h

theorem calm_askClose (b : Nat) (g : Fin 4) : Calm a (askClose v b g f).2 := by
  unfold askClose
  have own := calm_ownGate h v g (.batch b)
  split
  · exact h
  · dsimp only
    split
    · dsimp only
      split
      · exact calm_setGate own g fun _ => rfl
      · next hl => exact calm_takeCloseFor h v (by simpa using hl) _
    · dsimp only
      exact calm_setGate own g fun _ => rfl
    · exact own

theorem calm_regimeClose (g : Fin 4) : Calm a (regimeClose v g f).2 := by
  unfold regimeClose
  dsimp only
  split
  · exact h
  · dsimp only
    split
    · exact calm_setGate h g fun _ => rfl
    · next hl => exact calm_takeClose h v (by simpa using hl)
  · dsimp only
    exact calm_setGate h g fun _ => rfl
  · split
    · exact h
    · dsimp only
      exact calm_setGate h g fun _ => rfl
  · exact h

theorem calm_examineAsk (g : Fin 4) : Calm a (examineAsk v g f) := by
  unfold examineAsk
  dsimp only
  split
  · exact h
  · split
    · next hi =>
      simp only [openInterlock, Bool.and_eq_true, beq_iff_eq] at hi
      exact calm_startOpening h v (by rw [hi.1.1.1.1]; decide)
    · exact h
  · split
    · next hl => exact calm_takeClose h v hl.2
    · exact h

/-! ## Sluices and grants -/

theorem calm_commandSluice (g : Fin 4) (n : Nat) : Calm a (commandSluice v g n f) := by
  unfold commandSluice
  dsimp only
  split
  · exact h
  · exact calm_ite (calm_setSluice h g _) (calm_setSluice h g _)
  · exact calm_ite (calm_raise (calm_setSluice h g _) v _ _ _)
      (calm_ite (calm_setSluice h g _) (calm_setSluice h g _))

theorem calm_reduceSluice (g : Fin 4) : Calm a (reduceSluice v g f) :=
  calm_ite (calm_setChannel (calm_commandSluice h v g 3) g _) h

theorem calm_requestGrant (g : Fin 4) : Calm a (requestGrant g f).2 := by
  obtain ⟨-, e⟩ | ⟨-, -, e⟩ | ⟨-, -, -, -, e⟩ | ⟨-, -, -, e⟩ := requestGrant_cases f g <;> rw [e]
  · exact h
  · exact h
  · exact h.of_eq rfl rfl rfl
  · exact h.of_eq rfl rfl rfl

theorem calm_releaseGrant (g : Fin 4) : Calm a (releaseGrant g f) := h.of_eq rfl rfl rfl
theorem calm_leaveWaiting (g : Fin 4) : Calm a (leaveWaiting g f) := h.of_eq rfl rfl rfl

omit h in
theorem calm_reviewWaiting (gs older : List (Fin 4)) {f : Flow} (h : Calm a f) :
    Calm a (reviewWaiting gs older f).2 := by
  induction gs generalizing older f with
  | nil => exact h
  | cons g gs ih =>
    unfold reviewWaiting
    split
    · exact ih older (h.of_eq rfl rfl rfl)
    · exact ih (older ++ [g]) h

/-! ## Heads -/

/-- A head changed, by a change that dims it. -/
theorem calm_changeHead (k : Fin 8) {fn : Head → Head} (hd : Dims (f.heads.nth k) (fn (f.heads.nth k))) :
    Calm a (changeHead v k fn f) := by
  have e := toPlant_changeHead v k fn f
  refine h.trans ⟨⟨_, (out_changeHead v k fn f).symm⟩, fun hs => ?_⟩
  rw [e]
  refine hs.dims (fun j => ?_) fun j _ => .inl rfl
  by_cases hj : k = j
  · subst hj
    rw [Tbl.nth_upd_same]
    unfold Dims at hd ⊢
    rw [shown_headAfter, good_headAfter]
    exact hd
  · rw [Tbl.nth_upd_other _ _ _ _ hj]
    exact Dims.refl _

omit h in
theorem stopping_restOf (f : Flow) (k : Fin 8) : (restOf f k).stopping = true := by
  unfold restOf restAspect
  split
  · rfl
  all_goals split <;> rfl

theorem calm_stageStop (k : Fin 8) {s : Aspect} (hs : s.stopping = true) : Calm a (stageStop v k s f) :=
  calm_changeHead h v k (.inl hs)

theorem calm_giveHead (k : Fin 8) : Calm a (giveHead v k f) := calm_changeHead h v k (.inl (stopping_restOf f k))

theorem calm_releaseHead (b : Nat) (k : Fin 8) : Calm a (releaseHead v b k f) := calm_ite (calm_giveHead h v k) h

theorem calm_restHeads : Calm a (restHeads v f) :=
  calm_overAll (fun k _ h => calm_ite (calm_stageStop h v k (stopping_restOf _ k)) h) _ h

theorem calm_standDownHeads : Calm a (standDownHeads v f) := calm_overAll (fun k _ h => calm_giveHead h v k) _ h

theorem calm_releaseKeeperHeads : Calm a (releaseKeeperHeads v f) :=
  calm_overAll (fun k _ h => calm_ite (calm_giveHead h v k) h) _ h

theorem calm_loseGreen (k : Fin 8) : Calm a (loseGreen v k f) := calm_ite (calm_stageStop h v k rfl) h

omit h in
/-- Conflict is mutual, and no head conflicts with itself (04, section 4.4). -/
theorem conflictSet_symm {h k : Fin 8} : k ∈ conflictSet h ↔ h ∈ conflictSet k := by
  revert h k
  decide

omit h in
theorem not_mem_conflictSet (h : Fin 8) : h ∉ conflictSet h := by
  revert h
  decide

/-- A staged green applied where its conditions hold keeps the signals safe (04/R68, R70). -/
theorem calm_applyGreen {k : Fin 8} (ready : greenReady v f.toPlant k (f.heads.nth k).staged = true) :
    Calm a (changeHead v k Head.green f) := by
  have e := toPlant_changeHead v k Head.green f
  refine h.trans ⟨⟨_, (out_changeHead v k Head.green f).symm⟩, fun hs => ?_⟩
  obtain ⟨hl, ha, ho⟩ := hs
  rw [e]
  simp only [greenReady, Bool.and_eq_true] at ready
  obtain ⟨⟨⟨gate, good⟩, undriven⟩, -⟩ := ready
  have undriven : ∀ j ∈ conflictSet k, (f.heads.nth j).driven.gn = false := by
    simpa [conflictUndriven] using undriven
  have same (j : Fin 8) (hj : k ≠ j) : (f.heads.upd k (headAfter v k Head.green)).nth j = f.heads.nth j :=
    Tbl.nth_upd_other _ _ _ _ hj
  have applied : (f.heads.upd k (headAfter v k Head.green)).nth k = headAfter v k Head.green (f.heads.nth k) :=
    Tbl.nth_upd_same _ _ _
  refine ⟨fun j hj => ?_, fun j i hi hdr => ?_, fun j => ?_⟩
  · by_cases c : k = j
    · subst c
      simp only [applied, good_headAfter]
      exact good
    · simp only [same j c] at hj ⊢
      exact hl j hj
  · dsimp only at hdr ⊢
    by_cases c : k = j
    · subst c
      have n : k ≠ i := fun e => not_mem_conflictSet k (e ▸ hi)
      rw [same i n]
      exact undriven i hi
    · rw [same j c] at hdr
      by_cases c' : k = i
      · subst c'
        rw [undriven j (conflictSet_symm.mp hi)] at hdr
        cases hdr
      · rw [same i c']
        exact ha j i hi hdr
  · by_cases c : k = j
    · subst c
      dsimp only
      rw [applied, shown_headAfter]
      have st : (Head.green (f.heads.nth k)).shown = (f.heads.nth k).staged := rfl
      rw [st]
      cases hst : (f.heads.nth k).staged <;> simp only [hst] at gate
      case prepare => exact ⟨fun _ => by simpa using (Bool.and_eq_true_iff.mp gate).1, by simp⟩
      case go => exact ⟨fun _ => .inr (by simpa using gate), fun _ => by simpa using gate⟩
      all_goals simp at gate
    · dsimp only
      rw [same j c]
      exact ho j

theorem calm_tryGreen (k : Fin 8) : Calm a (tryGreen v k f) := by
  unfold tryGreen
  dsimp only
  split
  · next hr => exact calm_applyGreen h v (by simpa using (Bool.and_eq_true_iff.mp hr).2)
  · exact h

theorem calm_aspectReport (k : Fin 8) (x : Head) : Calm a (aspectReport v k x f) := calm_raise h v _ _ _

theorem calm_stageFor (b : Nat) (k : Fin 8) (s : Aspect) : Calm a (stageFor v b k s f) := by
  have staged := calm_changeHead h v k (fn := Head.stageGreen s (.batch b)) (.inr ⟨rfl, id⟩)
  exact calm_ite h (calm_ite h (calm_tryGreen (calm_ite staged (calm_aspectReport staged v k _)) v k))

theorem calm_applyOneGreen : Calm a (applyOneGreen v f) := by
  have ready (k : Fin 8) (hk : k ∈ readyGreens v f) : greenReady v f.toPlant k (f.heads.nth k).staged = true := by
    simp only [readyGreens, List.mem_filter, Bool.and_eq_true] at hk
    exact hk.2.2
  unfold applyOneGreen
  dsimp only
  split
  · exact h
  · next k rest e =>
    split
    · refine calm_applyGreen (f := { f with freeIndex := f.freeIndex + 1 }) (h.of_eq rfl rfl rfl) v ?_
      generalize Config.freeChoice f.freeIndex % (readyGreens v f).length = n
      cases hn : (readyGreens v f)[n]? with
      | none => exact ready k (by rw [e]; simp)
      | some j => exact ready j (List.mem_of_getElem? hn)
    · exact calm_applyGreen h v (ready k (by rw [e]; simp))

theorem calm_signalRound : Calm a (signalRound v f) := by
  have k : Calm a (overAll allHeads (fun _ f => applyOneGreen v f) (overAll allHeads (loseGreen v) f)) :=
    calm_overAll (fun _ _ h => calm_applyOneGreen h v) _ (calm_overAll (fun k _ h => calm_loseGreen h v k) _ h)
  unfold signalRound
  generalize overAll allHeads (fun _ f => applyOneGreen v f) (overAll allHeads (loseGreen v) f) = g at k
  exact k.of_eq rfl rfl rfl

end Rules

end Sys2Proof.Machine
end

section
/-! The Levelling Unit, the Toll Unit and the queue are calm: they touch neither a head nor the state of a gate. -/

namespace Sys2Proof.Machine

section Levelling

variable {a f : Flow} (h : Calm a f) (v : Base)

include h

theorem calm_moveChannel (g : Fin 4) (c : Channel) : Calm a (moveChannel v g c f) :=
  calm_ite (calm_raise (calm_setChannel h g _) v _ _ _) (calm_setChannel h g _)

theorem calm_channelCommand (g : Fin 4) (n : Nat) : Calm a (channelCommand v g n f) :=
  calm_commandSluice (calm_setChannel h g _) v g n

theorem calm_withdrawPermit (g : Fin 4) : Calm a (withdrawPermit g f) := calm_ite (calm_setSched h _) h

theorem calm_failChannel (g : Fin 4) (cause : ChanCause) : Calm a (failChannel v g cause f) :=
  calm_raise (calm_channelCommand (calm_setChannel
    (calm_ite (calm_withdrawPermit (calm_leaveWaiting h g) g) (calm_leaveWaiting h g)) g _) v g 0) v _ _ _

theorem calm_failRefused (g : Fin 4) : Calm a (failRefused v g f) := calm_ite (calm_failChannel h v g _) h

theorem calm_check5 (g : Fin 4) : Calm a (check5 v g f) :=
  calm_ite (calm_channelCommand (calm_moveChannel h v g _) v g 1) (calm_channelCommand (calm_moveChannel h v g _) v g 0)

theorem calm_giveDraw (p : Purpose) : Calm a (giveDraw v p f) := calm_raise (calm_setSched h _) v _ _ _

theorem calm_deferReport (d : Deferral) : Calm a (deferReport v d f) := calm_raise h v _ _ _

theorem calm_askPermit (p : Purpose) : Calm a (askPermit v p f).2 := by
  unfold askPermit
  split
  · exact calm_giveDraw h v p
  · exact calm_deferReport (calm_setSched h _) v _

theorem calm_waitWater (g : Fin 4) (m : Permit) : Calm a (waitWater v g m f) :=
  calm_channelCommand (calm_moveChannel h v g _) v g 0

theorem calm_check4 (g : Fin 4) : Calm a (check4 v g f) := by
  have go (m : Permit) {x : Flow} (hx : Calm a x) : Calm a (check5 v g (setChannel g (fun c => { c with permit := m }) x)) :=
    calm_check5 (calm_setChannel hx g _) v g
  unfold check4
  dsimp only
  split
  · exact go _ h
  split
  · exact calm_waitWater h v g _
  split
  · exact go _ h
  have permit := calm_askPermit h v (((f.channels.nth g).req).getD .keeper)
  split <;> next e =>
    rw [e] at permit
    first | exact go _ permit | exact calm_waitWater permit v g _

theorem calm_startChecks (g : Fin 4) (p : Purpose) : Calm a (startChecks v g p f) := by
  unfold startChecks
  have grant := calm_requestGrant (calm_setChannel h g fun c => { Channel.idle with st := c.st, req := some p }) g
  dsimp only
  split <;> next e =>
    rw [e] at grant
    first | exact calm_check4 grant v g | exact calm_channelCommand (calm_moveChannel grant v g _) v g 0

theorem calm_requestLevelling (g : Fin 4) (p : Purpose) : Calm a (requestLevelling v g p f).2 := by
  unfold requestLevelling
  dsimp only
  (repeat' split) <;> first | exact h | exact calm_failRefused (calm_startChecks h v g p) v g

theorem calm_cancelChannel (g : Fin 4) : Calm a (cancelChannel v g f) := by
  have waiting := calm_leaveWaiting h g
  unfold cancelChannel
  dsimp only
  split
  · exact h
  · have permit : Calm a (if (f.channels.nth g).st = .waitingWater then withdrawPermit g (leaveWaiting g f)
        else leaveWaiting g f) := calm_ite (calm_withdrawPermit waiting g) waiting
    exact calm_moveChannel (calm_releaseGrant (calm_ite (calm_commandSluice permit v g 0) permit) g) v g _

theorem calm_cancelFor (g : Fin 4) (p : Purpose) : Calm a (cancelFor v g p f) := calm_ite (calm_cancelChannel h v g) h

theorem calm_suspend (g : Fin 4) : Calm a (suspend v g f) := calm_channelCommand (calm_moveChannel h v g _) v g 0

theorem calm_followStep (g : Fin 4) : Calm a (followStep v g f) := calm_setChannel h g _

theorem calm_profile (g : Fin 4) : Calm a (profile v g f) := by
  have lower {x : Flow} (hx : Calm a x) : Calm a (if 1 < (f.channels.nth g).cmd then channelCommand v g 1 x else x) :=
    calm_ite (calm_channelCommand hx v g 1) hx
  exact calm_ite (lower (calm_moveChannel h v g _)) (calm_ite (lower h) h)

theorem calm_holdScan (signs : Tbl 4 Sign) (g : Fin 4) : Calm a (holdScan v signs g f) :=
  calm_ite (calm_moveChannel h v g _)
    (calm_ite (calm_ite (calm_raise (calm_setChannel h g _) v _ _ _) (calm_setChannel h g _)) h)

theorem calm_resumeScan (g : Fin 4) : Calm a (resumeScan v g f) :=
  calm_ite (calm_channelCommand (calm_moveChannel h v g _) v g 1) h

theorem calm_driftScan (g : Fin 4) : Calm a (driftScan v g f) := calm_ite (calm_check4 (calm_setChannel h g _) v g) h

theorem calm_waterScan (g : Fin 4) : Calm a (waterScan v g f) := by
  unfold waterScan
  dsimp only
  split
  · exact h
  split
  · exact calm_check5 (calm_setChannel (calm_withdrawPermit h g) g _) v g
  split
  · have permit := calm_askPermit h v (((f.channels.nth g).req).getD .keeper)
    split <;> next e =>
      rw [e] at permit
      first | exact calm_check5 (calm_setChannel permit g _) v g | exact calm_setChannel permit g _
  · exact h

theorem calm_scanByState (signs : Tbl 4 Sign) (g : Fin 4) : Calm a (scanByState v signs g f) := by
  unfold scanByState
  dsimp only
  split
  · exact calm_waterScan h v g
  · exact calm_ite (calm_profile h v g) (calm_suspend h v g)
  · exact calm_ite (calm_holdScan h v signs g) (calm_suspend h v g)
  · exact calm_resumeScan h v g
  · exact calm_driftScan h v g
  · exact h

theorem calm_scanChannel (signs : Tbl 4 Sign) (g : Fin 4) : Calm a (scanChannel v signs g f) := by
  have k := calm_scanByState h v signs g
  exact calm_ite (calm_setChannel k g _) k

theorem calm_redecidePermit : Calm a (redecidePermit v f) := by
  unfold redecidePermit
  split
  · exact h
  · split
    · exact calm_check5 (calm_setChannel (calm_giveDraw h v _) 3 _) v 3
    · exact calm_ite h (calm_deferReport (calm_setSched h _) v _)

theorem calm_scanLevellings (signs : Tbl 4 Sign) : Calm a (scanLevellings v signs f) := by
  have drawn : Calm a { f with freeIndex := f.freeIndex + 1 } := h.of_eq rfl rfl rfl
  unfold scanLevellings
  dsimp only
  exact calm_redecidePermit (calm_overAll (fun g _ h => calm_scanChannel h v signs g) _
    (calm_ite (calm_ite (calm_redecidePermit drawn v) drawn) h)) v

theorem calm_raiseStep (g : Fin 4) : Calm a (raiseStep v g f) :=
  calm_ite (calm_channelCommand (calm_setChannel h g _) v g _) (calm_setChannel h g _)

theorem calm_completeLevelling (g : Fin 4) : Calm a (completeLevelling v g f) :=
  calm_channelCommand (calm_moveChannel h v g _) v g 0

theorem calm_calibrationChanged (b : Fin 5) : Calm a (calibrationChanged v b f) :=
  calm_overAll (fun g _ h => calm_ite (calm_setChannel h g _) h) _ h

theorem calm_watchChannel (g : Fin 4) : Calm a (watchChannel v g f) := by
  have fail (c : ChanCause) := calm_failChannel h v g c
  unfold watchChannel
  dsimp only
  split
  · exact h
  · exact h
  · exact calm_ite (fail _) h
  · exact calm_ite (fail _) h
  · exact calm_ite (fail _) (calm_ite (fail _) (calm_ite (calm_moveChannel (calm_releaseGrant h g) v g _)
      (calm_ite (calm_setChannel h g _) h)))
  · exact calm_ite (fail _) (calm_ite (fail _) h)

theorem calm_grantRound : Calm a (grantRound v f) := by
  have review := calm_reviewWaiting f.waiting [] h
  unfold grantRound
  split
  next granted x e =>
  rw [e] at review
  exact calm_overAll (fun g _ h => calm_failRefused (calm_check4 h v g) v g) _ review

theorem calm_waterRound : Calm a (waterRound v f) :=
  calm_overAll (fun g _ h => calm_followStep h v g) _ (calm_grantRound
    (calm_overAll (fun g _ h => calm_watchChannel h v g) _ (calm_overAll (fun g _ h => calm_examineAsk h v g) _ h)) v)

end Levelling

section Queue

variable {a f : Flow} (h : Calm a f) (v : Base)

include h

theorem calm_reserve (p : Option Nat) (n : Int) : Calm a (reserve p n f) := by
  cases p
  · exact h
  · exact calm_setAccount h _ _

theorem calm_releaseReserve (p : Passage) : Calm a (releaseReserve p f) := calm_reserve h _ _

theorem calm_accountReport (x : Account) : Calm a (accountReport v x f) := calm_raise h v _ _ _

theorem calm_postCharge (p : Passage) (charge : Nat) : Calm a (postCharge v p charge f) := by
  unfold postCharge
  split
  · exact h
  · split
    · exact h
    · exact calm_raise (calm_ite (calm_raise (calm_setAccount h _ _) v _ _ _) (calm_setAccount h _ _)) v _ _ _

theorem calm_fixFee (n : Nat) : Calm a (fixFee v n f) := by
  unfold fixFee
  split
  · exact h
  · exact calm_raise (calm_setPassage (calm_reserve h _ _) _ _) v _ _ _

theorem calm_passageReport (n old : Nat) (c : PassCause) : Calm a (passageReport v n old c f) := by
  unfold passageReport
  split
  · exact h
  · exact calm_raiseTo h v _ _ _ _

theorem calm_changePassage (n : Nat) (c : PassCause) (fn : Passage → Passage) : Calm a (changePassage v n c fn f) := by
  unfold changePassage
  split
  · exact h
  · exact calm_passageReport (calm_setPassage h _ _) v _ _ _

theorem calm_endPassage (p : Passage) (e : PassEnd) (charge : Nat) : Calm a (endPassage v p e charge f) :=
  calm_askOpportunity (calm_raiseTo
    (f := { f with passages := f.passages.filter fun x => x.number ≠ p.number }) (h.of_eq rfl rfl rfl) v _ _ _ _)

theorem calm_checkPassage (n : Nat) : Calm a (checkPassage v n f) := by
  unfold checkPassage
  split
  · exact h
  · exact calm_ite h (calm_changePassage h v _ _ _)

theorem calm_formationCheck : Calm a (formationCheck v f) := calm_overAll (fun n _ h => calm_checkPassage h v n) _ h

theorem calm_lookUpHull (p : Passage) : Calm a (lookUpHull v p f).2 := by
  unfold lookUpHull
  dsimp only
  split
  · exact calm_ite h (calm_raiseTo h v _ _ _ _)
  · split
    · exact h
    · split
      · exact calm_raise h v _ _ _
      · exact h

end Queue

end Sys2Proof.Machine
end

section
/-! The Lockage Tracker is calm: its requests of gates and heads are judged by the units that own them (07). -/

namespace Sys2Proof.Machine

section Tracker

variable {a f : Flow} (h : Calm a f) (v : Base)

include h

/-! ## Reports and small changes -/

theorem calm_stepReport (id : Nat) : Calm a (stepReport v id f) := by
  unfold stepReport
  split
  · exact h
  · exact calm_raise h v _ _ _

theorem calm_heldReport (id : Nat) : Calm a (heldReport v id f) := by
  unfold heldReport
  split
  · exact h
  · exact calm_raise h v _ _ _

theorem calm_overdueReport (b : Batch) : Calm a (overdueReport v b f) := calm_raise h v _ _ _

theorem calm_enterStep (id : Nat) (st : Step) : Calm a (enterStep v id st f) := calm_stepReport (calm_setBatch h id _) v id

/-! ## Ends of batches and errands -/

theorem calm_releaseHeads (id : Nat) : Calm a (releaseHeads v id f) :=
  calm_overAll (fun k _ h => calm_releaseHead h v id k) _ h

theorem calm_cancelOwn (b : Batch) : Calm a (cancelOwn v b f) := by
  unfold cancelOwn
  split
  · exact h
  · exact calm_cancelFor h v _ _

theorem calm_withdrawAsks (id : Nat) : Calm a (withdrawAsks id f) :=
  calm_overAll (fun g _ h => calm_setGate h g fun x => by split <;> rfl) _ h

theorem calm_setErrand (g : Fin 4) (e : Option Nat) : Calm a { f with errands := f.errands.put g e } := h.of_eq rfl rfl rfl

theorem calm_closeErrand (id : Nat) (g : Fin 4) : Calm a (closeErrand v id g f) := by
  have close := calm_askClose h v id g
  unfold closeErrand
  split <;> next e =>
    rw [e] at close
    first | exact calm_releaseGate close v id g | exact calm_ite (calm_setErrand close g _) (calm_releaseGate close v id g)

theorem calm_partGate (id : Nat) (g : Fin 4) : Calm a (partGate v id g f) :=
  calm_ite h (calm_ite (calm_releaseGate h v id g) (calm_closeErrand h v id g))

theorem calm_dropBatches (keep : Batch → Bool) : Calm a { f with batches := f.batches.filter keep } := h.of_eq rfl rfl rfl

theorem calm_endBatch (id : Nat) (e : BatchEnd) : Calm a (endBatch v id e f) := by
  unfold endBatch
  split
  · exact h
  · next b _ =>
    have asks := calm_withdrawAsks (calm_cancelOwn (calm_releaseHeads h v id) v b) id
    have gates := calm_ite (c := e = .removed) (calm_overAll (fun g _ h => calm_yieldGate h v id g) allGates asks)
      (calm_overAll (fun g _ h => calm_partGate h v id g) allGates asks)
    exact calm_askOpportunity (calm_raise (calm_dropBatches gates _) v _ _ _)

theorem calm_leaveBatch (id n : Nat) (e : BatchEnd) : Calm a (leaveBatch v id n e f) := by
  have left := calm_setBatch h id fun b => { b with members := b.members.filter fun m => m.number ≠ n }
  unfold leaveBatch
  dsimp only
  split
  · exact calm_ite (calm_endBatch left v id e) left
  · exact left

theorem calm_leaveItsBatch (p : Passage) (e : BatchEnd) : Calm a (leaveItsBatch v p e f) := by
  unfold leaveItsBatch
  split
  · exact h
  · exact calm_leaveBatch h v _ _ _

theorem calm_errandRound : Calm a (errandRound v f) := by
  refine calm_overAll (fun g x h => ?_) _ h
  split
  · exact h
  · exact calm_ite h (calm_releaseGate (calm_setErrand h g _) v _ g)

/-! ## Holding and levellings -/

theorem calm_hold (id : Nat) (c : HeldCause) : Calm a (hold v id c f) := by
  unfold hold
  split
  · exact h
  · have held (fn : Batch → Batch) : Calm a (overAll allGates (withdrawOpen id) (setBatch id fn f)) :=
      calm_overAll (fun g _ h => calm_withdrawOpen h id g) _ (calm_setBatch h id fn)
    exact calm_ite h (calm_heldReport (calm_ite (calm_stepReport (held _) v id) (held _)) v id)

omit h in
theorem calm_tellOccupied {change : Flow → Flow} (hc : Calm a (change f)) : Calm a (tellOccupied v change f) :=
  calm_overAll (fun _ _ h => calm_ite (calm_overAll (fun g _ h => calm_reduceSluice h v g) _ h) h) _ hc

theorem calm_askOwn (b : Batch) (g : Fin 4) (p : Purpose) : Calm a (askOwn v b g p f) := by
  have asked := calm_requestLevelling h v g p
  obtain ⟨_, e⟩ | ⟨k, e, e'⟩ := askOwn_cases v f g b p
  · rw [e] at asked
    exact asked
  · rw [e] at asked
    rw [e']
    exact calm_setBatch (calm_ite asked (calm_cancelOwn asked v b)) _ _

theorem calm_askAhead (id : Nat) : Calm a (askAhead v id f) := by
  unfold askAhead
  split
  · exact h
  · exact calm_ite h (calm_askOwn h v _ _ _)

theorem calm_claimAhead (id : Nat) : Calm a (claimAhead v id f) := by
  unfold claimAhead
  split
  · exact h
  · split
    · exact calm_ite (calm_askAhead (calm_tellOccupied v (calm_setBatch h id _)) v id) h
    · exact calm_askAhead h v id

/-! ## Entry to a step -/

theorem calm_entryActions (id : Nat) (st : Step) : Calm a (entryActions v id st f) := by
  have held (c : HeldCause) := calm_hold h v id c
  unfold entryActions
  split
  · exact h
  · dsimp only
    split
    · exact calm_ite (held _) (calm_setBatch h id _)
    · exact calm_ite (held _) h
    · exact calm_claimAhead h v id
    · exact calm_ite (calm_setBatch h id _) h
    · exact h

theorem calm_goStep (id : Nat) (st : Step) : Calm a (goStep v id st f) :=
  calm_entryActions (calm_enterStep h v id st) v id st

theorem calm_leaveAhead (b : Batch) : Calm a (leaveAhead v b f) :=
  calm_setBatch (calm_releaseHead (calm_withdrawOpen h b.id b.ahead) v b.id _) _ _

theorem calm_reenter (id : Nat) : Calm a (reenter v id f) := by
  unfold reenter
  split
  · exact h
  · next b _ =>
    have left (c : Prop) [Decidable c] : Calm a (if c then leaveAhead v b f else f) := calm_ite (calm_leaveAhead h v b) h
    exact calm_ite h (calm_ite (calm_hold h v id _)
      (calm_ite (calm_goStep (left _) v id _) (calm_entryActions (left _) v id _)))

/-! ## The causes of holding -/

theorem calm_followOwn (id : Nat) : Calm a (followOwn id f) := by
  unfold followOwn
  split
  · exact h
  · split
    · exact calm_ite h (calm_setBatch h id _)
    · exact h

theorem calm_followWaved (id : Nat) : Calm a (followWaved id f) := by
  unfold followWaved
  split
  · exact h
  · exact calm_ite (calm_setBatch h id _) h

theorem calm_followCauses (id : Nat) : Calm a (followCauses v id f) := by
  refine calm_overAll (fun c x h => ?_) _ h
  split
  · exact h
  · exact calm_ite h (calm_ite (calm_ite (calm_hold h v id c) h) (calm_ite (calm_setBatch h id _) h))

/-! ## The steps -/

theorem calm_wantAspect (id : Nat) (k : Fin 8) (s : Aspect) : Calm a (wantAspect v id k s f) :=
  calm_ite h (calm_stageFor h v id k s)

theorem calm_sealStep (id : Nat) (k : Fin 8) : Calm a (sealStep v id k f) := by
  have sealed (fn : Batch → Batch) := calm_setBatch (calm_releaseHead h v id k) id fn
  exact calm_goStep (calm_ite (calm_askOpportunity (sealed _)) (sealed _)) v id _

theorem calm_workEntryGate (b : Batch) (k : Fin 8) : Calm a (workEntryGate v b k f) := by
  have opened := calm_askOpen h v b.id b.behind
  unfold workEntryGate
  dsimp only
  split
  · exact calm_ite (calm_askOwn (calm_withdrawOpen h b.id b.behind) v b _ _)
      (calm_ite h (calm_ite h (calm_ite (calm_hold h v b.id _) opened)))
  · exact calm_ite h opened
  · exact calm_ite h opened
  · exact h

theorem calm_workEntering (b : Batch) (k : Fin 8) : Calm a (workEntering v b k f) := by
  have entry := calm_workEntryGate h v b k
  exact calm_ite (calm_sealStep (calm_withdrawOpen h b.id b.behind) v b.id k)
    (calm_ite entry (calm_wantAspect entry v b.id k _))

theorem calm_workSealing (b : Batch) : Calm a (workSealing v b f) := by
  have close := calm_askClose h v b.id b.behind
  unfold workSealing
  dsimp only
  refine calm_ite (calm_goStep (calm_releaseGate h v b.id b.behind) v b.id _) (calm_ite h ?_)
  split <;> next e =>
    rw [e] at close
    first | exact close | exact calm_hold close v b.id _

theorem calm_workAhead (b : Batch) : Calm a (workAhead v b f) := by
  have go (s : Step) : Calm a (if b.step = s then f else goStep v b.id s f) := calm_ite h (calm_goStep h v b.id s)
  have claim := calm_claimAhead h v b.id
  unfold workAhead
  dsimp only
  refine calm_ite (calm_ite (calm_goStep h v b.id _) (calm_ite claim (calm_ite (calm_askAhead h v b.id) h)))
    (calm_ite claim ?_)
  split
  · exact go _
  · exact go _
  · exact go _
  · exact calm_goStep h v b.id _
  · exact h

theorem calm_workOpening (b : Batch) (k : Fin 8) : Calm a (workOpening v b k f) := by
  have back (s : Step) := calm_goStep (calm_leaveAhead h v b) v b.id s
  have opened := calm_askOpen h v b.id b.ahead
  unfold workOpening
  dsimp only
  split
  · exact calm_ite h (calm_goStep (calm_wantAspect (calm_ite h opened) v b.id k _) v b.id _)
  · exact calm_ite (back _) (calm_ite (back _) (calm_ite (calm_hold h v b.id _)
      (calm_ite h (calm_wantAspect (calm_ite h opened) v b.id k _))))
  · exact calm_ite h (calm_wantAspect (calm_ite h opened) v b.id k _)
  · exact h

theorem calm_moveMembers (b : Batch) (waved : Bool) : Calm a (moveMembers v b waved f) := by
  have moved (c : PassCause) (fn : Passage → Passage) (ms : List Member) :
      Calm a (overAll ms (fun m => changePassage v m.number c fn) f) :=
    calm_overAll (fun m _ h => calm_changePassage h v m.number c fn) _ h
  exact calm_ite h (calm_ite (calm_setBatch (moved _ _ _) b.id _) (moved _ _ _))

theorem calm_passMembers (b : Batch) (k : Fin 8) : Calm a (passMembers v b k f) := calm_ite (calm_moveMembers h v b _) h

theorem calm_workPassing (b : Batch) (k : Fin 8) : Calm a (workPassing v b k f) := by
  have opened := calm_askOpen h v b.id b.ahead
  exact calm_ite (calm_sealStep h v b.id k)
    (calm_ite h (calm_passMembers (calm_wantAspect (calm_ite h opened) v b.id k _) v b k))

theorem calm_workStep (b : Batch) : Calm a (workStep v b f) := by
  unfold workStep
  split
  · exact calm_workEntering h v b _
  · exact calm_workSealing h v b
  · exact calm_workAhead h v b
  · exact calm_workAhead h v b
  · exact calm_workOpening h v b _
  · exact calm_workPassing h v b _
  · exact calm_workPassing h v b _
  · exact h

theorem calm_heldGreen (b : Batch) : Calm a (heldGreen v b f) := by
  unfold heldGreen
  split
  · exact calm_ite (calm_wantAspect h v b.id _ _) h
  · exact h

theorem calm_manualStep (b : Batch) : Calm a (manualStep v b f) := by
  unfold manualStep
  split
  · exact calm_passMembers h v b _
  · exact calm_passMembers h v b _
  · exact h

theorem calm_examineBatch (id : Nat) : Calm a (examineBatch v id f) := by
  have followed := calm_followCauses (calm_followWaved (calm_followOwn h id) id) v id
  unfold examineBatch
  dsimp only
  split
  · exact followed
  · next b _ =>
    exact calm_ite followed (calm_ite (calm_ite (calm_manualStep followed v b) followed)
      (calm_ite (calm_ite (calm_reenter followed v id) (calm_heldGreen followed v b)) (calm_workStep followed v b)))

theorem calm_trackerRound : Calm a (trackerRound v f) :=
  calm_errandRound (calm_overAll (fun id _ h => calm_examineBatch h v id) _ h) v

/-! ## Formation and misses -/

theorem calm_createBatch (d : Dir) (ms : List (Nat × Nat)) : Calm a (createBatch v d ms f) := by
  have told (bs : List Batch) : Calm a (tellOccupied v (fun f => { f with batches := f.batches ++ bs }) f) :=
    calm_tellOccupied v (h.of_eq rfl rfl rfl)
  have counted (bs : List Batch) (n : Nat) :
      Calm a { tellOccupied v (fun f => { f with batches := f.batches ++ bs }) f with nextBatch := n } :=
    (told bs).of_eq rfl rfl rfl
  unfold createBatch
  refine calm_entryActions (calm_stepReport (calm_overAll (fun _ _ h => calm_changePassage h v _ _ _) _ ?_) v _) v _ _
  exact counted _ _

theorem calm_missPassage (n : Nat) : Calm a (missPassage v n f) := by
  unfold missPassage
  split
  · exact h
  · next p _ =>
    have released := calm_releaseReserve h p
    exact calm_leaveItsBatch (calm_ite (calm_askOpportunity (calm_changePassage released v n _ _))
      (calm_endPassage released v _ _ _)) v p _

/-! ## Mode and stand-down -/

theorem calm_mapBatches (fn : Batch → Batch) : Calm a { f with batches := f.batches.map fn } := h.of_eq rfl rfl rfl

theorem calm_reenterAll : Calm a (reenterAll v f) := by
  refine calm_overAll (fun id x h => ?_) _ h
  split
  · exact h
  · exact calm_ite h (calm_reenter (calm_followOwn h id) v id)

end Tracker

end Sys2Proof.Machine
end

section
/-! The Flight Scheduler and the Regime Unit are calm; what the blocks tell one another within a step (06, 09; log 8). -/

namespace Sys2Proof.Machine

section Scheduler

variable {a f : Flow} (h : Calm a f) (v : Base)

include h

theorem calm_schedTo (st : SchedSt) (c : SchedCause) : Calm a (schedTo v st c f) := calm_raise (calm_setSched h _) v _ _ _

theorem calm_logFullReport (x : Bool) : Calm a (logFullReport v x f) := calm_raise h v _ _ _

theorem calm_followLogRoom : Calm a (followLogRoom v f) := calm_ite (calm_logFullReport (calm_setSched h _) v _) h

theorem calm_followIdle : Calm a (followIdle v f) :=
  calm_ite h (calm_ite (calm_askOpportunity (calm_setSched h _)) (calm_setSched h _))

theorem calm_askTurn : Calm a (askTurn v f) := by
  have asked := calm_requestLevelling h v f.sched.dir.entryGate .turn
  unfold askTurn
  dsimp only
  refine calm_ite (calm_schedTo (calm_setSched h _) v _ _) ?_
  split <;> next e =>
    rw [e] at asked
    exact calm_setSched asked _

theorem calm_turn : Calm a (turn v f) := calm_ite (calm_askTurn (calm_schedTo (calm_setSched h _) v _ _) v) h

theorem calm_drain (c : SchedCause) : Calm a (drain v c f) :=
  calm_schedTo (calm_setSched (calm_cancelFor (calm_cancelFor h v _ _) v _ _) _) v _ _

theorem calm_followFailed : Calm a (followFailed v f) := calm_ite (calm_setSched (calm_cancelChannel h v _) _) h

theorem calm_followPrep : Calm a (followPrep v f) := by
  have failed := calm_followFailed h v
  have absent (fn : Scheduler → Scheduler) := calm_setSched failed fn
  unfold followPrep
  dsimp only
  split
  · exact calm_ite (absent _) (calm_ite (calm_askOpportunity (calm_ite (calm_schedTo (absent _) v _ _) (absent _))) failed)
  · exact failed

theorem calm_followTurn : Calm a (followTurn v f) := by
  have asked := calm_askTurn h v
  unfold followTurn
  refine calm_ite h ?_
  split
  · exact calm_ite asked h
  · exact calm_ite asked h
  · exact h

omit h in
theorem calm_packOne (p : Passage) (k : Packing × Flow) (h : Calm a k.2) : Calm a (packOne v p k).2 := by
  unfold packOne
  dsimp only
  (repeat' split) <;> first | exact h | exact calm_changePassage h v _ _ _ | exact calm_reserve h _ _

theorem calm_pack (ps : List Passage) : Calm a (pack v ps f).2 := by
  unfold pack
  generalize candidates f.sched.dir ps = cs
  generalize e : ((⟨[], 0⟩, f) : Packing × Flow) = k
  replace h : Calm a k.2 := by rw [← e]; exact h
  clear e
  induction cs generalizing k with
  | nil => exact h
  | cons c cs ih => exact ih _ (calm_packOne v c k h)

theorem calm_countBypass (o : Option Passage) : Calm a (countBypass v o f) := by
  cases o
  · exact h
  · exact calm_raiseTo (calm_setPassage h _ _) v _ _ _ _

theorem calm_formBatch (ps : List Passage) (o : Option Passage) : Calm a (formBatch v ps o f) := by
  have packed := calm_pack h v ps
  unfold formBatch
  split
  next k x e =>
  rw [e] at packed
  exact calm_ite packed (calm_countBypass (calm_createBatch packed v _ _) v o)

theorem calm_prepareEntry (ps : List Passage) (o : Option Passage) : Calm a (prepareEntry v ps o f) := by
  have asked := calm_requestLevelling h v f.sched.dir.entryGate .entry
  unfold prepareEntry
  dsimp only
  refine calm_ite (calm_formBatch h v ps o) (calm_ite ?_ h)
  split <;> next e =>
    rw [e] at asked
    exact calm_setSched asked _

theorem calm_decideServing (ps : List Passage) : Calm a (decideServing v ps f) := by
  have prepare (o : Option Passage) := calm_prepareEntry h v ps o
  have drained (c : SchedCause) := calm_drain h v c
  unfold decideServing
  split
  · exact calm_ite (calm_followIdle (calm_schedTo h v _ _) v) h
  · exact calm_ite (prepare _) (calm_ite (drained _) (calm_ite (drained _) (calm_ite (prepare _) (drained _))))

theorem calm_decideIdle (ps : List Passage) : Calm a (decideIdle v ps f) :=
  calm_ite (calm_prepareEntry (calm_schedTo h v _ _) v ps _) (calm_ite (calm_drain h v _) h)

theorem calm_takeOpportunity : Calm a (takeOpportunity v f) := by
  have checked (fn : Scheduler → Scheduler) := calm_setSched (calm_formationCheck h v) fn
  exact calm_ite h (calm_ite (calm_ite h (calm_logFullReport (calm_setSched h _) v _))
    (calm_ite (calm_decideServing (checked _) v _) (calm_decideIdle (checked _) v _)))

theorem calm_schedulerRound : Calm a (schedulerRound v f) := by
  have followed := calm_followLogRoom (calm_followTurn (calm_turn (calm_followPrep (calm_followIdle h v) v) v) v) v
  have taken {x : Flow} (hx : Calm a x) : Calm a (takeOpportunity v { x with opp := false }) :=
    calm_takeOpportunity (f := { x with opp := false }) (hx.of_eq rfl rfl rfl) v
  exact calm_ite (taken followed) followed

end Scheduler

section Regime

variable {a f : Flow} (h : Calm a f) (v : Base)

include h

theorem calm_flightReport (c : StateCause) : Calm a (flightReport v c f) := calm_raise h v _ _ _

theorem calm_changeRegime (c : StateCause) (fn : Regime → Regime) : Calm a (changeRegime v c fn f) := by
  have reported := calm_flightReport (calm_setRegime h fn) v c
  exact calm_ite (calm_setRegime h fn) (calm_ite reported (calm_askOpportunity (calm_restHeads reported v)))

theorem calm_mainsChanged : Calm a (mainsChanged v f) := calm_changeRegime h v _ _

theorem calm_batteryChanged : Calm a (batteryChanged v f) := by
  have low := calm_setRegime h fun r => { r with batteryLow := v.pins.batteryLow }
  unfold batteryChanged
  dsimp only
  exact calm_ite (calm_flightReport (calm_raise (calm_ite (calm_setRegime low _) low) v _ _ _) v _)
    (calm_raise (calm_ite (calm_setRegime low _) low) v _ _ _)

theorem calm_floodSignal (x : Bool) : Calm a (floodSignal v x f) := calm_changeRegime h v _ _

theorem calm_keeperCause (x : Bool) : Calm a (keeperCause v x f) := calm_changeRegime h v _ _

theorem calm_addLeft (x : Bool) (g : Fin 4) (r : LeftReason) : Calm a (addLeft x g r f) := calm_setRegime h _

theorem calm_setProgress (fn : Progress → Progress) : Calm a (setProgress fn f) := calm_setRegime h _

theorem calm_standDownSluice (was : Tbl 4 Bool) (g : Fin 4) : Calm a (standDownSluice v was g f) := by
  have commanded := calm_commandSluice h v g 0
  exact calm_ite h (calm_ite (calm_addLeft h _ g _) (calm_ite commanded (calm_setProgress commanded _)))

theorem calm_sendClose (g : Fin 4) : Calm a (sendClose v g f) := by
  have close := calm_regimeClose h v g
  unfold sendClose
  split <;> next e =>
    rw [e] at close
    first | exact calm_setProgress close _ | exact calm_ite (calm_addLeft close _ g _) close

theorem calm_standDownGate (g : Fin 4) : Calm a (standDownGate v g f) := by
  unfold standDownGate
  refine calm_ite h ?_
  split
  · exact calm_addLeft h _ g _
  · exact calm_sendClose h v g

theorem calm_standDown (c : StateCause) : Calm a (standDown v c f) := by
  have heads := calm_standDownHeads (calm_flightReport (calm_setRegime h fun r => { r with
    stoodDown := true, left := [],
    progress := some ⟨Vector.replicate 4 false, Vector.replicate 4 false, true, v.elapsed⟩ }) v c) v
  have frozen := calm_mapBatches heads fun b =>
    { b with frozen := true, berth := b.berth.pause v.elapsed, overdue := none }
  exact calm_overAll (fun g _ h => calm_standDownGate h v g) _ (calm_overAll (fun g _ h => calm_standDownSluice h v _ g) _
    (calm_overAll (fun g _ h => calm_cancelChannel h v g) _ (calm_setRegime frozen _)))

theorem calm_stoodDownReport (p : Progress) (x : Bool) : Calm a (stoodDownReport v p x f) := calm_raise h v _ _ _

theorem calm_settleSluice (g : Fin 4) : Calm a (settleSluice g f) := by
  have done := calm_setProgress h fun p => { p with sluices := p.sluices.put g false }
  exact calm_ite h (calm_ite (calm_addLeft done _ g _) (calm_ite done h))

theorem calm_settleGate (g : Fin 4) : Calm a (settleGate v g f) := by
  have done := calm_setProgress h fun p => { p with gates := p.gates.put g false }
  unfold settleGate
  dsimp only
  refine calm_ite h ?_
  split
  · exact done
  · exact calm_addLeft done _ g _
  · exact calm_ite (calm_addLeft done _ g _) h
  · exact h

theorem calm_reexamineLeft (g : Fin 4) : Calm a (reexamineLeft v g f) := calm_ite (calm_sendClose h v g) h

theorem calm_followPassing : Calm a (followPassing v f) :=
  calm_ite h (calm_overAll (fun g _ h => calm_reexamineLeft h v g) _ (calm_setRegime h _))

theorem calm_followProgress : Calm a (followProgress v f) := by
  have settled := calm_overAll (fun g _ h => calm_settleSluice h g) allGates
    (calm_overAll (fun g _ h => calm_settleGate h v g) allGates h)
  have heads : Calm a (if headsAtRest (overAll allGates settleSluice (overAll allGates (settleGate v) f)) then
      setProgress (fun p => { p with heads := false }) (overAll allGates settleSluice (overAll allGates (settleGate v) f))
      else overAll allGates settleSluice (overAll allGates (settleGate v) f)) := calm_ite (calm_setProgress settled _) settled
  unfold followProgress
  dsimp only
  refine calm_ite h ?_
  split
  · exact heads
  · exact calm_ite (calm_stoodDownReport (calm_setRegime heads _) v _ _) heads

theorem calm_resumeFlight : Calm a (resumeFlight v f) := by
  have early : Calm a (match f.regime.progress with | some p => stoodDownReport v p true f | none => f) := by
    split
    · exact calm_stoodDownReport h v _ _
    · exact h
  have thawed {x : Flow} (hx : Calm a x) : Calm a (thawBatches x) := calm_mapBatches hx _
  unfold resumeFlight
  dsimp only
  exact calm_ite (calm_reenterAll (thawed (calm_changeRegime early v _ _)) v) (thawed (calm_changeRegime early v _ _))

theorem calm_changeMode (m : Mode) : Calm a (changeMode v m f) := by
  have changed := calm_changeRegime h v .mode fun r => { r with mode := m }
  unfold changeMode
  refine calm_ite h ?_
  dsimp only
  split
  · exact calm_mapBatches (calm_discardTrackerAsks changed) _
  · have released := calm_releaseKeeperHeads changed v
    exact calm_askOpportunity (calm_ite (calm_reenterAll released v) released)

theorem calm_expireDeadline : Calm a (expireDeadline v f) := by
  have told : Calm a (raise v .alarm 0x0F (b1 f.regime.stoodDown) (setRegime (fun r => { r with deadline := .expired }) f)) :=
    calm_raise (calm_setRegime h _) v _ _ _
  exact calm_ite (calm_flightReport told v _) (calm_standDown told v _)

theorem calm_regimeRound : Calm a (regimeRound v f) := calm_followProgress (calm_followPassing h v) v

end Regime

/-! ## Rounds -/

section Rounds

variable {a f : Flow} (h : Calm a f) (v : Base)

include h

/-- What follows the Signal Unit's part of a round. -/
theorem calm_afterSignals : Calm a (regimeRound v (schedulerRound v (trackerRound v (waterRound v f)))) :=
  calm_regimeRound (calm_schedulerRound (calm_trackerRound (calm_waterRound h v) v) v) v

theorem calm_round : Calm a (round v f) := calm_afterSignals (calm_signalRound h v) v

omit h in
theorem calm_settle (n : Nat) {f : Flow} (h : Calm a f) : Calm a (settle v n f) := by
  induction n generalizing f with
  | zero => exact h
  | succ n ih =>
    unfold settle
    exact calm_ite h (ih (calm_round h v))

end Rounds

theorem link_conclude (s : State) (f : Flow) :
    (s.conclude f).link = s.link.placeAll (settle s.base maxRounds f).out := link_deliver s _

theorem plant_conclude (s : State) (f : Flow) : (s.conclude f).plant = (settle s.base maxRounds f).toPlant :=
  plant_deliver s _

/-- Settles O4: what is handed back changes the blocks and the reports that wait; the rounds only add to the reports. -/
theorem reactionsKeepBaseAndLines : Obligations.ReactionsKeepBaseAndLines := by
  intro s f
  obtain ⟨more, e⟩ := (calm_settle s.base maxRounds (Calm.refl f)).out
  exact ⟨base_conclude s f, conclude_sameLink s f, more, by rw [e, link_conclude]⟩

end Sys2Proof.Machine
end

section
/-! What each command's own effect does to the greens, and that every step keeps the signals safe (04/R69, R70). -/

namespace Sys2Proof.Machine

/-! ## The Signal Unit's round restores what a failed gate took -/

section Round

variable (v : Base) {f : Flow}

/-- The green of head k is driven at a gate that is OPENING or OPEN. -/
def GreenAtGate (p : Plant) (k : Fin 8) : Prop :=
  (p.heads.nth k).driven.gn = true → (p.gates.nth (gateOf k)).st = .opening ∨ (p.gates.nth (gateOf k)).st = .opened

theorem loseGreen_cases (v : Base) (k : Fin 8) (f : Flow) :
    (GreenAtGate f.toPlant k ∧ loseGreen v k f = f) ∨ loseGreen v k f = stageStop v k .stop f := by
  unfold loseGreen
  dsimp only
  split
  · exact .inr rfl
  · next n =>
    refine .inl ⟨fun hd => ?_, rfl⟩
    simpa [hd, or_iff_not_imp_left] using n

theorem gates_loseGreen (k : Fin 8) : (loseGreen v k f).gates = f.gates := by
  obtain ⟨-, e⟩ | e := loseGreen_cases v k f
  · rw [e]
  · rw [e, stageStop, toPlant_changeHead]

theorem dims_loseGreen (k j : Fin 8) : Dims (f.heads.nth j) ((loseGreen v k f).heads.nth j) := by
  obtain ⟨-, e⟩ | e := loseGreen_cases v k f
  · rw [e]; exact Dims.refl _
  · rw [e, stageStop, toPlant_changeHead]
    by_cases hj : k = j
    · subst hj
      rw [Tbl.nth_upd_same]
      exact .inl (by rw [shown_headAfter]; rfl)
    · rw [Tbl.nth_upd_other _ _ _ _ hj]
      exact Dims.refl _

theorem sound_loseGreen (hs : GreensSound f.toPlant) (k : Fin 8) : GreensSound (loseGreen v k f).toPlant :=
  hs.dims (dims_loseGreen v k) fun _ => by rw [gates_loseGreen]

/-- A head that has been examined stays lawful while others are. -/
theorem greenAtGate_loseGreen (hs : GreensSound f.toPlant) (k : Fin 8) {j : Fin 8}
    (hj : GreenAtGate f.toPlant j ∨ j = k) : GreenAtGate (loseGreen v k f).toPlant j := by
  intro hd
  rw [gates_loseGreen]
  by_cases e : j = k
  · subst e
    obtain ⟨lawful, same⟩ | stopped := loseGreen_cases v j f
    · rw [same] at hd; exact lawful hd
    · rw [stopped, stageStop, toPlant_changeHead, driven_iff] at hd
      simp only [Tbl.nth_upd_same, shown_headAfter] at hd
      cases hd.1
  · exact (hj.resolve_right e) ((dims_loseGreen v k j).driven (hs.lit j) hd)

theorem overAll_loseGreen (ks : List (Fin 8)) {f : Flow} (hs : GreensSound f.toPlant) :
    GreensSound (overAll ks (loseGreen v) f).toPlant
      ∧ ∀ j, (GreenAtGate f.toPlant j ∨ j ∈ ks) → GreenAtGate (overAll ks (loseGreen v) f).toPlant j := by
  induction ks generalizing f with
  | nil => exact ⟨hs, fun j hj => by simpa using hj⟩
  | cons k ks ih =>
    obtain ⟨sound, lawful⟩ := ih (sound_loseGreen v hs k)
    refine ⟨sound, fun j hj => lawful j ?_⟩
    by_cases hk : j ∈ ks
    · exact .inr hk
    · exact .inl (greenAtGate_loseGreen v hs k (by simpa [hk] using hj))

theorem GreensSound.safe {p : Plant} (hs : GreensSound p) (hg : ∀ k, GreenAtGate p k) : SafePlant p := by
  refine ⟨hs.lit, hs.apart, fun k => ⟨hg k, fun go => ?_⟩⟩
  have hd : (p.heads.nth k).driven.gn = true := (driven_iff _).mpr ⟨by rw [go]; rfl, hs.lit k (by rw [go]; rfl)⟩
  exact (hg k hd).resolve_left (hs.go k go)

/-- The re-examination of greens lost comes first in a round. -/
theorem safe_signalRound (hs : GreensSound f.toPlant) : SafePlant (signalRound v f).toPlant := by
  obtain ⟨sound, lawful⟩ := overAll_loseGreen v allHeads hs
  have safe := sound.safe fun k => lawful k (.inr (by revert k; decide))
  have applied := (calm_overAll (fun _ _ h => calm_applyOneGreen h v) allHeads (Calm.refl _)).safe safe
  unfold signalRound
  generalize overAll allHeads (fun _ f => applyOneGreen v f) (overAll allHeads (loseGreen v) f) = g at applied
  exact applied

theorem safe_round (hs : GreensSound f.toPlant) : SafePlant (round v f).toPlant :=
  (calm_afterSignals (Calm.refl (signalRound v f)) v).safe (safe_signalRound v hs)

theorem safe_settle (n : Nat) (hs : GreensSound f.toPlant) : SafePlant (settle v (n + 1) f).toPlant := by
  unfold settle
  dsimp only
  split
  · next e => rw [← e]; exact safe_round v hs
  · exact (calm_settle v n (Calm.refl _)).safe (safe_round v hs)

theorem safe_conclude (s : State) (hs : GreensSound f.toPlant) : SafePlant (s.conclude f).plant := by
  rw [plant_conclude]
  exact safe_settle s.base 23 hs

end Round

/-! ## The own effects of the gate commands -/

section Gates

variable {a f : Flow} (h : Calm a f) (v : Base)

include h

theorem calm_moveGate_dark {g : Fin 4} (hst : (f.gates.nth g).st ≠ .opening ∧ (f.gates.nth g).st ≠ .opened)
    (fn : Gate → Gate) : Calm a (moveGate v g fn f) := calm_gateReport (calm_setGate_dark h hst fn) v g

theorem calm_reachOpen (g : Fin 4) : Calm a (reachOpen v g f) := calm_gateReport (calm_setGate_opened h g fun _ => rfl) v g

theorem calm_openFromStopped {g : Fin 4} (hst : (f.gates.nth g).st = .stopped) : Calm a (openFromStopped v g f) := by
  have cleared : Calm a (setGate g (fun x => { x with hold := false, obstructions := 0 }) f) := calm_setGate h g fun _ => rfl
  have opening := calm_startOpening cleared v (g := g) (by rw [gates_setGate, Tbl.nth_upd_same, hst]; decide)
  exact calm_ite (calm_reachOpen opening v g) opening

/-- A gate that is neither OPENING nor OPEN has no GN driven, whatever stray marks stand. -/
theorem calm_obstruct_dark {g : Fin 4} (hst : (f.gates.nth g).st ≠ .opening ∧ (f.gates.nth g).st ≠ .opened) :
    Calm a (obstruct v g f) := calm_raise (calm_setGate_dark h hst _) v _ _ _

theorem calm_judgeBeam (g : Fin 4) : Calm a (judgeBeam v g f) := by
  unfold judgeBeam
  dsimp only
  split
  · next hst => exact calm_ite (calm_obstruct_dark h v (by rw [hst]; decide)) h
  · exact calm_ite h (calm_setGate h g fun _ => rfl)
  · exact h

end Gates

section FailedGate

variable {f : Flow} (hs : SafePlant f.toPlant) (v : Base)

include hs

/-- A gate changed by anything but an OPEN gate made OPENING. -/
theorem sound_setGate (g : Fin 4) (fn : Gate → Gate)
    (hg : (fn (f.gates.nth g)).st = .opening → (f.gates.nth g).st ≠ .opened) : GreensSound (setGate g fn f).toPlant := by
  refine ⟨by rw [GreensLit, heads_setGate]; exact hs.1, by rw [GreensApart, heads_setGate]; exact hs.2.1, fun k go => ?_⟩
  rw [heads_setGate] at go
  have opened := (hs.2.2 k).2 go
  rw [gates_setGate]
  by_cases e : g = gateOf k
  · subst e
    rw [Tbl.nth_upd_same]
    exact fun c => hg c opened
  · rw [Tbl.nth_upd_other _ _ _ _ e, opened]
    decide

theorem sound_faultGate (g : Fin 4) (c : GateCause) : GreensSound (faultGate v g c f).toPlant :=
  sound_setGate hs g _ fun e => absurd e (by simp [Gate.faulted])

theorem sound_judgeLimits (g : Fin 4) (wasShut wasOpen : Bool) :
    GreensSound (judgeLimits v g wasShut wasOpen f).toPlant := by
  have fault (c : GateCause) := sound_faultGate hs v g c
  have shut : GreensSound (reachShut v g f).toPlant := sound_setGate hs g _ fun e => by cases e
  have opened : GreensSound (reachOpen v g f).toPlant := sound_setGate hs g _ fun e => by cases e
  unfold judgeLimits
  dsimp only
  (repeat' split) <;> first | exact hs.sound | exact fault _ | exact opened | exact shut

end FailedGate

/-! ## The own effects of the other commands -/

section Effects

variable {a f : Flow} (h : Calm a f) (v : Base)

include h

theorem calm_testIdle : Calm a (testIdle v f) := by
  unfold testIdle
  split
  · exact calm_ite (calm_askOpportunity (calm_setSched h _)) h
  · exact h

theorem calm_faultSluice (g : Fin 4) (c : Nat) : Calm a (faultSluice v g c f) := calm_raise (calm_setSluice h g _) v _ _ _

theorem calm_judgePosition (g : Fin 4) : Calm a (judgePosition v g f) := by
  have fault (c : Nat) {x : Flow} (hx : Calm a x) := calm_faultSluice hx v g c
  have at_ (fn : Sluice → Sluice) := calm_setSluice h g fn
  unfold judgePosition
  dsimp only
  split
  · exact h
  · exact calm_ite (fault 3 h) (calm_ite (fault 2 (at_ _)) h)
  · exact calm_ite (fault 3 h) (calm_ite h (calm_ite (calm_ite (calm_raise (at_ _) v _ _ _) (at_ _)) (fault 1 (at_ _))))

theorem calm_startHeld (g : Fin 4) : Calm a (startHeld v g f) := calm_ite (calm_setSluice h g _) h

/-- A lamp that fails, GN or a red, puts no green on (04/R72, R74, R75). -/
theorem calm_failLamp (k : Fin 8) (l : Lamp) : Calm a (failLamp v k l f) := by
  have told := calm_raise h v .alarm 0x07 (u1 k ++ u1 (lampCode l) ++ u1 (f.heads.nth k).shown.code)
  unfold failLamp
  dsimp only
  cases l
  case gn => exact calm_changeHead told v k (.inl rfl)
  all_goals exact calm_ite (calm_changeHead told v k (.inl rfl)) (calm_changeHead told v k (.inr ⟨rfl, id⟩))

/-- Lamps reset show what was shown, in no worse health. -/
theorem calm_resetLamps (k : Fin 8) (ls : List Lamp) : Calm a (resetLamps v k ls f) := by
  refine calm_tryGreen (calm_changeHead h v k (.inr ?_)) v k
  generalize f.heads.nth k = x
  induction ls generalizing x with
  | nil => exact ⟨rfl, id⟩
  | cons l ls ih =>
    obtain ⟨shown, good⟩ := ih (if x.good.nth l = true then x else
      { x with good := x.good.put l true, prove := x.prove.put l none })
    refine ⟨shown.trans (by split <;> rfl), fun g => good ?_⟩
    split
    · exact g
    · cases l
      · exact g
      · exact g
      · rfl

theorem calm_setHead_still (k : Fin 8) {fn : Head → Head} (hfn : ∀ x, (fn x).shown = x.shown ∧ (fn x).good = x.good) :
    Calm a (setHead k fn f) := by
  refine h.trans ⟨List.prefix_refl _, fun hs => hs.dims (fun j => ?_) fun _ _ => .inl rfl⟩
  rw [toPlant_setHead]
  by_cases e : k = j
  · subst e
    rw [Tbl.nth_upd_same]
    exact .inr ⟨(hfn _).1, fun g => by rw [(hfn _).2]; exact g⟩
  · rw [Tbl.nth_upd_other _ _ _ _ e]
    exact Dims.refl _

theorem calm_markStray (k : Fin 8) (l : Lamp) : Calm a (markStray v k l f) :=
  calm_raise (calm_recheckHeads (calm_setHead_still h k (fn := Head.marked l) fun _ => ⟨rfl, rfl⟩) _) v _ _ _

theorem calm_senseLamp (k : Fin 8) (l : Lamp) : Calm a (senseLamp v k l f) :=
  calm_ite (calm_raise (calm_changeHead h v k (.inr ⟨rfl, id⟩)) v _ _ _) (calm_changeHead h v k (.inr ⟨rfl, id⟩))

theorem calm_waiveHead {b : Nat} {k : Fin 8} {x : Flow} (e : waiveHead v b k f = some x) : Calm a x := by
  unfold waiveHead at e
  dsimp only at e
  split at e
  · obtain rfl := Option.some.inj e
    exact calm_changeHead h v k (.inr ⟨rfl, id⟩)
  · cases e

theorem calm_keeperStage (k : Fin 8) (s : Aspect) : Calm a (keeperStage v k s f) := by
  unfold keeperStage
  split
  · next hs => exact calm_changeHead h v k (.inl hs)
  · exact calm_ite (calm_changeHead h v k (.inr ⟨rfl, id⟩)) (calm_tryGreen (calm_changeHead h v k (.inr ⟨rfl, id⟩)) v k)

theorem calm_setSaving (x : Bool) : Calm a (setSaving v x f) :=
  calm_ite h (calm_redecidePermit (calm_raise (calm_setSched h _) v _ _ _) v)

theorem calm_withdrawPassage (p : Passage) : Calm a (withdrawPassage v p f) :=
  calm_leaveItsBatch (calm_endPassage (calm_releaseReserve h p) v _ _ _) v p _

theorem calm_flagMember (x : Passage) : Calm a (flagMember x f) := by
  unfold flagMember
  split
  · exact h
  · exact calm_setBatch h _ _

theorem calm_berthing {x : Passage} {y : Flow} (e : berthing v x f = some y) : Calm a y := by
  have flagged := calm_flagMember h x
  unfold berthing at e
  split at e
  · split at e
    · obtain rfl := Option.some.inj e
      exact calm_fixFee (calm_changePassage flagged v _ _ _) v _
    · cases e
  · obtain rfl := Option.some.inj e
    exact calm_changePassage flagged v _ _ _
  · cases e

theorem calm_endCharged (x : Passage) (e : PassEnd) (b : BatchEnd) (charge : Nat) : Calm a (endCharged v x e b charge f) :=
  calm_leaveItsBatch (calm_endPassage (calm_postCharge h v x charge) v _ _ _) v x _

theorem calm_holdOverdue (b : Batch) : Calm a (holdOverdue v b f) :=
  calm_overdueReport (calm_setBatch (calm_hold h v b.id _) _ _) v b

theorem calm_waiveBatch {b : Batch} {y : Flow} (e : waiveBatch v b f = some y) : Calm a y := by
  unfold waiveBatch at e
  split at e
  · cases e
  · rw [Option.map_eq_some_iff] at e
    obtain ⟨x, hx, rfl⟩ := e
    exact calm_setBatch (calm_waiveHead h v hx) _ _

theorem calm_confirmMember (k n : Nat) : Calm a (confirmMember v k n f) := by
  unfold confirmMember
  split
  · exact h
  · exact calm_ite (calm_fixFee (calm_changePassage h v n _ _) v n) (calm_changePassage h v n _ _)

theorem calm_confirmBatch (b : Batch) (k : Nat) : Calm a (confirmBatch v b k f) :=
  calm_enterStep (calm_overAll (fun n _ h => calm_confirmMember h v k n) _
    (calm_tellOccupied v (calm_mapBatches h _))) v _ _

theorem calm_gaugeReports (first : Bool) (c : Fin 8) (old new : Gauge) : Calm a (gaugeReports v first c old new f) := by
  have fault := calm_ite (c := new.status = .fault ∧ (first = true ∨ old.status = .good))
    (calm_raise h v .alarm 0x01 (u1 c ++ u2 new.raw)) h
  unfold gaugeReports
  dsimp only
  refine calm_ite (calm_raise ?_ v _ _ _) ?_
  all_goals
    split
    · exact calm_raise fault v _ _ _
    · exact fault

theorem calm_bodyReport (first : Bool) (k : Fin 5) (old new : Body) : Calm a (bodyReport v first k old new f) :=
  calm_ite h (calm_ite (calm_raise h v _ _ _) (calm_raise h v _ _ _))

theorem calm_limitReports (k : Fin 5) (old new : Body) : Calm a (limitReports v k old new f) := by
  have one (which code : Nat) (was is : Bool) {x : Flow} (hx : Calm a x) : Calm a (if was = is then x else
      raise v .water (if is then code else 0x44) (u1 k ++ u1 which ++ lvl2 new.level) x) :=
    calm_ite hx (calm_raise hx v _ _ _)
  exact one 1 0x43 old.low new.low (one 0 0x42 old.high new.high h)

theorem calm_scanReports (old new : Scanner) : Calm a (scanReports v old new f) :=
  calm_overAll (fun _ _ h => calm_limitReports h v _ _ _) _ (calm_overAll (fun _ _ h => calm_bodyReport h v _ _ _ _) _
    (calm_overAll (fun _ _ h => calm_gaugeReports h v _ _ _ _) _ h))

theorem calm_afterScan (old : Scanner) : Calm a (afterScan v old f) := by
  have reported := calm_scanReports h v old v.scanner
  have flood := calm_ite (c := (v.scanner.flood && !old.flood) = true) (calm_floodSignal reported v true) reported
  unfold afterScan
  dsimp only
  refine calm_askOpportunity (calm_scanLevellings (Calm.of_eq flood ?_ ?_ ?_) v _) <;> rfl

theorem calm_joined (s : State) (p : Passage) (hf : s.flow = f) : Calm a (s.joined p).2 := by
  subst hf
  have looked := calm_lookUpHull h s.base p
  unfold State.joined
  split
  next hulls x e =>
  rw [e] at looked
  refine calm_askOpportunity (calm_passageReport ?_ _ _ _ _)
  exact looked.of_eq rfl rfl rfl

end Effects

end Sys2Proof.Machine
end

section
/-! Every step keeps the signals safe (04/R69, R70). -/

namespace Sys2Proof.Machine

/-- A command keeps the signals safe. -/
def Guarded (s t : State) : Prop := SafePlant s.plant → SafePlant t.plant

@[simp] theorem guarded_refl (s : State) : Guarded s s := id

theorem guarded_of_plant {s t : State} (h : t.plant = s.plant) : Guarded s t := by
  intro hs
  rw [h]
  exact hs

/-- A calm effect of a state with the blocks of `s`, settled. -/
theorem guarded_conclude {s t : State} {f : Flow} (hp : t.plant = s.plant) (h : Calm t.flow f) :
    Guarded s (t.conclude f) := fun hs => safe_conclude t (h.safe (by rw [toPlant_flow, hp]; exact hs)).sound

theorem guarded_deliver {s t : State} {f : Flow} (hp : t.plant = s.plant) (h : Calm t.flow f) :
    Guarded s (t.deliver f) := by
  intro hs
  rw [plant_deliver]
  exact h.safe (by rw [toPlant_flow, hp]; exact hs)

theorem guarded_if {s t u : State} (c : Prop) [Decidable c] (ht : Guarded s t) (hu : Guarded s u) :
    Guarded s (if c then t else u) := by
  split
  · exact ht
  · exact hu

theorem guarded_reply {s t : State} (h : Guarded s t) (p : Port) (kind tag : Nat) (st : Status) (body : List Byte)
    (a : AfterSent) : Guarded s (t.reply p kind tag st body a) := h

/-- An answered request: what the blocks are after it is what its own block left. -/
theorem guarded_serve {rq : Rq} {kind required : Nat} {act : State → Answer} {s : State}
    (h : Guarded s (act s).state) : Guarded s (serve rq kind required act s) := by
  unfold serve
  dsimp only
  refine guarded_if _ (guarded_refl s) (guarded_if _ (guarded_refl s) (guarded_if _ (guarded_refl s) ?_))
  split
  · exact h
  · exact h

/-! ## Requests -/

theorem guarded_keeperOpen (ready : Base → Plant → Fin 4 → Bool) (g : Fin 4) (s : State) :
    Guarded s (keeperOpen ready g s).state := by
  have own := calm_setOwner (Calm.refl s.flow) g .keeper
  have st : ((setOwner g .keeper s.flow).gates.nth g).st = (s.plant.gates.nth g).st := by
    rw [setOwner, gates_setGate, Tbl.nth_upd_same]
    rfl
  unfold keeperOpen
  dsimp only
  split
  · next e =>
    split
    · simp
    · exact guarded_conclude rfl (calm_startOpening own _ (by rw [st, e]; decide))
  · next e => exact guarded_conclude rfl (calm_openFromStopped own _ (by rw [st, e]))
  · exact guarded_conclude rfl (calm_ownGate (Calm.refl _) _ g _)
  · simp

theorem guarded_keeperClose (g : Fin 4) (s : State) : Guarded s (keeperClose g s).state := by
  have asks : Calm s.flow (setGate g (fun x => { x with ask := none }) s.flow) :=
    calm_setGate (Calm.refl _) g fun _ => rfl
  have close (hl : ¬ s.plant.gateLit g = true) : Guarded s (gateTaken s g
      (takeCloseFor s.base g .keeper (setGate g (fun x => { x with ask := none }) s.flow))).state :=
    guarded_conclude rfl (calm_takeCloseFor asks _ ((gateLit_setGate s.flow g g _).trans (by simpa using hl)) _)
  unfold keeperClose
  split
  · split
    · simp
    · next hl => exact close hl
  · split
    · simp
    · next hl => exact close hl
  · exact guarded_conclude rfl (calm_ownGate (Calm.refl _) _ g _)
  · simp

theorem guarded_keeperReset (g : Fin 4) (s : State) : Guarded s (keeperReset g s).state := by
  have move (hf : (s.plant.gates.nth g).st = .fault) (fn : Gate → Gate) : Calm s.flow (moveGate s.base g fn s.flow) := by
    have hf : (s.flow.gates.nth g).st = .fault := hf
    exact calm_moveGate_dark (Calm.refl _) s.base (by rw [hf]; decide) fn
  unfold keeperReset
  dsimp only
  split
  · simp
  · next hf =>
    have hf := not_not.mp hf
    split
    · exact guarded_conclude rfl (move hf _)
    · split
      · exact guarded_conclude rfl (move hf _)
      · simp

theorem guarded_keeperRelease (g : Fin 4) (s : State) : Guarded s (keeperRelease g s).state := by
  unfold keeperRelease
  dsimp only
  split
  · exact guarded_conclude rfl (calm_ownGate (Calm.refl _) _ g _)
  · simp

theorem guarded_gateCommand {act : Fin 4 → State → Answer} (h : ∀ g s, Guarded s (act g s).state) (rq : Rq) (gate : Nat)
    (s : State) : Guarded s (gateCommand rq gate act s) := by
  refine guarded_serve ?_
  dsimp only
  split
  · simp
  · (repeat' split) <;> simp [h]

theorem guarded_settingTaken (s : State) (k : Setting) : Guarded s (s.settingTaken k) := by
  unfold State.settingTaken
  split
  · exact guarded_deliver rfl (calm_calibrationChanged (Calm.refl _) _ _)
  · exact guarded_deliver rfl (calm_calibrationChanged (Calm.refl _) _ _)
  · exact guarded_conclude rfl (calm_testIdle (Calm.refl _) _)
  · exact guarded_conclude rfl (calm_redecidePermit (Calm.refl _) _)
  · exact guarded_conclude rfl (calm_redecidePermit (Calm.refl _) _)
  · exact guarded_refl s

theorem guarded_committed (s : State) (c : Fin 8) (gain offset : Int) : Guarded s (s.committed c gain offset) := by
  intro hs
  have set : SafePlant (((s.withSettings { s.base.settings with
      gain := s.base.settings.gain.put c gain.toNat, offset := s.base.settings.offset.put c offset }).updGauge c
        fun g => { g with point1 := none, point2 := none }).recalibrated c).plant :=
    guarded_deliver (s := s) rfl (calm_calibrationChanged (Calm.refl _) _ _) hs
  exact set

theorem plant_of_flightCheck {s : State} {d : Declaration} {pay : Option Nat} {a : Answer}
    (h : flightCheck s d pay = some a) : a.state = s := by
  unfold flightCheck at h
  grind [state_refuse, state_badField]

theorem guarded_passRequest (rq : Rq) (d : Declaration) (s : State) : Guarded s (passRequest rq d s).state := by
  unfold passRequest
  split
  · split
    · simp
    · split
      · next h => rw [plant_of_flightCheck h]; exact guarded_refl s
      · intro hs
        exact safe_conclude _ ((calm_joined (Calm.refl s.flow) s _ rfl).safe hs).sound
  · simp
  · simp

/-- Every request keeps the signals safe. -/
theorem runRequest_guarded (i : Instr) (s : State) : ∃ t, runRequest i s = .next t ∧ Guarded s t := by
  have same := Calm.refl s.flow
  cases i
  case gateCmdOpen | gateCmdForceOpen => exact ⟨_, rfl, guarded_gateCommand (guarded_keeperOpen _) _ _ _⟩
  case gateCmdClose => exact ⟨_, rfl, guarded_gateCommand guarded_keeperClose _ _ _⟩
  case gateCmdReset => exact ⟨_, rfl, guarded_gateCommand guarded_keeperReset _ _ _⟩
  case gateCmdRelease => exact ⟨_, rfl, guarded_gateCommand guarded_keeperRelease _ _ _⟩
  case settingSet rq ident value =>
    refine ⟨_, rfl, guarded_serve ?_⟩
    dsimp only
    split
    · simp
    · split
      · simp
      · split
        · simp
        · simp
        · exact guarded_settingTaken (s.withSettings (s.base.settings.write _ value)) _
  case calCommit rq channel =>
    refine ⟨_, rfl, guarded_serve ?_⟩
    dsimp only
    (repeat' split) <;> simp [guarded_committed]
  case sluiceCmdPosition =>
    refine ⟨_, rfl, guarded_serve ?_⟩
    (repeat' split) <;> try simp only [state_refuse, state_badField, guarded_refl]
    exact guarded_conclude rfl (calm_commandSluice same _ _ _)
  case sluiceCmdReset =>
    refine ⟨_, rfl, guarded_serve ?_⟩
    dsimp only
    (repeat' split) <;> try simp only [state_refuse, state_badField, guarded_refl]
    exact guarded_conclude rfl (calm_setSluice same _ _)
  case levelCmdStart =>
    refine ⟨_, rfl, guarded_serve ?_⟩
    dsimp only
    (repeat' split) <;> try simp only [state_refuse, state_badField, guarded_refl]
    exact guarded_conclude rfl (calm_failRefused (calm_startChecks same _ _ _) _ _)
  case levelCmdCancel =>
    refine ⟨_, rfl, guarded_serve ?_⟩
    dsimp only
    (repeat' split) <;> try simp only [state_refuse, state_badField, guarded_refl]
    exact guarded_conclude rfl (calm_cancelChannel same _ _)
  case lampReset =>
    refine ⟨_, rfl, guarded_serve ?_⟩
    dsimp only
    split
    · simp
    · simp
    · exact guarded_conclude rfl (calm_resetLamps same _ _ _)
  case headCmdAspect =>
    refine ⟨_, rfl, guarded_serve ?_⟩
    dsimp only
    split
    · simp
    · simp
    · split
      · simp
      · exact guarded_conclude rfl (calm_keeperStage same _ _ _)
  case headCmdRelease =>
    refine ⟨_, rfl, guarded_serve ?_⟩
    dsimp only
    (repeat' split) <;> try simp only [state_refuse, state_badField, guarded_refl]
    exact guarded_conclude rfl (calm_giveHead same _ _)
  case passRequest => exact ⟨_, rfl, guarded_serve (guarded_passRequest _ _ _)⟩
  case passWithdraw =>
    refine ⟨_, rfl, guarded_serve ?_⟩
    (repeat' split) <;> try simp only [state_refuse, guarded_refl]
    exact guarded_conclude rfl (calm_withdrawPassage same _ _)
  case regime =>
    refine ⟨_, rfl, guarded_serve ?_⟩
    split
    · simp
    · exact guarded_conclude rfl (calm_setSaving same _ _)
  case berthed =>
    refine ⟨_, rfl, guarded_serve ?_⟩
    split
    · simp
    · split
      · simp
      · next e => exact guarded_conclude rfl (calm_berthing same _ e)
  case missed =>
    refine ⟨_, rfl, guarded_serve ?_⟩
    dsimp only
    (repeat' split) <;> try simp only [state_refuse, guarded_refl]
    exact guarded_conclude rfl (calm_missPassage same _ _)
  case cleared | remove =>
    refine ⟨_, rfl, guarded_serve ?_⟩
    dsimp only
    (repeat' split) <;> try simp only [state_refuse, guarded_refl]
    exact guarded_conclude rfl (calm_endCharged (Calm.refl _) _ _ _ _ _)
  case eject =>
    refine ⟨_, rfl, guarded_serve ?_⟩
    (repeat' split) <;> try simp only [state_refuse, guarded_refl]
    exact guarded_conclude rfl (calm_leaveItsBatch (calm_endPassage (calm_releaseReserve same _) _ _ _ _) _ _ _)
  case waved =>
    refine ⟨_, rfl, guarded_serve ?_⟩
    split
    · simp
    · split
      · split
        · simp
        · next e => exact guarded_conclude rfl (calm_waiveBatch same _ e)
      · simp
  case confirm =>
    refine ⟨_, rfl, guarded_serve ?_⟩
    (repeat' split) <;> try simp only [state_refuse, state_badField, guarded_refl]
    exact guarded_conclude rfl (calm_confirmBatch same _ _ _)
  case accountSet =>
    refine ⟨_, rfl, guarded_serve ?_⟩
    dsimp only
    split
    · simp
    · split
      · simp
      · refine guarded_deliver rfl (calm_accountReport ?_ _ _)
        exact same.of_eq rfl rfl rfl
  case accountCredit =>
    refine ⟨_, rfl, guarded_serve ?_⟩
    dsimp only
    (repeat' split) <;> try simp only [state_refuse, state_badField, guarded_refl]
    · exact guarded_refl s
    · exact guarded_deliver rfl (calm_accountReport (calm_setAccount same _ _) _ _)
  case logDrop =>
    refine ⟨_, rfl, guarded_serve ?_⟩
    dsimp only
    (repeat' split) <;> try simp only [state_refuse, state_badField, state_badTogether, guarded_refl]
    exact guarded_conclude rfl (calm_askOpportunity (Calm.refl _))
  case periodClose =>
    refine ⟨_, rfl, guarded_serve fun hs => ?_⟩
    exact hs
  case mode =>
    refine ⟨_, rfl, guarded_serve ?_⟩
    dsimp only
    (repeat' split) <;> try simp only [state_badField, guarded_refl]
    · exact guarded_refl s
    · exact guarded_conclude rfl (calm_changeMode same _ _)
  case flightClose | flightOpen => exact ⟨_, rfl, guarded_serve (guarded_conclude rfl (calm_keeperCause same _ _))⟩
  case standdown =>
    exact ⟨_, rfl, guarded_serve (guarded_if _ (guarded_refl s) (guarded_conclude rfl (calm_standDown same _ _)))⟩
  case resume =>
    refine ⟨_, rfl, guarded_serve ?_⟩
    dsimp only
    split
    · simp
    · exact guarded_conclude rfl (calm_resumeFlight same _)
  case powerOn | warmStart | powerLoss | receiveByte | framingErrorByte | frameGapTimeout | frameTaken | transmitterFree
      | settingsStoreDone | scan | floodCleared | calCaptured | gateLimitInput | beamInput | beamClearExpiry | travelTimeout
      | sluicePositionInput | sluiceStepTimeout | intervalMet | stepTimerExpiry | levellingComplete | levellingTimeLimit
      | suspensionTimeout | clearanceMarginExpiry | lampFail | lampCurrentInput | lampStray | idleHoldExpiry
      | preparationRetryExpiry | drawLeavesWindow | drawEntryExpiry | entryBerthExpiry | shiftBerthExpiry | overdueRepeat
      | mainsInput | batteryInput | deadlineExpiry => exact ⟨s, rfl, guarded_refl s⟩
  -- The queries and the requests of the Link Unit, the Gauge Scanner and the tariff leave the blocks.
  all_goals
    refine ⟨_, rfl, guarded_serve (guarded_of_plant ?_)⟩
    try dsimp only
    (repeat' split) <;> rfl

/-! ## The lines and the supply -/

theorem plant_afterSent (s : State) (a : AfterSent) : (s.afterSent a).plant = s.plant := by cases a <;> rfl

theorem plant_finishSending (s : State) (p : Port) : (s.finishSending p).plant = s.plant := by
  unfold State.finishSending
  split
  · rfl
  · exact plant_afterSent _ _

theorem plant_payOwed (s : State) (p : Port) : (s.payOwed p).plant = s.plant := by
  unfold State.payOwed
  (repeat' split) <;> rfl

theorem plant_joinBuffer (s : State) (p : Port) (x : Frame) : (s.joinBuffer p x).plant = s.plant := by
  unfold State.joinBuffer
  (repeat' split) <;> rfl

theorem guarded_judgeFrame (p : Port) (x : Frame) (s : State) : ∃ t, judgeFrame p x s = .next t ∧ Guarded s t := by
  unfold judgeFrame
  dsimp only
  (repeat' split) <;> first | exact runRequest_guarded _ s | exact ⟨_, rfl, guarded_refl s⟩

/-- Heads that all show a stopping aspect are safe, wherever the gates stand. -/
theorem safe_of_stopping {p : Plant} (stop : ∀ k, (p.heads.nth k).shown.stopping = true) : SafePlant p := by
  have dark (k : Fin 8) : (p.heads.nth k).driven.gn = false := by rw [driven_gn, stop]; rfl
  refine ⟨fun k hk => ?_, fun _ k _ _ => dark k, fun k => ⟨fun hk => ?_, fun hk => ?_⟩⟩
  · rw [stop] at hk; cases hk
  · rw [dark] at hk; cases hk
  · have := stop k
    rw [hk] at this
    cases this

/-- Every head starts at a stopping aspect, in health (04/R80). -/
theorem safe_startPlant (cold kept : Bool) (v : Base) (p : Plant) : SafePlant (startPlant cold kept v p) := by
  refine safe_of_stopping fun k => ?_
  have head : (startPlant cold kept v p).heads.nth k = startHead v k := by simp [startPlant, Tbl.nth]
  have rest : (startHead v k).shown = if k = 0 ∨ k = 7 then .shut else .stop := rfl
  rw [head, rest]
  split <;> rfl

section Start

variable {a f : Flow} (h : Calm a f) (v : Base)

include h

theorem calm_startPassage (n : Nat) : Calm a (startPassage v n f) := by
  unfold startPassage
  split
  · exact h
  · have bypass := calm_setPassage h n fun p => { p with bypass := min p.bypass v.settings.bypassLimit }
    exact calm_ite (calm_endPassage h v _ _ _) (calm_ite bypass (calm_changePassage bypass v n _ _))

theorem calm_startGateReport (g : Fin 4) : Calm a (startGateReport v g f) := by
  unfold startGateReport
  split
  · exact h
  · exact calm_raise h v _ _ _

theorem calm_startSluiceReport (g : Fin 4) : Calm a (startSluiceReport v g f) := calm_ite (calm_raise h v _ _ _) h

theorem calm_startReports : Calm a (startReports v f) := by
  have gates := calm_overAll (fun g _ h => calm_startGateReport h v g) allGates h
  have sluices := calm_overAll (fun g _ h => calm_startSluiceReport h v g) allGates gates
  have heads := calm_overAll (fun k x h => calm_aspectReport h v k (x.heads.nth k)) allHeads sluices
  exact calm_flightReport (calm_overAll (fun id _ h => calm_stepReport h v id) _
    (calm_overAll (fun n _ h => calm_startPassage h v n) _ heads)) v _

end Start

theorem guarded_start (cold kept : Bool) (s : State) : Guarded s (s.start cold kept) := by
  intro _
  unfold State.start
  dsimp only
  rw [plant_deliver]
  exact (calm_startReports (Calm.refl _) _).safe (safe_startPlant _ _ _ _)

/-! ## Every command -/

/-- An input: its pin follows, and the blocks react where the condition holds. -/
theorem guarded_input {s : State} {x : Pins} {f : Flow} (c : Prop) [Decidable c] (h : Calm (s.withPins x).flow f) :
    Guarded s (if c then (s.withPins x).conclude f else s.withPins x) :=
  guarded_if c (guarded_conclude rfl h) (guarded_of_plant rfl)

/-- Every command keeps the signals safe. -/
theorem exec_guarded (i : Instr) (s : State) : ∃ t, exec i s = .next t ∧ Guarded s t := by
  have request := runRequest_guarded i s
  have same := Calm.refl s.flow
  have event {f : Flow} (c : Prop) [Decidable c] (h : Calm s.flow f) : Guarded s (if c then s.conclude f else s) :=
    guarded_if c (guarded_conclude rfl h) (guarded_refl s)
  cases i
  case powerOn kept =>
    refine ⟨_, rfl, fun _ => ?_⟩
    split
    · exact guarded_start _ _ _ ‹_›
    · exact guarded_start _ _ _ ‹_›
  case warmStart => exact ⟨_, rfl, guarded_if _ (guarded_start _ _ s) (guarded_refl s)⟩
  case powerLoss => exact ⟨_, rfl, guarded_if _ (guarded_of_plant rfl) (guarded_refl s)⟩
  case receiveByte p b =>
    refine ⟨_, rfl, guarded_if _ ?_ (guarded_refl s)⟩
    split
    · exact guarded_of_plant rfl
    · exact guarded_of_plant (plant_joinBuffer _ _ _)
  case framingErrorByte | frameGapTimeout => exact ⟨_, rfl, guarded_if _ (guarded_of_plant rfl) (guarded_refl s)⟩
  case frameTaken p =>
    show ∃ t, execFrameTaken p s = .next t ∧ Guarded s t
    unfold execFrameTaken
    split
    · split
      · exact ⟨s, rfl, guarded_refl s⟩
      · exact guarded_judgeFrame p _ (s.updPort p _)
    · exact ⟨s, rfl, guarded_refl s⟩
  case transmitterFree p =>
    refine ⟨_, rfl, guarded_if _ (guarded_of_plant ?_) (guarded_refl s)⟩
    dsimp only
    split
    · exact plant_finishSending s p
    · rw [plant_payOwed]
      exact plant_finishSending s p
  case settingsStoreDone =>
    refine ⟨_, rfl, guarded_of_plant ?_⟩
    split
    · unfold State.storeReply
      dsimp only
      split <;> rfl
    · rfl
  case scan =>
    exact ⟨_, rfl, guarded_if _ (guarded_conclude rfl (calm_afterScan (Calm.refl _) _ _)) (guarded_refl s)⟩
  case floodCleared =>
    exact ⟨_, rfl, guarded_if _ (guarded_conclude rfl (calm_floodSignal (Calm.refl _) _ _)) (guarded_refl s)⟩
  case calCaptured c =>
    refine ⟨_, rfl, guarded_of_plant ?_⟩
    (repeat' split) <;> rfl
  case gateLimitInput g sh op =>
    refine ⟨_, rfl, guarded_if _ (fun hs => ?_) (guarded_of_plant rfl)⟩
    exact safe_conclude _ (sound_judgeLimits hs _ g _ _)
  case beamInput g blocked =>
    exact ⟨_, rfl, guarded_input _ (calm_reexamineLeft (calm_judgeBeam (Calm.refl _) _ g) _ g)⟩
  case sluicePositionInput g code => exact ⟨_, rfl, guarded_input _ (calm_judgePosition (Calm.refl _) _ g)⟩
  case lampCurrentInput h l sensed => exact ⟨_, rfl, guarded_input _ (calm_senseLamp (Calm.refl _) _ h l)⟩
  case mainsInput => exact ⟨_, rfl, guarded_input _ (calm_mainsChanged (Calm.refl _) _)⟩
  case batteryInput => exact ⟨_, rfl, guarded_input _ (calm_batteryChanged (Calm.refl _) _)⟩
  case beamClearExpiry g =>
    refine ⟨_, rfl, ?_⟩
    split
    · next c =>
      simp only [Bool.and_eq_true, beq_iff_eq] at c
      exact guarded_conclude rfl (calm_startClosing same _ (by simpa using c.2))
    · exact guarded_refl s
  case travelTimeout g =>
    exact ⟨_, rfl, guarded_if _ (fun hs => safe_conclude _ (sound_faultGate hs _ g _)) (guarded_refl s)⟩
  case sluiceStepTimeout g => exact ⟨_, rfl, event _ (calm_faultSluice same _ g _)⟩
  case intervalMet g => exact ⟨_, rfl, event _ (calm_startHeld same _ g)⟩
  case stepTimerExpiry g => exact ⟨_, rfl, event _ (calm_raiseStep same _ g)⟩
  case levellingComplete g =>
    have complete := calm_completeLevelling same s.base g
    exact ⟨_, rfl, event _ (calm_ite (calm_askOpportunity complete) complete)⟩
  case levellingTimeLimit g => exact ⟨_, rfl, event _ (calm_failChannel same _ g _)⟩
  case suspensionTimeout g => exact ⟨_, rfl, event _ (calm_failChannel same _ g _)⟩
  case clearanceMarginExpiry h => exact ⟨_, rfl, event _ (calm_tryGreen same _ h)⟩
  case lampFail h l => exact ⟨_, rfl, event _ (calm_failLamp same _ h l)⟩
  case lampStray h l => exact ⟨_, rfl, event _ (calm_markStray same _ h l)⟩
  case idleHoldExpiry =>
    refine ⟨_, rfl, ?_⟩
    split
    · exact event _ (calm_askOpportunity (calm_setSched same _))
    · exact guarded_refl s
  case preparationRetryExpiry =>
    refine ⟨_, rfl, ?_⟩
    split
    · exact guarded_if _ (guarded_refl s) (guarded_if _
        (guarded_conclude rfl (calm_ite (calm_askTurn same _) same)) (guarded_conclude rfl (calm_askOpportunity same)))
    · exact guarded_refl s
  case drawLeavesWindow => exact ⟨_, rfl, event _ (calm_redecidePermit same _)⟩
  case drawEntryExpiry =>
    exact ⟨_, rfl, guarded_if _ (guarded_deliver rfl (calm_setSched same _)) (guarded_refl s)⟩
  case entryBerthExpiry b =>
    refine ⟨_, rfl, ?_⟩
    split
    · exact event _ (calm_overAll (fun n _ h => calm_missPassage h _ n) _ same)
    · exact guarded_refl s
  case shiftBerthExpiry b =>
    refine ⟨_, rfl, ?_⟩
    split
    · exact event _ (calm_holdOverdue same _ _)
    · exact guarded_refl s
  case overdueRepeat b =>
    refine ⟨_, rfl, ?_⟩
    split
    · exact guarded_if _ (guarded_deliver rfl (calm_overdueReport (calm_setBatch same _ _) _ _)) (guarded_refl s)
    · exact guarded_refl s
  case deadlineExpiry => exact ⟨_, rfl, event _ (calm_expireDeadline same _)⟩
  all_goals exact request

/-- Settles O44: the step is a command, which keeps the signals safe, or the time base, which leaves the blocks. -/
theorem stepKeepsSignalsSafe : Obligations.StepKeepsSignalsSafe := by
  intro s t hs hstep
  unfold step at hstep
  split at hstep
  · obtain rfl := Host.Outcome.next.inj hstep
    unfold tick
    split <;> exact hs
  · next c rest _ =>
    obtain ⟨u, e, h⟩ := exec_guarded c (s.withPending rest)
    obtain rfl := Host.Outcome.next.inj (e.symm.trans hstep)
    exact h hs

end Sys2Proof.Machine
end

section
/-! The Gauge Scanner: samples, bodies, substitution and calibration (01/R2 to R10, R16 to R18). -/

namespace Sys2Proof.Machine

/-! ## Rounding -/

/-- A number that is not negative is rounded to the nearest, half up. -/
theorem roundHalfAway_bounds {n : Int} {d : Nat} (hd : 0 < d) (hn : 0 ≤ n) :
    d * (2 * roundHalfAway n d) ≤ 2 * n + d ∧ 2 * n + d < d * (2 * roundHalfAway n d + 2) := by
  have r : roundHalfAway n d = (2 * n + d) / (2 * d) := if_pos hn
  have pos : (0 : Int) < 2 * d := by omega
  have lower := Int.mul_ediv_self_le (x := 2 * n + d) (k := 2 * d) pos.ne'
  have upper := Int.lt_mul_ediv_self_add (x := 2 * n + d) (k := 2 * d) pos
  rw [r]
  constructor
  · calc (d : Int) * (2 * ((2 * n + d) / (2 * d))) = 2 * d * ((2 * n + d) / (2 * d)) := by ring
      _ ≤ 2 * n + d := lower
  · calc 2 * n + d < 2 * d * ((2 * n + d) / (2 * d)) + 2 * d := upper
      _ = d * (2 * ((2 * n + d) / (2 * d)) + 2) := by ring

/-- Rounding is the same on both sides of zero. -/
theorem roundHalfAway_neg {n : Int} {d : Nat} (hd : 0 < d) (hn : 0 ≤ n) :
    roundHalfAway (-n) d = -roundHalfAway n d := by
  unfold roundHalfAway
  obtain rfl | pos := hn.eq_or_lt
  · have z : ((d : Int)) / (2 * d) = 0 := Int.ediv_eq_zero_of_lt (by omega) (by omega)
    simp [z]
  · rw [if_neg (by omega), if_pos hn, neg_neg]

theorem mag_eq_abs (x : Int) : mag x = |x| := by
  unfold mag
  split
  · next h => rw [abs_of_nonneg h]
  · next h => rw [abs_of_neg (by omega)]

/-! ## Samples -/

/-- Smoothing changes the level and the flag alone. -/
theorem smooth_eq (g : Gauge) (l : Int) : g.smooth l = { g with level := (g.smooth l).level, reinit := false } := by
  unfold Gauge.smooth
  split
  · next h _ => rw [← h]
  · rfl

/-- A gauge that is not to start afresh moves a quarter of the way. -/
theorem smooth_level {g : Gauge} {l m : Int} (hr : g.reinit = false) (hm : g.level = some m) :
    (g.smooth l).level = some (m + roundHalfAway (l - m) 4) := by simp [Gauge.smooth, hr, hm]

/-- One that is, or has no level, starts at the level it takes. -/
theorem smooth_fresh {g : Gauge} {l : Int} (h : g.reinit = true ∨ g.level = none) : (g.smooth l).level = some l := by
  unfold Gauge.smooth
  split
  · next hr hm => simp [hr, hm] at h
  · rfl

theorem faultedSample_iff {x : Nat} : faultedSample x = true ↔ x < 16 ∨ 4079 < x := by simp [faultedSample]

theorem faultedSample_inRange {x : Nat} (lo : 16 ≤ x) (hi : x ≤ 4079) : faultedSample x = false := by
  rw [← Bool.not_eq_true, faultedSample_iff]
  omega

/-- What an in-range sample finds: a gauge that was GOOD as it is, any other to be started afresh. -/
def Gauge.ready (x : Nat) (g : Gauge) : Gauge :=
  if g.status = .good then { g with raw := x } else { g with raw := x, status := .good, subst := none, reinit := true }

theorem sampleGauge_inRange {gain : Nat} {offset : Int} {x : Nat} {g : Gauge} (h : faultedSample x = false) :
    sampleGauge gain offset x g =
      { (g.ready x).smooth (clampLevel (rawLevel gain offset x)) with
        clamped := decide (rawLevel gain offset x ≠ clampLevel (rawLevel gain offset x))
        capture := g.capture.map (Capture.take x) } := by
  unfold sampleGauge Gauge.ready
  rw [if_neg (by simp [h])]
  dsimp only
  split <;> rfl

/-- What a faulted sample finds: its code is recorded, and a capture that still gathers samples is abandoned. -/
def Gauge.missed (x : Nat) (g : Gauge) : Gauge := { g with raw := x, capture := g.capture.filter (·.taken == 8) }

section Faulted

variable {gain : Nat} {offset : Int} {x : Nat} {g : Gauge} (h : faultedSample x = true)

include h

theorem sampleGauge_good (hg : g.status = .good) :
    sampleGauge gain offset x g = { g.missed x with status := .fault, clamped := false, reinit := true } := by
  unfold sampleGauge
  rw [if_pos h]
  simp only [hg]
  rfl

theorem sampleGauge_fault (hg : g.status = .fault) : sampleGauge gain offset x g = g.missed x := by
  unfold sampleGauge
  rw [if_pos h]
  simp only [hg, Gauge.missed]

theorem sampleGauge_subst {l : Int} (hg : g.status = .subst) (hl : g.subst = some l) :
    sampleGauge gain offset x g = (g.missed x).smooth l := by
  unfold sampleGauge
  rw [if_pos h]
  simp only [hg, hl, Gauge.missed]

theorem sampleGauge_unsubst (hg : g.status = .subst) (hl : g.subst = none) :
    sampleGauge gain offset x g = g.missed x := by
  unfold sampleGauge
  rw [if_pos h]
  simp only [hg, hl, Gauge.missed]

/-- What a faulted sample changes besides the status, the level and the flags. -/
theorem sampleGauge_faulted : let y := sampleGauge gain offset x g
    y.raw = x ∧ y.capture = g.capture.filter (·.taken == 8) ∧ y.point1 = g.point1 ∧ y.point2 = g.point2 := by
  intro y
  cases hg : g.status with
  | good =>
    have e : y = _ := sampleGauge_good h hg
    rw [e]
    exact ⟨rfl, rfl, rfl, rfl⟩
  | fault =>
    have e : y = _ := sampleGauge_fault h hg
    rw [e]
    exact ⟨rfl, rfl, rfl, rfl⟩
  | subst =>
    cases hl : g.subst with
    | none =>
      have e : y = _ := sampleGauge_unsubst h hg hl
      rw [e]
      exact ⟨rfl, rfl, rfl, rfl⟩
    | some l =>
      have e : y = _ := sampleGauge_subst h hg hl
      rw [e, smooth_eq]
      exact ⟨rfl, rfl, rfl, rfl⟩

end Faulted

/-- What an in-range sample gives: the code, the status, the flag, the capture; the points stand. -/
theorem sampleGauge_kept {gain : Nat} {offset : Int} {x : Nat} {g : Gauge} (h : faultedSample x = false) :
    let y := sampleGauge gain offset x g
    y.raw = x ∧ y.status = .good ∧ y.reinit = false ∧ y.capture = g.capture.map (Capture.take x)
      ∧ y.point1 = g.point1 ∧ y.point2 = g.point2 := by
  dsimp only
  rw [sampleGauge_inRange h, smooth_eq]
  unfold Gauge.ready
  split
  · next hg => exact ⟨rfl, hg, rfl, rfl, rfl, rfl⟩
  · exact ⟨rfl, rfl, rfl, rfl, rfl, rfl⟩

/-- Settles O21: the rounding, then the smoothing by what the gauge was. -/
theorem inRangeSampleIsConvertedAndSmoothed : Obligations.InRangeSampleIsConvertedAndSmoothed := by
  refine ⟨?rounding, ?sample⟩
  case rounding =>
    intro n d hd hn r
    obtain ⟨lower, upper⟩ := roundHalfAway_bounds hd hn
    exact ⟨lower, upper, roundHalfAway_neg hd hn⟩
  case sample =>
    intro gain offset x g lo hi l m g'
    have ok := faultedSample_inRange lo hi
    have e : g' = { (g.ready x).smooth m with clamped := decide (l ≠ m), capture := g.capture.map (Capture.take x) } :=
      sampleGauge_inRange ok
    have level : g'.level = ((g.ready x).smooth m).level := by rw [e]
    obtain ⟨raw, status, reinit, -, point1, point2⟩ := sampleGauge_kept (gain := gain) (offset := offset) (g := g) ok
    refine ⟨raw, status, by rw [e]; simp, reinit, fun k hg hr hk => ?_, fun h => ?_, point1, point2⟩
    · rw [level, Gauge.ready, if_pos hg]
      exact smooth_level hr hk
    · rw [level, smooth_fresh]
      unfold Gauge.ready
      split
      · next hg => exact h.resolve_left fun n => n hg
      · exact .inl rfl

/-- Settles O22: by the status the sample meets. -/
theorem faultedSampleIsNotConverted : Obligations.FaultedSampleIsNotConverted := by
  intro gain offset x g bad g'
  have bad := faultedSample_iff.mpr bad
  obtain ⟨raw, capture, point1, point2⟩ := sampleGauge_faulted (gain := gain) (offset := offset) (g := g) bad
  refine ⟨raw, fun hg => ?_, fun hg => ?_, fun l hg hl => ?_, fun k hk ht => ?_, point1, point2⟩
  · have e : g' = _ := sampleGauge_good bad hg
    rw [e]
    exact ⟨rfl, rfl, rfl, rfl⟩
  · have e : g' = _ := sampleGauge_fault bad hg
    rw [e]
    exact ⟨hg, rfl, rfl⟩
  · have e : g' = (g.missed x).smooth l := sampleGauge_subst bad hg hl
    have kept : g'.status = .subst ∧ g'.subst = some l ∧ g'.reinit = false := by
      rw [e, smooth_eq]
      exact ⟨hg, hl, rfl⟩
    exact ⟨kept.1, kept.2.1, kept.2.2, fun h => by rw [e]; exact smooth_fresh h,
      fun k hr hk => by rw [e]; exact smooth_level hr hk⟩
  · have capture : g'.capture = _ := capture
    rw [capture, hk]
    simp only [Option.filter, beq_iff_eq, show k.taken ≠ 8 by omega]
    rfl

end Sys2Proof.Machine
end

section
/-! Bodies derived from their gauges; substitution and calibration (01/R5 to R10, R16 to R18). -/

namespace Sys2Proof.Machine

/-! ## Bodies -/

/-- A derived chamber keeps its limit states. -/
theorem limits_deriveChamber (tol : Nat) (a b : Gauge) (old : Body) :
    (deriveChamber tol a b old).high = old.high ∧ (deriveChamber tol a b old).low = old.low := by
  unfold deriveChamber
  dsimp only
  (repeat' split) <;> exact ⟨rfl, rfl⟩

/-- A chamber keeps its last GOOD level unless it is GOOD. -/
theorem lastGood_deriveChamber {tol : Nat} {a b : Gauge} {old : Body} (h : a.status ≠ .good ∨ b.status ≠ .good) :
    (deriveChamber tol a b old).lastGood = old.lastGood := by
  unfold deriveChamber
  dsimp only
  split
  · next ha hb => exact absurd h (by simp [ha, hb])
  all_goals first | rfl | (split <;> rfl)

section Good

variable {tol : Nat} {a b : Gauge} {old : Body} {x y : Int} (hx : a.level = some x) (hy : b.level = some y)
  (ha : a.status = .good) (hb : b.status = .good)

include hx hy ha hb

/-- Two GOOD gauges that agree. -/
theorem deriveChamber_agree (h : mag (x - y) ≤ tol) : deriveChamber tol a b old =
    { old with status := .good, level := some ((x + y) / 2), lastGood := some ((x + y) / 2) } := by
  simp only [deriveChamber, ha, hb, hx, hy, Option.getD_some, meanDown, if_pos h]

/-- Two GOOD gauges that do not. -/
theorem deriveChamber_doubtful (h : (tol : Int) < mag (x - y)) :
    deriveChamber tol a b old = { old with status := .doubtful, level := some (nearer old.lastGood x y) } := by
  simp only [deriveChamber, ha, hb, hx, hy, Option.getD_some, if_neg (not_le.mpr h)]

end Good

/-- Settles O24: by the statuses of the gauges. -/
theorem chamberFollowsItsGauges : Obligations.ChamberFollowsItsGauges := by
  refine ⟨?gauges, ?noGood, ?reach, mag_eq_abs, fun _ _ _ => ⟨rfl, rfl, rfl, rfl, rfl⟩⟩
  case gauges =>
    intro tol a b old x y hx hy d
    refine ⟨fun ha hb h => ?_, fun ha hb h => ?_, fun ha hb => ?_, fun ha hb => ?_, fun ha hb => ?_⟩
    · have e : d = _ := deriveChamber_agree hx hy ha hb h
      rw [e]
      exact ⟨rfl, rfl, rfl⟩
    · have e : d = _ := deriveChamber_doubtful hx hy ha hb h
      rw [e]
      refine ⟨rfl, rfl, fun l hl near => ?_, fun l hl far => ?_, fun hl => ?_⟩
      · simp only [nearer, hl, if_pos near]
      · simp only [nearer, hl, if_neg (not_lt.mpr far)]
      · simp only [nearer, hl]
    · have keep : d.lastGood = old.lastGood := lastGood_deriveChamber (.inr hb)
      refine ⟨?_, ?_, keep⟩ <;>
      · cases hs : b.status with
        | good => exact absurd hs hb
        | fault | subst => simp only [d, deriveChamber, ha, hs, hx, Option.getD_some]
    · have keep : d.lastGood = old.lastGood := lastGood_deriveChamber (.inl ha)
      refine ⟨?_, ?_, keep⟩ <;>
      · cases hs : a.status with
        | good => exact absurd hs ha
        | fault | subst => simp only [d, deriveChamber, hb, hs, hy, Option.getD_some]
    · simp only [d, deriveChamber, ha, hb, hx, hy, meanDown, and_self]
  case noGood =>
    intro tol a b old ha hb d
    obtain ⟨high, low⟩ := limits_deriveChamber tol a b old
    refine ⟨lastGood_deriveChamber (.inl ha), high, low, fun h k => ?_, fun h k => ?_, fun h k => ?_⟩
    all_goals simp only [d, deriveChamber, h, k, and_self]
  case reach =>
    intro g old d
    refine ⟨?_, ?_, ?_, fun h => ?_, fun h => ?_, fun h => ?_⟩
    case refine_4 | refine_5 | refine_6 => simp only [d, deriveReach, h, and_self]
    all_goals
      simp only [d, deriveReach]
      split <;> rfl

/-! ## Substitution -/

theorem levelInRange_iff {x : Int} : levelInRange x = true ↔ -2000 ≤ x ∧ x ≤ 20000 := by simp [levelInRange]

/-- Settles O27: the two requests in the order of their checks. -/
theorem substitutionIsStoredAndWithdrawn : Obligations.SubstitutionIsStoredAndWithdrawn := by
  intro rq c s adm g
  refine ⟨fun l lo hi h => ?_, fun l lo hi h => ?_, fun l h => ?_, fun h => ?_, fun h => ?_⟩
  · refine congrArg _ (serve_accept adm ?_)
    have h : ¬ (s.base.scanner.gauges.nth c).status = .good := h
    simp only [unit?_val, levelInRange_iff.mpr ⟨lo, hi⟩, h]
    rfl
  · refine congrArg _ (serve_refuse adm ?_)
    have h : (s.base.scanner.gauges.nth c).status = .good := h
    simp only [unit?_val, levelInRange_iff.mpr ⟨lo, hi⟩, h]
    rfl
  · refine congrArg _ (serve_refuse adm ?_)
    have bad : levelInRange l = false := by rw [← Bool.not_eq_true, levelInRange_iff]; omega
    simp only [unit?_val, bad]
    rfl
  · refine congrArg _ (serve_accept adm ?_)
    have h : (s.base.scanner.gauges.nth c).status = .subst := h
    simp only [unit?_val, h]
    rfl
  · refine congrArg _ (serve_refuse adm ?_)
    simp only [unit?_val]
    exact if_pos h

/-! ## Calibration -/

theorem calibrate_eq (p q : CalPoint) :
    let dx : Int := (q.raw : Int) - p.raw
    let dy : Int := q.staff - p.staff
    let gain : Int := roundHalfAway (if 0 < dx then 1024 * dy else -(1024 * dy)) dx.natAbs
    let offset : Int := p.staff - roundHalfAway (gain * p.raw) 1024
    calibrate p q = if |dx| < 200 ∨ |dy| < 500 ∨ gain < 1 ∨ 65535 < gain ∨ offset < -32768 ∨ 32767 < offset then none
      else some (gain, offset) := by
  intro dx dy gain offset
  have g : (if 0 < dx then roundHalfAway (1024 * dy) dx.toNat else roundHalfAway (-(1024 * dy)) (-dx).toNat) = gain := by
    by_cases pos : 0 < dx
    · rw [if_pos pos]
      simp only [gain, if_pos pos]
      rw [show dx.natAbs = dx.toNat by omega]
    · rw [if_neg pos]
      simp only [gain, if_neg pos]
      rw [show dx.natAbs = (-dx).toNat by omega]
  unfold calibrate
  simp only [mag_eq_abs, ← or_assoc]
  rw [show ((q.raw : Int) - p.raw) = dx from rfl, show q.staff - p.staff = dy from rfl, g]
  split
  · next h => rw [if_pos (by tauto)]
  · next h =>
    refine if_congr ?_ rfl rfl
    tauto

/-! ## Tables -/

theorem tbl_ext {n : Nat} {α : Type} {t u : Tbl n α} (h : ∀ i, t.nth i = u.nth i) : t = u :=
  Vector.ext fun i hi => h ⟨i, hi⟩

theorem nth_put {n : Nat} {α : Type} (t : Tbl n α) (i j : Fin n) (x : α) :
    (t.put i x).nth j = if j = i then x else t.nth j := by
  split
  · next e => rw [e, Tbl.nth_put_same]
  · next e => rw [Tbl.nth_put_other _ _ _ _ (Ne.symm e)]

theorem nth_upd {n : Nat} {α : Type} (t : Tbl n α) (i j : Fin n) (fn : α → α) :
    (t.upd i fn).nth j = if j = i then fn (t.nth j) else t.nth j := by
  rw [Tbl.upd, nth_put]
  split
  · next e => rw [e]
  · rfl

@[simp] theorem put_nth_self {n : Nat} {α : Type} (t : Tbl n α) (i : Fin n) : t.put i (t.nth i) = t :=
  tbl_ext fun j => by
    rw [nth_put]
    split
    · next e => rw [e]
    · rfl

@[simp] theorem put_put_same {n : Nat} {α : Type} (t : Tbl n α) (i : Fin n) (x y : α) : (t.put i x).put i y = t.put i y :=
  tbl_ext fun j => by
    simp only [nth_put]
    split <;> rfl

theorem upd_of_fixed {n : Nat} {α : Type} {t : Tbl n α} {i : Fin n} {fn : α → α} (h : fn (t.nth i) = t.nth i) :
    t.upd i fn = t := by rw [Tbl.upd, h, put_nth_self]

/-! ## A calibration change (03/R61) -/

/-- A hold that starts again. -/
def Channel.restarted (v : Base) (c : Channel) : Channel :=
  if c.st = .holding then { c with settleT := some v.elapsed, surge := 0 } else c

/-- Records changed one after the other, each in a way that a second change repeats. -/
theorem nth_foldl_upd {n : Nat} {α : Type} {fn : α → α} (hfn : ∀ x, fn (fn x) = fn x) (is : List (Fin n)) (t : Tbl n α)
    (j : Fin n) : (is.foldl (fun t i => t.upd i fn) t).nth j = if j ∈ is then fn (t.nth j) else t.nth j := by
  induction is generalizing t with
  | nil => simp
  | cons i is ih =>
    rw [List.foldl_cons, ih, nth_upd]
    by_cases e : j = i
    · subst e
      simp [hfn]
    · simp [e]

/-- Channels changed one after the other. -/
theorem overAll_setChannel (fn : Channel → Channel) (gs : List (Fin 4)) (f : Flow) :
    overAll gs (fun g => setChannel g fn) f = { f with channels := gs.foldl (fun t g => t.upd g fn) f.channels } := by
  induction gs generalizing f with
  | nil => rfl
  | cons g gs ih => exact ih (setChannel g fn f)

/-- The holds beside the body start again, and nothing else changes. -/
theorem calibrationChanged_eq (v : Base) (b : Fin 5) (f : Flow) : calibrationChanged v b f =
    { f with channels := (gatesOf b).foldl (fun t g => t.upd g (Channel.restarted v)) f.channels } := by
  rw [← overAll_setChannel]
  unfold calibrationChanged
  congr 1
  funext g f
  split
  · next h =>
    have e : (f.channels.nth g).restarted v = { f.channels.nth g with settleT := some v.elapsed, surge := 0 } := if_pos h
    simp only [setChannel, Tbl.upd, e]
  · next h =>
    have e : (f.channels.nth g).restarted v = f.channels.nth g := if_neg h
    simp only [setChannel, upd_of_fixed e]

theorem restarted_restarted (v : Base) (c : Channel) : (c.restarted v).restarted v = c.restarted v := by
  unfold Channel.restarted
  split <;> rfl

theorem mem_gatesOf {b : Fin 5} {g : Fin 4} : g ∈ gatesOf b ↔ lowerBody g = b ∨ upperBody g = b := by
  revert b g
  decide

theorem channels_calibrationChanged (v : Base) (b : Fin 5) (f : Flow) (a : Fin 4) :
    (calibrationChanged v b f).channels.nth a =
      if (f.channels.nth a).st = .holding ∧ (lowerBody a = b ∨ upperBody a = b) then
        { f.channels.nth a with settleT := some v.elapsed, surge := 0 }
      else f.channels.nth a := by
  rw [calibrationChanged_eq]
  dsimp only
  rw [nth_foldl_upd (restarted_restarted v)]
  simp only [mem_gatesOf, Channel.restarted, ← ite_and, and_comm]

theorem upd_upd_same {n : Nat} {α : Type} (t : Tbl n α) (i : Fin n) (f g : α → α) :
    (t.upd i f).upd i g = t.put i (g (f (t.nth i))) := by simp [Tbl.upd]

/-- What a new gain or offset does: the flag of the gauge, and the holds beside its body. -/
theorem recalibrated_eq (s : State) (c : Fin 8) : s.recalibrated c =
    { s with
      base := { s.base with scanner := { s.base.scanner with
        gauges := s.base.scanner.gauges.upd c (fun g => { g with reinit := true }) } }
      plant := { s.plant with channels := (calibrationChanged s.base (bodyOf c) s.flow).channels } } := by
  unfold State.recalibrated
  dsimp only
  rw [calibrationChanged_eq, calibrationChanged_eq]
  rfl

/-- A gauge whose calibration has been committed. -/
def Gauge.committed (g : Gauge) : Gauge := { g with point1 := none, point2 := none, reinit := true }

/-- A commit in its ranges: the two settings and the gauge of the base, the holds of the blocks, and CAL_DONE. -/
theorem committed_eq (s : State) (c : Fin 8) {gain offset : Int} (hg : 1 ≤ gain) :
    s.committed c gain offset =
      { s with
        base := { s.base with
          settings := { s.base.settings with
            gain := s.base.settings.gain.put c gain.toNat
            offset := s.base.settings.offset.put c offset }
          scanner := { s.base.scanner with
            gauges := s.base.scanner.gauges.put c (s.base.scanner.gauges.nth c).committed } }
        plant := { s.plant with channels := (calibrationChanged s.base (bodyOf c) s.flow).channels }
        link := s.link.place (reportNow s.base .water 0x47 (u1 c.val ++ s4 gain ++ s4 offset)) } := by
  have bytes (v : Settings) : settingBytes { v with gain := v.gain.put c gain.toNat, offset := v.offset.put c offset }
      [.gain c, .offset c] = s4 gain ++ s4 offset := by
    simp [settingBytes, Settings.value, Int.toNat_of_nonneg (show 0 ≤ gain by omega)]
  unfold State.committed
  dsimp only
  rw [recalibrated_eq, calibrationChanged_eq, calibrationChanged_eq]
  simp only [State.updGauge, State.withScanner, State.withSettings, upd_upd_same, State.deliver, Link.placeAll,
    out_raise, bytes]
  rfl

/-- The capture of a gauge after a sample. -/
theorem capture_sampleGauge (gain : Nat) (offset : Int) (x : Nat) (g : Gauge) :
    (sampleGauge gain offset x g).capture =
      if faultedSample x then g.capture.filter (·.taken == 8) else g.capture.map (Capture.take x) := by
  cases h : faultedSample x with
  | false =>
    obtain ⟨-, -, -, capture, -⟩ := sampleGauge_kept (gain := gain) (offset := offset) (g := g) h
    exact capture
  | true =>
    obtain ⟨-, capture, -⟩ := sampleGauge_faulted (gain := gain) (offset := offset) (g := g) h
    exact capture

/-- A step whose capture has taken its samples. -/
theorem exec_calCaptured {c : Fin 8} {k : Capture} {s : State} (hp : s.powered = true)
    (hk : (s.base.scanner.gauges.nth c).capture = some k) : exec (.calCaptured c) s =
      .next (if k.taken = 8 then (s.updShown c (Gauge.captured k)).deliver (raise s.base .water 0x45
        (u1 c.val ++ u1 k.index ++ u2 (roundHalfAway k.sum 8).toNat ++ s2 k.staff) s.flow) else s) := by
  show execCalCaptured c s = _
  simp only [execCalCaptured, hp, hk]
  rfl

section Commit

variable {rq : Rq} {c : Fin 8} {s : State} (adm : Admitted s rq 0) (hc : (s.base.scanner.gauges.nth c).capture = none)

include adm hc

theorem exec_calCommit_missing
    (h : (s.base.scanner.gauges.nth c).point1 = none ∨ (s.base.scanner.gauges.nth c).point2 = none) :
    exec (.calCommit rq c.val) s = .next (s.no rq 0x13 .state []) := by
  refine congrArg _ (serve_refuse adm ?_)
  simp only [unit?_val, hc, Option.isSome_none]
  obtain h | h := h
  · simp only [h]; rfl
  · cases e : (s.base.scanner.gauges.nth c).point1 <;> simp only [h] <;> rfl

variable {p q : CalPoint} (hp : (s.base.scanner.gauges.nth c).point1 = some p)
  (hq : (s.base.scanner.gauges.nth c).point2 = some q)

include hp hq

theorem exec_calCommit_refused (h : calibrate p q = none) :
    exec (.calCommit rq c.val) s = .next (s.no rq 0x13 .badField (u1 0xFF)) := by
  refine congrArg _ (serve_refuse adm ?_)
  simp only [unit?_val, hc, hp, hq, h]
  rfl

theorem exec_calCommit_taken {gain offset : Int} (h : calibrate p q = some (gain, offset)) :
    exec (.calCommit rq c.val) s = .next ((s.committed c gain offset).ok rq 0x13 (s4 gain ++ s4 offset)) := by
  refine congrArg _ (serve_accept adm ?_)
  simp only [unit?_val, hc, hp, hq, h]
  rfl

end Commit

/-- Settles O26: the start of a capture, its samples, its end, and the commit. -/
theorem calibrationCapturesThenCommits : Obligations.CalibrationCapturesThenCommits := by
  refine ⟨?point, ?sample, ?captured, ?commit⟩
  case point =>
    intro rq c index staff s adm hi lo hi' g
    have hi : ¬ (index ≠ 1 ∧ index ≠ 2) := by omega
    have hl := levelInRange_iff.mpr ⟨lo, hi'⟩
    refine ⟨fun h => ?_, fun h k => ?_, fun h k => ?_⟩
    · refine congrArg _ (serve_refuse adm ?_)
      have h : (s.base.scanner.gauges.nth c).capture.isSome = true := h
      simp only [unit?_val, hi, hl, h]
      rfl
    · refine congrArg _ (serve_refuse adm ?_)
      have h : (s.base.scanner.gauges.nth c).capture = none := h
      simp only [unit?_val, hi, hl, h]
      exact if_pos k
    · refine congrArg _ (serve_accept adm ?_)
      have h : (s.base.scanner.gauges.nth c).capture = none := h
      have k : (s.base.scanner.gauges.nth c).status = .good := k
      simp only [unit?_val, hi, hl, h, k]
      rfl
  case sample =>
    intro gain offset x g after
    have e : after = if faultedSample x then g.capture.filter (·.taken == 8) else g.capture.map (Capture.take x) :=
      capture_sampleGauge gain offset x g
    refine ⟨fun h => ?_, fun k hk => ⟨fun lo hi ht => ?_, fun ht => ?_⟩⟩
    · rw [e, h]
      split <;> rfl
    · rw [e, hk, faultedSample_inRange lo hi, if_neg (by decide), Option.map_some, Capture.take, if_pos ht]
    · have full : k.take x = k := if_neg (by omega)
      rw [e, hk, Option.map_some, full]
      split
      · simp [ht]
      · rfl
  case captured =>
    intro c k s hp hk
    have run := exec_calCaptured hp hk
    refine ⟨fun h => by rw [run, if_neg h], fun h _ => ?_⟩
    intro done
    have e : Gauge.captured k = done := rfl
    rw [run, if_pos h, e]
    exact ⟨_, rfl, deliver_sameLink (s.updShown c done) _, rfl, rfl, rfl⟩
  case commit =>
    intro rq c s adm g
    refine ⟨fun k hk => ?_, fun hc h => exec_calCommit_missing adm hc h, fun p q hc hp hq => ?_⟩
    · refine congrArg _ (serve_refuse adm ?_)
      have hk : (s.base.scanner.gauges.nth c).capture = some k := hk
      simp only [unit?_val, hk]
      rfl
    · intro dx dy gain offset refused
      have cal : calibrate p q = if refused then none else some (gain, offset) := calibrate_eq p q
      refine ⟨fun h => exec_calCommit_refused adm hc hp hq (by rw [cal, if_pos h]), fun h => ?_⟩
      have lo : 1 ≤ gain := by
        by_contra k
        exact h (.inr (.inr (.inl (by omega))))
      have t := committed_eq s c (offset := offset) lo
      refine ⟨s.committed c gain offset, exec_calCommit_taken adm hc hp hq (by rw [cal, if_neg h]), ?_, ?_, ?_, fun a => ?_, ?_⟩
      · rw [t]
        obtain ⟨console, network, rest⟩ := place_keeps s.link (reportNow s.base .water 0x47 (u1 c.val ++ s4 gain ++ s4 offset))
        exact ⟨rfl, rfl, rfl, console, network, rest⟩
      · rw [t]; rfl
      · rw [t]
      · rw [t]
        exact channels_calibrationChanged s.base (bodyOf c) s.flow a
      · rw [t]

end Sys2Proof.Machine
end

section
/-! The flight condition: its causes, the deadline and the mode (09/R157 to R161; 04/R65). -/

namespace Sys2Proof.Machine

/-! ## Work that changes heads alone -/

/-- Of the blocks' state, work changes the heads alone, and it adds to the reports. -/
structure HeadsOnly (f g : Flow) : Prop where
  plant : g.toPlant = { f.toPlant with heads := g.heads }
  out : f.out <+: g.out

theorem HeadsOnly.refl (f : Flow) : HeadsOnly f f := ⟨rfl, List.prefix_refl _⟩

theorem HeadsOnly.trans {f g k : Flow} (a : HeadsOnly f g) (b : HeadsOnly g k) : HeadsOnly f k :=
  ⟨by rw [b.plant, a.plant], a.out.trans b.out⟩

theorem HeadsOnly.regime {f g : Flow} (h : HeadsOnly f g) : g.regime = f.regime := by
  show g.toPlant.regime = _
  rw [h.plant]

theorem headsOnly_changeHead (v : Base) (h : Fin 8) (fn : Head → Head) (f : Flow) : HeadsOnly f (changeHead v h fn f) :=
  ⟨by
    have e : (changeHead v h fn f).heads = f.heads.upd h (headAfter v h fn) := congrArg Plant.heads (toPlant_changeHead v h fn f)
    rw [e, toPlant_changeHead], by rw [out_changeHead]; exact List.prefix_append _ _⟩

theorem headsOnly_overAll {α : Type} {act : α → Flow → Flow} (hact : ∀ x f, HeadsOnly f (act x f)) (xs : List α) (f : Flow) :
    HeadsOnly f (overAll xs act f) := by
  induction xs generalizing f with
  | nil => exact HeadsOnly.refl f
  | cons x xs ih => exact (hact x f).trans (ih _)

theorem headsOnly_ite {c : Prop} [Decidable c] {f g : Flow} (h : HeadsOnly f g) : HeadsOnly f (if c then g else f) := by
  split
  · exact h
  · exact HeadsOnly.refl f

theorem headsOnly_restHeads (v : Base) (f : Flow) : HeadsOnly f (restHeads v f) :=
  headsOnly_overAll (fun h f => headsOnly_ite (headsOnly_changeHead v h _ f)) _ f

theorem headsOnly_releaseKeeperHeads (v : Base) (f : Flow) : HeadsOnly f (releaseKeeperHeads v f) :=
  headsOnly_overAll (fun h f => headsOnly_ite (headsOnly_changeHead v h _ f)) _ f

/-! ## A change of the regime record (09/R157) -/

section Change

variable (v : Base) (c : StateCause) (fn : Regime → Regime) (f : Flow)

/-- A change that changes nothing. -/
theorem changeRegime_same (h : fn f.regime = f.regime) : changeRegime v c fn f = f := by
  have e : setRegime fn f = f := by
    show { f with regime := fn f.regime } = f
    rw [h]
  unfold changeRegime
  dsimp only
  rw [e, if_pos rfl]

/-- One that leaves the condition: FLIGHT_STATE alone. -/
theorem changeRegime_told (h : fn f.regime ≠ f.regime) (hc : (fn f.regime).condition = f.regime.condition) :
    changeRegime v c fn f = flightReport v c (setRegime fn f) := by
  have h : ¬ (setRegime fn f).regime = f.regime := h
  have hc : (flightReport v c (setRegime fn f)).regime.condition = f.regime.condition := hc
  unfold changeRegime
  dsimp only
  rw [if_neg h, if_pos hc]

/-- One that changes the condition: FLIGHT_STATE, then the heads at rest follow it, and an opportunity is examined. -/
theorem changeRegime_condition (h : fn f.regime ≠ f.regime) (hc : (fn f.regime).condition ≠ f.regime.condition) :
    changeRegime v c fn f = askOpportunity (restHeads v (flightReport v c (setRegime fn f))) := by
  have h : ¬ (setRegime fn f).regime = f.regime := h
  have hc : ¬ (flightReport v c (setRegime fn f)).regime.condition = f.regime.condition := hc
  unfold changeRegime
  dsimp only
  rw [if_neg h, if_neg hc]

theorem out_flightReport : (flightReport v c f).out = f.out ++ [flightNow v f.regime c] := rfl

theorem out_changeRegime_told (h : fn f.regime ≠ f.regime) :
    f.out ++ [flightNow v (fn f.regime) c] <+: (changeRegime v c fn f).out := by
  by_cases hc : (fn f.regime).condition = f.regime.condition
  · rw [changeRegime_told v c fn f h hc]
    exact List.prefix_refl _
  · rw [changeRegime_condition v c fn f h hc]
    have rest := (headsOnly_restHeads v (flightReport v c (setRegime fn f))).out
    rw [out_askOpportunity]
    exact rest

/-- A change of the regime record changes the heads besides it. -/
theorem toPlant_changeRegime : (changeRegime v c fn f).toPlant =
    { f.toPlant with regime := fn f.regime, heads := (changeRegime v c fn f).heads } := by
  by_cases h : fn f.regime = f.regime
  · rw [changeRegime_same v c fn f h, h]
  · by_cases hc : (fn f.regime).condition = f.regime.condition
    · rw [changeRegime_told v c fn f h hc]
      rfl
    · rw [changeRegime_condition v c fn f h hc]
      have rest := (headsOnly_restHeads v (flightReport v c (setRegime fn f))).plant
      generalize restHeads v (flightReport v c (setRegime fn f)) = g at rest ⊢
      exact rest

theorem regime_changeRegime : (changeRegime v c fn f).regime = fn f.regime :=
  congrArg Plant.regime (toPlant_changeRegime v c fn f)

end Change

/-- The first report of a step that began with one. -/
theorem head?_of_prefix {r : Report} {out : List Report} (h : [r] <+: out) : out.head? = some r := by
  obtain ⟨more, rfl⟩ := h
  rfl

/-- The report of a change that a step begins with comes first. -/
theorem head?_changeRegime (v : Base) (c : StateCause) {fn : Regime → Regime} (s : State)
    (h : fn s.plant.regime ≠ s.plant.regime) :
    (changeRegime v c fn s.flow).out.head? = some (flightNow v (fn s.plant.regime) c) :=
  head?_of_prefix (out_changeRegime_told v c fn s.flow h)

theorem onlyCondition_changeRegime (v : Base) (c : StateCause) (fn : Regime → Regime) (s : State) :
    OnlyCondition s.plant (changeRegime v c fn s.flow).toPlant := by
  have e := toPlant_changeRegime v c fn s.flow
  rw [toPlant_flow] at e
  unfold OnlyCondition
  rw [regime_changeRegime]
  exact e

/-! ## FLOOD (01/R15, 09/R159) -/

theorem exec_floodCleared {k : Nat} {s : State} (hp : s.powered = true) (hf : s.base.scanner.flood = true)
    (hk : s.base.scanner.clearSince = some k) (due : k + 6000 ≤ s.base.elapsed) :
    exec .floodCleared s =
      (let t := s.withScanner { s.base.scanner with flood := false, clearSince := none }
       .next (t.conclude (changeRegime t.base .flood (fun r => { r with flood := false }) t.flow))) := by
  have run : ranFor s.base s.base.scanner.clearSince Config.floodClearTime = true := by
    simp [ranFor, hk, Config.floodClearTime, due]
  show execFloodCleared s = _
  unfold execFloodCleared
  rw [if_pos (by simp [hp, hf, run])]
  rfl

/-- Settles O25: the flood state of the scanner, then one change of the cause set. -/
theorem floodClearsAfterTenMinutes : Obligations.FloodClearsAfterTenMinutes := by
  intro k s hp hf hk due
  let t := s.withScanner { s.base.scanner with flood := false, clearSince := none }
  refine ⟨_, exec_floodCleared hp hf hk due, regime_changeRegime _ _ _ _, onlyCondition_changeRegime _ _ _ t,
    fun h => ?_, fun h => ?_⟩
  · rw [changeRegime_same _ _ _ _ (by
      show { s.plant.regime with flood := false } = s.plant.regime
      rw [← h])]
    rfl
  · refine head?_changeRegime _ _ t fun e => ?_
    have e : false = s.plant.regime.flood := congrArg Regime.flood e
    rw [h] at e
    cases e

/-! ## The supply (09/R159, R160) -/

/-- The regime record once the mains input has changed. -/
def mainsAfter (v : Base) (r : Regime) : Regime :=
  if v.pins.mains then { r with mainsPresent := true, mainsCause := false, deadline := .idle }
  else if r.mainsCause then { r with mainsPresent := false }
  else { r with mainsPresent := false, mainsCause := true, deadline := startDeadline v r.batteryLow }

theorem mainsChanged_eq (v : Base) (f : Flow) : mainsChanged v f = changeRegime v .mains (mainsAfter v) f := rfl

/-- A change of the mains input that is felt. -/
theorem exec_mainsInput {x : Bool} {s : State} (hp : s.powered = true) (h : s.plant.regime.mainsPresent ≠ x) :
    exec (.mainsInput x) s =
      (let t := s.withPins { s.base.pins with mains := x }
       .next (t.conclude (mainsChanged t.base t.flow))) := by
  show execMainsInput x s = _
  unfold execMainsInput
  dsimp only
  rw [if_pos (by simp [hp, h])]

theorem exec_batteryInput {x : Bool} {s : State} (hp : s.powered = true) (h : s.plant.regime.batteryLow ≠ x) :
    exec (.batteryInput x) s =
      (let t := s.withPins { s.base.pins with batteryLow := x }
       .next (t.conclude (batteryChanged t.base t.flow))) := by
  show execBatteryInput x s = _
  unfold execBatteryInput
  dsimp only
  rw [if_pos (by simp [hp, h])]

/-- The battery reading shortens the deadline. -/
def shortens (v : Base) (r : Regime) : Prop :=
  v.pins.batteryLow = true ∧ ∃ k, r.deadline = .running k ∧ v.elapsed + 1200 < k

/-- The reading alone. -/
theorem batteryChanged_kept {v : Base} {f : Flow} (h : ¬ shortens v f.regime) : batteryChanged v f =
    raise v .alarm 0x0E (b1 v.pins.batteryLow ++ f.regime.deadline.bytes v.elapsed)
      (setRegime (fun r => { r with batteryLow := v.pins.batteryLow }) f) := by
  unfold batteryChanged
  cases e : f.regime.deadline with
  | idle => simp only [setRegime, e, Bool.false_eq_true, if_false]
  | expired => simp only [setRegime, e, Bool.false_eq_true, if_false]
  | running k =>
    have no : (v.pins.batteryLow && decide (v.elapsed + Config.shortDeadline < k)) = false := by
      rw [← Bool.not_eq_true]
      simp only [Bool.and_eq_true, decide_eq_true_eq]
      exact fun ⟨low, late⟩ => h ⟨low, k, e, late⟩
    simp only [setRegime, e, no, Bool.false_eq_true, if_false]

/-- The reading, and the deadline cut to 120 s. -/
theorem batteryChanged_short {v : Base} {f : Flow} (h : shortens v f.regime) : batteryChanged v f =
    (let g := setRegime (fun r => { r with
        batteryLow := v.pins.batteryLow, deadline := .running (v.elapsed + Config.shortDeadline) }) f
     flightReport v .battery (raise v .alarm 0x0E (b1 v.pins.batteryLow ++ g.regime.deadline.bytes v.elapsed) g)) := by
  obtain ⟨low, k, e, late⟩ := h
  have late : v.elapsed + Config.shortDeadline < k := late
  unfold batteryChanged
  dsimp only [setRegime]
  simp only [e, low, late, decide_true, Bool.and_self, if_true]

section Battery

variable {x : Bool} {s : State}

/-- A battery reading that does not shorten the deadline. -/
theorem flow_batteryKept (h : ¬ shortens { s.base with pins := { s.base.pins with batteryLow := x } } s.plant.regime) :
    let t := s.withPins { s.base.pins with batteryLow := x }
    (batteryChanged t.base t.flow).toPlant = { s.plant with regime := { s.plant.regime with batteryLow := x } }
      ∧ (batteryChanged t.base t.flow).out =
        [reportNow s.base .alarm 0x0E (b1 x ++ s.plant.regime.deadline.bytes s.base.elapsed)] := by
  intro t
  have e := batteryChanged_kept (v := t.base) (f := t.flow) h
  rw [e]
  exact ⟨rfl, rfl⟩

/-- One that does. -/
theorem flow_batteryShort (h : shortens { s.base with pins := { s.base.pins with batteryLow := x } } s.plant.regime) :
    let t := s.withPins { s.base.pins with batteryLow := x }
    let d : Deadline := .running (s.base.elapsed + 1200)
    let r := { s.plant.regime with batteryLow := x, deadline := d }
    (batteryChanged t.base t.flow).toPlant = { s.plant with regime := r }
      ∧ (batteryChanged t.base t.flow).out =
        [reportNow s.base .alarm 0x0E (b1 x ++ d.bytes s.base.elapsed), flightNow s.base r .battery] := by
  intro t d r
  have e := batteryChanged_short (v := t.base) (f := t.flow) h
  rw [e]
  exact ⟨rfl, rfl⟩

end Battery

/-- A mains input that is felt changes the regime record, and tells of it first. -/
theorem flow_mains {x : Bool} {s : State} {r : Regime}
    (hr : mainsAfter { s.base with pins := { s.base.pins with mains := x } } s.plant.regime = r) (h : r ≠ s.plant.regime) :
    let t := s.withPins { s.base.pins with mains := x }
    (mainsChanged t.base t.flow).regime = r ∧ OnlyCondition s.plant (mainsChanged t.base t.flow).toPlant
      ∧ (mainsChanged t.base t.flow).out.head? = some (flightNow s.base (mainsChanged t.base t.flow).regime .mains) := by
  intro t
  have regime : (mainsChanged t.base t.flow).regime = r := (regime_changeRegime _ _ _ t.flow).trans hr
  refine ⟨regime, onlyCondition_changeRegime _ _ _ t, ?_⟩
  have told := head?_changeRegime t.base .mains (fn := mainsAfter t.base) t (by
    have hr : mainsAfter t.base t.plant.regime = r := hr
    rw [hr]
    exact h)
  have hr : mainsAfter t.base t.plant.regime = r := hr
  rw [regime, mainsChanged_eq, told, hr]
  rfl

/-- Settles O60: the two inputs by whether they are felt, and the battery by whether it shortens the deadline. -/
theorem supplyInputsDriveTheDeadline : Obligations.SupplyInputsDriveTheDeadline := by
  refine ⟨fun s hp => ⟨fun x h => ?_, fun present cause => ?_, fun absent => ?_⟩, fun s hp => ⟨fun x h => ?_, fun x h => ?_⟩⟩
  · show execMainsInput x s = _
    unfold execMainsInput
    dsimp only
    rw [if_neg (by simp [h])]
  · refine ⟨_, exec_mainsInput hp (by simp [present]), flow_mains ?_ fun e => ?_⟩
    · simp only [mainsAfter, cause, startDeadline, Config.shortDeadline, Bool.false_eq_true, if_false]
    · have e := congrArg Regime.mainsPresent e
      rw [present] at e
      cases e
  · refine ⟨_, exec_mainsInput hp (by simp [absent]), flow_mains rfl fun e => ?_⟩
    have e := congrArg Regime.mainsPresent e
    rw [absent] at e
    cases e
  · show execBatteryInput x s = _
    unfold execBatteryInput
    dsimp only
    rw [if_neg (by simp [h])]
  · let t := s.withPins { s.base.pins with batteryLow := x }
    refine ⟨_, exec_batteryInput hp h, ?_⟩
    by_cases short : shortens t.base s.plant.regime
    · obtain ⟨plant, out⟩ := flow_batteryShort short
      have deadline : (batteryChanged t.base t.flow).regime.deadline = .running (s.base.elapsed + 1200) :=
        congrArg (fun p => p.regime.deadline) plant
      have regime : (batteryChanged t.base t.flow).regime = _ := congrArg Plant.regime plant
      obtain ⟨low, k, run, late⟩ := short
      have low : x = true := low
      have late : s.base.elapsed + 1200 < k := late
      have changed : ¬ Deadline.running (s.base.elapsed + 1200) = s.plant.regime.deadline := by
        rw [run]
        simp only [Deadline.running.injEq]
        omega
      refine ⟨by rw [deadline]; exact plant, fun _ _ _ _ => deadline, ?_, fun no => ?_⟩
      · rw [deadline, if_neg changed, regime]
        exact out
      · obtain no | no := no
        · rw [low] at no; cases no
        · have := no k run
          omega
    · obtain ⟨plant, out⟩ := flow_batteryKept short
      have deadline : (batteryChanged t.base t.flow).regime.deadline = s.plant.regime.deadline :=
        congrArg (fun p => p.regime.deadline) plant
      refine ⟨by rw [deadline]; exact plant, fun k low run late => absurd ⟨low, k, run, late⟩ short, ?_, fun _ => deadline⟩
      rw [deadline, if_pos rfl]
      exact out

end Sys2Proof.Machine
end

section
/-! What the Levelling Unit's work keeps: any predicate that the changes of sluices, channels, grants and of the permit
respect, and reports, holds after each of its operations (spec 03; 06, section 6.10). -/

namespace Sys2Proof.Machine

/-- The predicate withstands changes of the sluices and channels at the gates that satisfy `S`, and of the permit request. -/
structure ChannelRules (S : Fin 4 → Prop) (P : Flow → Prop) : Prop where
  raise : ∀ {f}, P f → ∀ v c code fields, P (raise v c code fields f)
  sluice : ∀ {f}, P f → ∀ g, S g → ∀ fn, P (setSluice g fn f)
  channel : ∀ {f}, P f → ∀ g, S g → ∀ fn, P (setChannel g fn f)
  permit : ∀ {f}, P f → ∀ p, P (setSched (fun s => { s with permit := p }) f)

/-- And a draw recorded: what a channel that has its grant does. -/
structure ScanRules (S : Fin 4 → Prop) (P : Flow → Prop) : Prop extends ChannelRules S P where
  draws : ∀ {f}, P f → ∀ d, P (setSched (fun s => { s with draws := d }) f)

/-- And what makes and gives back a grant. -/
structure CancelRules (S : Fin 4 → Prop) (P : Flow → Prop) : Prop extends ChannelRules S P where
  grants : ∀ {f}, P f → ∀ g, S g → ∀ x, P { f with grants := f.grants.put g x }
  waiting : ∀ {f}, P f → ∀ gs, P { f with waiting := gs }

/-- The predicate withstands all the levelling work at those gates. -/
structure WaterRules (S : Fin 4 → Prop) (P : Flow → Prop) : Prop extends ScanRules S P, CancelRules S P

theorem ite_of {P : Flow → Prop} {c : Prop} [Decidable c] {f g : Flow} (hf : P f) (hg : P g) : P (if c then f else g) := by
  split
  · exact hf
  · exact hg

theorem overAll_of {P : Flow → Prop} {α : Type} {act : α → Flow → Flow} {xs : List α}
    (hact : ∀ x ∈ xs, ∀ f, P f → P (act x f)) {f : Flow} (h : P f) : P (overAll xs act f) := by
  induction xs generalizing f with
  | nil => exact h
  | cons x xs ih =>
    exact ih (fun y hy => hact y (List.mem_cons_of_mem x hy)) (hact x List.mem_cons_self f h)

namespace ChannelRules

variable {S : Fin 4 → Prop} {P : Flow → Prop} (r : ChannelRules S P) {f : Flow} (h : P f) (v : Base) {g : Fin 4} (hg : S g)

include r h

theorem withdrawPermit (g : Fin 4) : P (withdrawPermit g f) := ite_of (r.permit h none) h

theorem deferReport (d : Deferral) : P (deferReport v d f) := r.raise h v _ _ _

include hg

theorem commandSluice (n : Nat) : P (commandSluice v g n f) := by
  unfold Machine.commandSluice
  dsimp only
  split
  · exact h
  · exact ite_of (r.sluice h g hg _) (r.sluice h g hg _)
  · exact ite_of (r.raise (r.sluice h g hg _) v _ _ _) (ite_of (r.sluice h g hg _) (r.sluice h g hg _))

theorem reduceSluice : P (reduceSluice v g f) := ite_of (r.channel (r.commandSluice h v hg 3) g hg _) h

theorem moveChannel (c : Channel) : P (moveChannel v g c f) :=
  ite_of (r.raise (r.channel h g hg _) v _ _ _) (r.channel h g hg _)

theorem channelCommand (n : Nat) : P (channelCommand v g n f) := r.commandSluice (r.channel h g hg _) v hg n

theorem check5 : P (check5 v g f) :=
  ite_of (r.channelCommand (r.moveChannel h v hg _) v hg 1) (r.channelCommand (r.moveChannel h v hg _) v hg 0)

theorem waitWater (m : Permit) : P (waitWater v g m f) := r.channelCommand (r.moveChannel h v hg _) v hg 0

theorem suspend : P (suspend v g f) := r.channelCommand (r.moveChannel h v hg _) v hg 0

theorem profile : P (profile v g f) := by
  have lower {x : Flow} (hx : P x) : P (if 1 < (f.channels.nth g).cmd then Machine.channelCommand v g 1 x else x) :=
    ite_of (r.channelCommand hx v hg 1) hx
  exact ite_of (lower (r.moveChannel h v hg _)) (ite_of (lower h) h)

theorem holdScan (signs : Tbl 4 Sign) : P (holdScan v signs g f) :=
  ite_of (r.moveChannel h v hg _)
    (ite_of (ite_of (r.raise (r.channel h g hg _) v _ _ _) (r.channel h g hg _)) h)

theorem resumeScan : P (resumeScan v g f) := ite_of (r.channelCommand (r.moveChannel h v hg _) v hg 1) h

theorem raiseStep : P (raiseStep v g f) :=
  ite_of (r.channelCommand (r.channel h g hg _) v hg _) (r.channel h g hg _)

theorem completeLevelling : P (completeLevelling v g f) := r.channelCommand (r.moveChannel h v hg _) v hg 0

end ChannelRules

namespace ScanRules

variable {S : Fin 4 → Prop} {P : Flow → Prop} (r : ScanRules S P) {f : Flow} (h : P f) (v : Base) {g : Fin 4} (hg : S g)

include r h

theorem giveDraw (p : Purpose) : P (giveDraw v p f) :=
  r.raise (r.permit (r.draws h (addDraw ⟨v.elapsed, p⟩ f.sched.draws)) none) v _ _ _

theorem askPermit (p : Purpose) : P (askPermit v p f).2 := by
  unfold Machine.askPermit
  split
  · exact r.giveDraw h v p
  · exact r.deferReport (r.permit h _) v _

include hg

theorem check4 : P (check4 v g f) := by
  have go (m : Permit) {x : Flow} (hx : P x) : P (Machine.check5 v g (setChannel g (fun c => { c with permit := m }) x)) :=
    r.check5 (r.channel hx g hg _) v hg
  unfold Machine.check4
  dsimp only
  split
  · exact go _ h
  split
  · exact r.waitWater h v hg _
  split
  · exact go _ h
  have permit := r.askPermit h v (((f.channels.nth g).req).getD .keeper)
  split <;> next e =>
    rw [e] at permit
    first | exact go _ permit | exact r.waitWater permit v hg _

theorem driftScan : P (driftScan v g f) := ite_of (r.check4 (r.channel h g hg _) v hg) h

theorem waterScan : P (waterScan v g f) := by
  unfold Machine.waterScan
  dsimp only
  split
  · exact h
  split
  · exact r.check5 (r.channel (r.withdrawPermit h g) g hg _) v hg
  split
  · have permit := r.askPermit h v (((f.channels.nth g).req).getD .keeper)
    split <;> next e =>
      rw [e] at permit
      first | exact r.check5 (r.channel permit g hg _) v hg | exact r.channel permit g hg _
  · exact h

theorem scanByState (signs : Tbl 4 Sign) : P (scanByState v signs g f) := by
  unfold Machine.scanByState
  dsimp only
  split
  · exact r.waterScan h v hg
  · exact ite_of (r.profile h v hg) (r.suspend h v hg)
  · exact ite_of (r.holdScan h v hg signs) (r.suspend h v hg)
  · exact r.resumeScan h v hg
  · exact r.driftScan h v hg
  · exact h

theorem scanChannel (signs : Tbl 4 Sign) : P (scanChannel v signs g f) := by
  have k := r.scanByState h v hg signs
  exact ite_of (r.channel k g hg _) k

omit hg

theorem redecidePermit (h3 : S 3) : P (redecidePermit v f) := by
  unfold Machine.redecidePermit
  split
  · exact h
  · split
    · exact r.check5 (r.channel (r.giveDraw h v _) 3 h3 _) v h3
    · exact ite_of h (r.deferReport (r.permit h _) v _)

end ScanRules

namespace CancelRules

variable {S : Fin 4 → Prop} {P : Flow → Prop} (r : CancelRules S P) {f : Flow} (h : P f) (v : Base) {g : Fin 4} (hg : S g)

include r h

theorem leaveWaiting (g : Fin 4) : P (leaveWaiting g f) := r.waiting h _

include hg

theorem releaseGrant : P (releaseGrant g f) := r.grants h g hg false

theorem requestGrant : P (requestGrant g f).2 := by
  obtain ⟨-, e⟩ | ⟨-, -, e⟩ | ⟨-, -, -, -, e⟩ | ⟨-, -, -, e⟩ := requestGrant_cases f g <;> rw [e]
  · exact h
  · exact h
  · exact r.grants h g hg true
  · exact r.waiting h _

theorem failChannel (cause : ChanCause) : P (failChannel v g cause f) :=
  r.raise (r.channelCommand (r.channel
    (ite_of (r.withdrawPermit (r.leaveWaiting h g) g) (r.leaveWaiting h g)) g hg _) v hg 0) v _ _ _

theorem failRefused : P (failRefused v g f) := ite_of (r.failChannel h v hg _) h

theorem cancelChannel : P (cancelChannel v g f) := by
  have waiting := r.leaveWaiting h g
  unfold Machine.cancelChannel
  dsimp only
  split
  · exact h
  · have permit : P (if (f.channels.nth g).st = .waitingWater then Machine.withdrawPermit g (Machine.leaveWaiting g f)
        else Machine.leaveWaiting g f) := ite_of (r.withdrawPermit waiting g) waiting
    exact r.moveChannel (r.releaseGrant (ite_of (r.commandSluice permit v hg 0) permit) hg) v hg _

theorem cancelFor (p : Purpose) : P (cancelFor v g p f) := ite_of (r.cancelChannel h v hg) h

end CancelRules

namespace WaterRules

variable {S : Fin 4 → Prop} {P : Flow → Prop} (r : WaterRules S P) {f : Flow} (h : P f) (v : Base) {g : Fin 4} (hg : S g)

include r h hg

theorem startChecks (p : Purpose) : P (startChecks v g p f) := by
  unfold Machine.startChecks
  have grant := r.requestGrant (r.channel h g hg fun c => { Channel.idle with st := c.st, req := some p }) hg
  dsimp only
  split <;> next e =>
    rw [e] at grant
    first | exact r.check4 grant v hg | exact r.channelCommand (r.moveChannel grant v hg _) v hg 0

theorem requestLevelling (p : Purpose) : P (requestLevelling v g p f).2 := by
  unfold Machine.requestLevelling
  dsimp only
  (repeat' split) <;> first | exact h | exact r.failRefused (r.startChecks h v hg p) v hg

end WaterRules

/-! ## What stands through all of it -/

/-- The gates, the heads, the passages, the batches, the accounts and the regime record stand; of the scheduler the permit
and the draws alone change; the reports are added to. -/
structure Watery (a f : Flow) : Prop where
  water : OnlyWater a.toPlant f.toPlant
  sched : f.sched = { a.sched with permit := f.sched.permit, draws := f.sched.draws }
  out : a.out <+: f.out
  opp : f.opp = a.opp
  scanEnd : f.scanEnd = a.scanEnd

theorem Watery.refl (f : Flow) : Watery f f :=
  ⟨⟨rfl, rfl, rfl, rfl, rfl, rfl, rfl, rfl, rfl⟩, rfl, List.prefix_refl _, rfl, rfl⟩

/-- Reports are added to. -/
theorem prefix_raise {a f : Flow} (h : a.out <+: f.out) (v : Base) (c : RClass) (code : Nat) (fields : List Byte) :
    a.out <+: (raise v c code fields f).out := h.trans (List.prefix_append _ _)

theorem watery_rules (a : Flow) : WaterRules (fun _ => True) (Watery a) where
  raise h v c code fields := ⟨h.water, h.sched, prefix_raise h.out v c code fields, h.opp, h.scanEnd⟩
  sluice h _ _ _ := ⟨h.water, h.sched, h.out, h.opp, h.scanEnd⟩
  channel h _ _ _ := ⟨h.water, h.sched, h.out, h.opp, h.scanEnd⟩
  grants h _ _ _ := ⟨h.water, h.sched, h.out, h.opp, h.scanEnd⟩
  waiting h _ := ⟨h.water, h.sched, h.out, h.opp, h.scanEnd⟩
  permit h p := ⟨h.water, congrArg (fun s : Scheduler => { s with permit := p }) h.sched, h.out, h.opp, h.scanEnd⟩
  draws h d := ⟨h.water, congrArg (fun s : Scheduler => { s with draws := d }) h.sched, h.out, h.opp, h.scanEnd⟩

/-- A scan of the channels, the permit decided before it or after it. -/
theorem watery_scanLevellings {a f : Flow} (h : Watery a f) (v : Base) (signs : Tbl 4 Sign) :
    Watery a (scanLevellings v signs f) := by
  have rules := watery_rules a
  have drawn : Watery a { f with freeIndex := f.freeIndex + 1 } := ⟨h.water, h.sched, h.out, h.opp, h.scanEnd⟩
  have scanned {x : Flow} (hx : Watery a x) : Watery a (overAll allGates (scanChannel v signs) x) :=
    overAll_of (P := Watery a) (fun g _ f h => rules.scanChannel (f := f) h v trivial signs) hx
  unfold scanLevellings
  dsimp only
  exact rules.redecidePermit (scanned (ite_of (ite_of (rules.redecidePermit drawn v trivial) drawn) h)) v trivial

end Sys2Proof.Machine
end

section
/-! What the Tracker's work on a batch keeps: any predicate that changes of gates, heads, levellings and batch records
respect, and reports, holds after each of its operations (spec 07). -/

namespace Sys2Proof.Machine

/-- A change of a batch record that leaves its identity. -/
def KeepsBatch (fn : Batch → Batch) : Prop := ∀ b, (fn b).id = b.id ∧ (fn b).dir = b.dir ∧ (fn b).frozen = b.frozen

/-- The predicate withstands a batch's giving up of its gates, its heads and its levelling. -/
structure PartRules (P : Flow → Prop) : Prop where
  cancel : CancelRules (fun _ => True) P
  gate : ∀ {f}, P f → ∀ g fn, P (setGate g fn f)
  head : ∀ {f}, P f → ∀ v h fn, P (changeHead v h fn f)

/-- The predicate withstands the Tracker's work on the batches whose ids satisfy `B`. -/
structure TrackRules (B : Nat → Prop) (P : Flow → Prop) : Prop extends PartRules P where
  water : WaterRules (fun _ => True) P
  batch : ∀ {f}, P f → ∀ id, B id → ∀ fn, KeepsBatch fn → P (setBatch id fn f)

/-- The batch found under an id carries it. -/
theorem id_of_batch? {p : Plant} {id : Nat} {b : Batch} (h : p.batch? id = some b) : b.id = id := by
  simpa using List.find?_some h

namespace PartRules

variable {P : Flow → Prop} (r : PartRules P) {f : Flow} (h : P f) (v : Base)

include r h

theorem ownGate (g : Fin 4) (o : Owner) : P (ownGate v g o f) :=
  ite_of h (r.cancel.raise (r.gate h g _) v _ _ _)

theorem withdrawOpen (b : Nat) (g : Fin 4) : P (withdrawOpen b g f) := r.gate h g _

theorem giveHead (k : Fin 8) : P (giveHead v k f) := r.head h v k _

theorem releaseHead (b : Nat) (k : Fin 8) : P (releaseHead v b k f) := ite_of (r.giveHead h v k) h

theorem cancelOwn (b : Batch) : P (cancelOwn v b f) := by
  unfold Machine.cancelOwn
  split
  · exact h
  · exact r.cancel.cancelFor h v trivial _

end PartRules

namespace TrackRules

variable {B : Nat → Prop} {P : Flow → Prop} (r : TrackRules B P) {f : Flow} (h : P f) (v : Base) {id : Nat} (hid : B id)

include r h

theorem stepReport (id : Nat) : P (stepReport v id f) := by
  unfold Machine.stepReport
  split
  · exact h
  · exact r.water.raise h v _ _ _

theorem heldReport (id : Nat) : P (heldReport v id f) := by
  unfold Machine.heldReport
  split
  · exact h
  · exact r.water.raise h v _ _ _

theorem reduceAll (gs : List (Fin 4)) : P (overAll gs (reduceSluice v) f) :=
  overAll_of (P := P) (fun _ _ _ h => r.water.reduceSluice h v trivial) h

omit h

theorem tellOccupied {change : Flow → Flow} (hc : P (change f)) : P (tellOccupied v change f) :=
  overAll_of (P := P) (fun k _ _ hx => ite_of (r.reduceAll hx v (gatesOf k)) hx) hc

include h hid

theorem enterStep (st : Step) : P (enterStep v id st f) :=
  r.stepReport (r.batch h id hid _ fun _ => by exact ⟨rfl, rfl, rfl⟩) v id

theorem hold (c : HeldCause) : P (hold v id c f) := by
  unfold Machine.hold
  split
  · exact h
  · next b _ =>
    refine ite_of h ?_
    have held : P (setBatch id (fun x => { x with
        step := .held, heldStep := if decide (b.step ≠ .held) then some x.step else x.heldStep, causes := x.causes.put c true,
        stepStart := if decide (b.step ≠ .held) then v.elapsed else x.stepStart,
        berth := if c = .overdue then x.berth else x.berth.pause v.elapsed }) f) :=
      r.batch h id hid _ fun _ => by exact ⟨rfl, rfl, rfl⟩
    have withdrawn := overAll_of (P := P) (act := Machine.withdrawOpen id) (xs := allGates)
      (fun g _ x hx => r.withdrawOpen hx id g) held
    exact r.heldReport (ite_of (r.stepReport withdrawn v id) withdrawn) v id

theorem askOwn {b : Batch} (hb : b.id = id) (g : Fin 4) (p : Purpose) : P (askOwn v b g p f) := by
  unfold Machine.askOwn
  have request := r.water.requestLevelling h v (g := g) trivial p
  split
  · next e =>
    rw [e] at request
    exact request
  · next e =>
    rw [e] at request
    exact r.batch (ite_of request (r.cancelOwn request v b)) b.id (hb ▸ hid) _ fun _ => by exact ⟨rfl, rfl, rfl⟩

theorem askAhead : P (askAhead v id f) := by
  unfold Machine.askAhead
  split
  · exact h
  · next b hb => exact ite_of h (r.askOwn h v hid (id_of_batch? hb) _ _)

theorem claimAhead : P (claimAhead v id f) := by
  unfold Machine.claimAhead
  split
  · exact h
  · split
    · next k _ _ =>
      refine ite_of (r.askAhead ?_ v hid) h
      exact r.tellOccupied v (r.batch h id hid (fun b => { b with target := some k }) fun _ => by exact ⟨rfl, rfl, rfl⟩)
    · exact r.askAhead h v hid

theorem entryActions (st : Step) : P (entryActions v id st f) := by
  unfold Machine.entryActions
  split
  · exact h
  · dsimp only
    split
    · exact ite_of (r.hold h v hid _) (r.batch h id hid _ fun _ => by exact ⟨rfl, rfl, rfl⟩)
    · exact ite_of (r.hold h v hid _) h
    · exact r.claimAhead h v hid
    · exact ite_of (r.batch h id hid _ fun _ => by exact ⟨rfl, rfl, rfl⟩) h
    · exact h

theorem goStep (st : Step) : P (goStep v id st f) := r.entryActions (r.enterStep h v hid st) v hid st

theorem leaveAhead {b : Batch} (hb : b.id = id) : P (leaveAhead v b f) :=
  r.batch (r.releaseHead (r.withdrawOpen h b.id b.ahead) v b.id _) b.id (hb ▸ hid) _ fun _ => by exact ⟨rfl, rfl, rfl⟩

theorem reenter : P (reenter v id f) := by
  unfold Machine.reenter
  split
  · exact h
  · next b hb =>
    have left := r.leaveAhead h v hid (id_of_batch? hb)
    refine ite_of h (ite_of (r.hold h v hid _) ?_)
    have at_ : P (if reentered f.toPlant b b.effective = .waitingAhead ∧ b.effective ≠ reentered f.toPlant b b.effective
        then Machine.leaveAhead v b f else f) := ite_of left h
    exact ite_of (r.goStep at_ v hid _) (r.entryActions at_ v hid _)

theorem followOwn : P (followOwn id f) := by
  unfold Machine.followOwn
  split
  · exact h
  · split
    · exact ite_of h (r.batch h id hid _ fun _ => by exact ⟨rfl, rfl, rfl⟩)
    · exact h

omit hid

theorem reenterAll (all : ∀ id, B id) : P (reenterAll v f) := by
  refine overAll_of (P := P) (fun id _ x hx => ?_) h
  split
  · exact hx
  · exact ite_of hx (r.reenter (r.followOwn hx (all id)) v (all id))

end TrackRules

/-! ## What stands through all of it -/

/-- The passages, the accounts, the counters, the errands and the regime record stand; of the scheduler the permit and the
draws alone change; no batch is frozen that was not; the reports are added to. -/
structure Tracked (a f : Flow) : Prop where
  passages : f.passages = a.passages
  nextPassage : f.nextPassage = a.nextPassage
  nextBatch : f.nextBatch = a.nextBatch
  errands : f.errands = a.errands
  accounts : f.accounts = a.accounts
  regime : f.regime = a.regime
  sched : f.sched = { a.sched with permit := f.sched.permit, draws := f.sched.draws }
  frozen : (∀ b ∈ a.batches, b.frozen = false) → ∀ b ∈ f.batches, b.frozen = false
  out : a.out <+: f.out

theorem Tracked.refl (f : Flow) : Tracked f f := ⟨rfl, rfl, rfl, rfl, rfl, rfl, rfl, id, List.prefix_refl _⟩

/-- The fields that an update of the others leaves. -/
theorem Tracked.of_same {a f g : Flow} (h : Tracked a f) (hp : g.toPlant = { f.toPlant with
      gates := g.gates, sluices := g.sluices, grants := g.grants, waiting := g.waiting, channels := g.channels
      heads := g.heads }) (ho : f.out <+: g.out) : Tracked a g := by
  have e {α : Type} (x : Plant → α) : x g.toPlant = x { f.toPlant with
      gates := g.gates, sluices := g.sluices, grants := g.grants, waiting := g.waiting, channels := g.channels
      heads := g.heads } := congrArg x hp
  have s : g.sched = f.sched := e (·.sched)
  exact ⟨(e (·.passages)).trans h.passages, (e (·.nextPassage)).trans h.nextPassage, (e (·.nextBatch)).trans h.nextBatch,
    (e (·.errands)).trans h.errands, (e (·.accounts)).trans h.accounts, (e (·.regime)).trans h.regime,
    by rw [s]; exact h.sched, fun k => by rw [show g.batches = f.batches from e (·.batches)]; exact h.frozen k,
    h.out.trans ho⟩

theorem tracked_water (a : Flow) : WaterRules (fun _ => True) (Tracked a) where
  raise h _ _ _ _ := h.of_same rfl (List.prefix_append _ _)
  sluice h _ _ _ := h.of_same rfl (List.prefix_refl _)
  channel h _ _ _ := h.of_same rfl (List.prefix_refl _)
  grants h _ _ _ := h.of_same rfl (List.prefix_refl _)
  waiting h _ := h.of_same rfl (List.prefix_refl _)
  permit h p := ⟨h.passages, h.nextPassage, h.nextBatch, h.errands, h.accounts, h.regime,
    congrArg (fun s : Scheduler => { s with permit := p }) h.sched, h.frozen, h.out⟩
  draws h d := ⟨h.passages, h.nextPassage, h.nextBatch, h.errands, h.accounts, h.regime,
    congrArg (fun s : Scheduler => { s with draws := d }) h.sched, h.frozen, h.out⟩

/-- Whatever does not depend on the heads. -/
theorem HeadsOnly.same {f g : Flow} (h : HeadsOnly f g) {α : Type} (x : Plant → α)
    (hx : ∀ (p : Plant) (hs : Tbl 8 Head), x { p with heads := hs } = x p) : x g.toPlant = x f.toPlant := by
  rw [h.plant, hx]

theorem tracked_rules (a : Flow) : TrackRules (fun _ => True) (Tracked a) where
  cancel := (tracked_water a).toCancelRules
  water := tracked_water a
  gate h g fn := h.of_same (by rw [gates_setGate, toPlant_setGate]) (by rw [out_setGate])
  head {f} h v k fn := by
    have only := headsOnly_changeHead v k fn f
    generalize changeHead v k fn f = g at only ⊢
    refine h.of_same ?_ only.out
    have gates : g.gates = f.gates := only.same (·.gates) fun _ _ => rfl
    have sluices : g.sluices = f.sluices := only.same (·.sluices) fun _ _ => rfl
    have grants : g.grants = f.grants := only.same (·.grants) fun _ _ => rfl
    have waiting : g.waiting = f.waiting := only.same (·.waiting) fun _ _ => rfl
    have channels : g.channels = f.channels := only.same (·.channels) fun _ _ => rfl
    rw [gates, sluices, grants, waiting, channels]
    exact only.plant
  batch h id _ fn hfn := ⟨h.passages, h.nextPassage, h.nextBatch, h.errands, h.accounts, h.regime, h.sched,
    fun k b hb => by
      obtain ⟨x, hx, rfl⟩ := List.mem_map.mp hb
      split
      · rw [(hfn x).2.2]
        exact h.frozen k x hx
      · exact h.frozen k x hx, h.out⟩

end Sys2Proof.Machine
end

section
/-! MODE and the keeper's orders (09/R158, R161; 02/R24). -/

namespace Sys2Proof.Machine

/-- Gates changed one after the other. -/
theorem toPlant_overAll_setGate (fn : Gate → Gate) (gs : List (Fin 4)) (f : Flow) :
    (overAll gs (fun g => setGate g fn) f).toPlant =
      { f.toPlant with gates := gs.foldl (fun t g => t.upd g fn) f.gates } := by
  induction gs generalizing f with
  | nil => rfl
  | cons g gs ih =>
    rw [overAll_cons, ih, gates_setGate, toPlant_setGate]
    rfl

theorem out_overAll_setGate (fn : Gate → Gate) (gs : List (Fin 4)) (f : Flow) :
    (overAll gs (fun g => setGate g fn) f).out = f.out := by
  induction gs generalizing f with
  | nil => rfl
  | cons g gs ih => rw [overAll_cons, ih, out_setGate]

theorem mem_allGates (g : Fin 4) : g ∈ allGates := by
  revert g
  decide

/-- Every gate changed. -/
theorem gates_overAll_setGate {fn : Gate → Gate} (hfn : ∀ x, fn (fn x) = fn x) (f : Flow) (g : Fin 4) :
    (overAll allGates (fun g => setGate g fn) f).gates.nth g = fn (f.gates.nth g) := by
  have e : (overAll allGates (fun g => setGate g fn) f).gates = allGates.foldl (fun t g => t.upd g fn) f.gates :=
    congrArg Plant.gates (toPlant_overAll_setGate fn allGates f)
  rw [e, nth_foldl_upd hfn, if_pos (mem_allGates g)]

/-! ## The mode -/

/-- The mode is no part of the condition: a change of it tells of itself alone (09/R158). -/
theorem changeRegime_mode {v : Base} {m : Mode} {f : Flow} (h : f.regime.mode ≠ m) :
    changeRegime v .mode (fun r => { r with mode := m }) f
      = flightReport v .mode (setRegime (fun r => { r with mode := m }) f) :=
  changeRegime_told v .mode _ f (fun e => h (congrArg Regime.mode e).symm) rfl

/-- A request of the Tracker to a gate, discarded. -/
def Gate.unasked (x : Gate) : Gate := if x.ask.any GateAsk.ofTracker then { x with ask := none } else x

theorem unasked_unasked (x : Gate) : x.unasked.unasked = x.unasked := by
  unfold Gate.unasked
  split <;> rfl

/-- No request of the Tracker is left. -/
theorem ask_unasked (x : Gate) (b : Nat) : x.unasked.ask ≠ some (.openFor b) ∧ x.unasked.ask ≠ some (.closeFor b) := by
  unfold Gate.unasked
  split
  · simp
  · next h => constructor <;> (intro e; exact h (by simp [e, GateAsk.ofTracker]))

section Manual

variable {v : Base} {f : Flow} (h : f.regime.mode ≠ .manual)

include h

/-- MANUAL: the requests of the Tracker are discarded, and the berth timers stop. -/
theorem changeMode_manual : changeMode v .manual f =
    pauseBerths v (overAll allGates (fun g => setGate g Gate.unasked)
      (flightReport v .mode (setRegime (fun r => { r with mode := .manual }) f))) := by
  unfold changeMode
  rw [if_neg h, changeRegime_mode h]
  rfl

end Manual

/-- AUTO: the keeper's heads are released, and the batches re-enter their steps. -/
theorem changeMode_auto {v : Base} {f : Flow} (h : f.regime.mode ≠ .auto) :
    let told := flightReport v .mode (setRegime (fun r => { r with mode := .auto }) f)
    (changeMode v .auto f).regime = told.regime ∧ told.out <+: (changeMode v .auto f).out := by
  intro told
  have heads := headsOnly_releaseKeeperHeads v told
  have e : changeMode v .auto f = askOpportunity (if trackerWorks (releaseKeeperHeads v told).toPlant then
      reenterAll v (releaseKeeperHeads v told) else releaseKeeperHeads v told) := by
    unfold changeMode
    rw [if_neg h, changeRegime_mode h]
  rw [e, out_askOpportunity]
  generalize releaseKeeperHeads v told = k at heads ⊢
  have track := (tracked_rules k).reenterAll (Tracked.refl k) v fun _ => trivial
  refine ⟨?_, ?_⟩
  · refine Eq.trans ?_ heads.regime
    show (ite _ _ _ : Flow).regime = _
    split
    · exact track.regime
    · rfl
  · split
    · exact heads.out.trans track.out
    · exact heads.out

theorem exec_mode {rq : Rq} {s : State} (adm : Admitted s rq 0) {code : Nat} {m : Mode} (hm : mode? code = some m)
    (h : s.plant.regime.mode ≠ m) :
    exec (.mode rq code) s = .next ((s.conclude (changeMode s.base m s.flow)).ok rq 0x61
      (u1 m.code ++ u1 s.plant.regime.condition.code)) := by
  refine congrArg _ (serve_accept adm ?_)
  simp only [hm]
  exact if_neg h

/-- KEEPER put in the cause set, or taken out of it. -/
theorem flow_keeperCause (s : State) (x : Bool) :
    let r := { s.plant.regime with keeper := x }
    let f := keeperCause s.base x s.flow
    f.regime = r ∧ OnlyCondition s.plant f.toPlant ∧ (s.plant.regime.keeper = x → f.out = [])
      ∧ (s.plant.regime.keeper ≠ x → f.out.head? = some (flightNow s.base r .keeper)) := by
  intro r f
  refine ⟨regime_changeRegime _ _ _ _, onlyCondition_changeRegime _ _ _ s, fun h => ?_, fun h => ?_⟩
  · have e : f = s.flow := changeRegime_same _ _ _ s.flow (by
      show { s.plant.regime with keeper := x } = s.plant.regime
      rw [← h])
    rw [e]
    rfl
  · exact head?_changeRegime _ _ s fun e => h (congrArg Regime.keeper e).symm

/-- Settles O58: MODE by the mode it sets, and the keeper's two orders by one rule. -/
theorem modeAndKeeperOrdersAct : Obligations.ModeAndKeeperOrdersAct := by
  refine ⟨fun rq s adm => ⟨fun code m hm h => ?same, fun code m hm h => ?_, fun code hm => ?bad⟩, ?keeper⟩
  case same =>
    refine congrArg _ (serve_accept adm ?_)
    simp only [hm]
    exact if_pos h
  case bad =>
    refine congrArg _ (serve_refuse adm ?_)
    simp only [hm]
    rfl
  case keeper =>
    intro rq s adm
    have one (x : Bool) : (keeperCause s.base x s.flow).regime = { s.plant.regime with keeper := x } :=
      (flow_keeperCause s x).1
    constructor
    · refine ⟨_, congrArg _ (serve_accept adm ?_), flow_keeperCause s true⟩
      simp only [keeperOrder, one, Regime.causeByte]
    · refine ⟨_, congrArg _ (serve_accept adm ?_), flow_keeperCause s false⟩
      simp only [keeperOrder, one, Regime.causeByte]
  refine ⟨_, exec_mode adm hm h, ?_⟩
  cases m with
  | auto =>
    obtain ⟨regime, out⟩ := changeMode_auto (v := s.base) (f := s.flow) h
    exact ⟨regime, head?_of_prefix out, fun e => (nomatch e), fun e => (nomatch e)⟩
  | manual =>
    have e := changeMode_manual (v := s.base) (f := s.flow) h
    have plant := toPlant_overAll_setGate Gate.unasked allGates
      (flightReport s.base .mode (setRegime (fun r => { r with mode := .manual }) s.flow))
    have out := out_overAll_setGate Gate.unasked allGates
      (flightReport s.base .mode (setRegime (fun r => { r with mode := .manual }) s.flow))
    have gates := gates_overAll_setGate unasked_unasked
      (flightReport s.base .mode (setRegime (fun r => { r with mode := .manual }) s.flow))
    rw [e]
    generalize overAll allGates (fun g => setGate g Gate.unasked)
      (flightReport s.base .mode (setRegime (fun r => { r with mode := .manual }) s.flow)) = k at plant out gates ⊢
    have out : (pauseBerths s.base k).out = [flightNow s.base { s.plant.regime with mode := .manual } .mode] := out
    have regime := congrArg Plant.regime plant
    have heads := congrArg Plant.heads plant
    refine ⟨regime, by rw [out]; rfl, fun _ => out, fun _ => ⟨heads, fun g b => ?_⟩⟩
    show (k.gates.nth g).ask ≠ _ ∧ (k.gates.nth g).ask ≠ _
    rw [gates g]
    exact ask_unasked _ b

end Sys2Proof.Machine
end

section
/-! The Gate Unit: what each of its movements makes of a gate record, and the keeper's gate commands (02/R22 to R34). -/

namespace Sys2Proof.Machine

/-! ## One gate changed -/

/-- Of the blocks' state in `f`, gate `g` alone has become `y` in `k`, and the reports `rs` were raised. -/
structure GateBecomes (g : Fin 4) (f k : Flow) (y : Gate) (rs : List Report) : Prop where
  plant : k.toPlant = { f.toPlant with gates := f.gates.put g y }
  out : k.out = f.out ++ rs

theorem gateBecomes_refl (g : Fin 4) (f : Flow) : GateBecomes g f f (f.gates.nth g) [] :=
  ⟨by rw [put_nth_self], by simp⟩

namespace GateBecomes

variable {g : Fin 4} {f k : Flow} {y : Gate} {rs : List Report} (h : GateBecomes g f k y rs)

include h

theorem gates : k.gates = f.gates.put g y := congrArg Plant.gates h.plant

theorem gate : k.gates.nth g = y := by rw [h.gates, Tbl.nth_put_same]

theorem only : OnlyGate g f.toPlant k.toPlant := by
  unfold OnlyGate
  rw [h.gate]
  exact h.plant

theorem set (fn : Gate → Gate) : GateBecomes g f (setGate g fn k) (fn y) rs := by
  constructor
  · have e : k.gates.upd g fn = f.gates.put g (fn y) := by rw [Tbl.upd, h.gate, h.gates, put_put_same]
    rw [toPlant_setGate, e, h.plant]
  · rw [out_setGate, h.out]

theorem told (v : Base) (c : RClass) (code : Nat) (fields : List Byte) :
    GateBecomes g f (raise v c code fields k) y (rs ++ [reportNow v c code fields]) :=
  ⟨h.plant, by rw [out_raise, h.out, List.append_assoc]; rfl⟩

theorem report (v : Base) : GateBecomes g f (gateReport v g k) y (rs ++ [gateNow v g y.st y.owner]) := by
  unfold gateReport
  rw [h.gate]
  exact h.told v _ _ _

theorem move (v : Base) (fn : Gate → Gate) :
    GateBecomes g f (moveGate v g fn k) (fn y) (rs ++ [gateNow v g (fn y).st (fn y).owner]) := (h.set fn).report v

theorem own (v : Base) (o : Owner) : GateBecomes g f (ownGate v g o k) { y with owner := o }
    (rs ++ if y.owner = o then [] else [gateNow v g y.st o]) := by
  unfold ownGate
  rw [h.gate]
  split
  · next e =>
    rw [List.append_nil, ← e]
    exact h
  · exact (h.set fun x => { x with owner := o }).report v

theorem setOwner (o : Owner) : GateBecomes g f (setOwner g o k) { y with owner := o } rs := h.set _

theorem startOpening (v : Base) : GateBecomes g f (startOpening v g k) { y with
    st := .opening, travel := some v.elapsed, limit := v.settings.travelLimit, beamClear := none, ask := none }
    (rs ++ [gateNow v g .opening y.owner]) := h.move v _

theorem startClosing (v : Base) : GateBecomes g f (startClosing v g k) { y with
    st := .closing, travel := some v.elapsed, beamClear := none, ask := none } (rs ++ [gateNow v g .closing y.owner]) :=
  h.move v _

theorem reachOpen (v : Base) : GateBecomes g f (reachOpen v g k) { y with st := .opened, travel := none }
    (rs ++ [gateNow v g .opened y.owner]) := h.move v _

theorem reachShut (v : Base) : GateBecomes g f (reachShut v g k) { y with
    st := .shut, travel := none, lastShut := v.elapsed, obstructions := 0 } (rs ++ [gateNow v g .shut y.owner]) :=
  h.move v _

theorem fault (v : Base) (c : GateCause) : GateBecomes g f (faultGate v g c k) (y.faulted c)
    (rs ++ [reportNow v .alarm 0x03 (u1 g.val ++ u1 c.code ++ u1 y.st.code ++ b1 (v.pins.shutLimit.nth g)
      ++ b1 (v.pins.openLimit.nth g))]) := by
  unfold faultGate
  rw [h.gate]
  exact (h.set (Gate.faulted c)).told v _ _ _

/-- A gate that meets an obstruction. -/
theorem obstruct (v : Base) (n : Nat) (hn : y.obstructions + 1 = n) : GateBecomes g f (obstruct v g k) { y with
      st := .stopped, travel := none, obstructions := n, ask := none
      beamClear := if decide (3 ≤ n) || v.pins.beam.nth g then none else some v.elapsed
      hold := decide (3 ≤ n), owner := if decide (3 ≤ n) then .keeper else y.owner }
    (rs ++ [reportNow v .alarm 0x04 (u1 g.val ++ u1 n ++ b1 (decide (3 ≤ n)))]) := by
  unfold Machine.obstruct
  rw [h.gate, hn]
  exact (h.set _).told v _ _ _

/-- A CLOSE taken with a clear beam. -/
theorem takeClose_clear (v : Base) (hb : v.pins.beam.nth g = false) : GateBecomes g f (takeClose v g k) { y with
      obstructions := 0, hold := false, limit := v.settings.travelLimit
      st := .closing, travel := some v.elapsed, beamClear := none, ask := none }
    (rs ++ [gateNow v g .closing y.owner]) := by
  unfold Machine.takeClose
  rw [hb]
  exact (h.set fun x => { x with obstructions := 0, hold := false, limit := v.settings.travelLimit }).startClosing v

/-- A CLOSE taken with a blocked beam. -/
theorem takeClose_blocked (v : Base) (hb : v.pins.beam.nth g = true) : GateBecomes g f (takeClose v g k) { y with
      obstructions := 1, hold := false, limit := v.settings.travelLimit
      st := .stopped, travel := none, beamClear := none, ask := none }
    (rs ++ [reportNow v .alarm 0x04 (u1 g.val ++ u1 1 ++ b1 false)]) := by
  have t := (h.set fun x => { x with obstructions := 0, hold := false, limit := v.settings.travelLimit }).obstruct v 1 rfl
  unfold Machine.takeClose
  rw [hb, if_pos rfl]
  rw [hb] at t
  exact t

end GateBecomes

/-! ## GATE_CMD (02/R32) -/

/-- A gate that a command of the keeper may act on: not moving, and not a batch's in AUTO. -/
def KeeperMay (s : State) (g : Fin 4) : Prop :=
  (s.plant.gates.nth g).st ≠ .opening ∧ (s.plant.gates.nth g).st ≠ .closing
    ∧ (s.plant.regime.mode = .manual ∨ ∀ b, (s.plant.gates.nth g).owner ≠ .batch b)

section Commands

variable {rq : Rq} {s : State} (adm : Admitted s rq 0) {act : Fin 4 → State → Answer}

include adm

theorem gateCommand_bad {n : Nat} (hn : 4 ≤ n) : gateCommand rq n act s = s.no rq 0x19 .badField (u1 1) := by
  refine serve_refuse adm ?_
  have e : unit? 4 n = none := by simp [unit?]; omega
  simp only [e]
  rfl

theorem gateCommand_may {g : Fin 4} (may : KeeperMay s g) {t : State} {body : List Byte} (h : act g s = accept t body) :
    gateCommand rq g.val act s = t.ok rq 0x19 body := by
  obtain ⟨ho, hc, hf⟩ := may
  refine serve_accept adm ?_
  simp only [unit?_val]
  rw [if_neg (by simp [ho, hc]), if_neg ?_, h]
  rintro ⟨byBatch, auto⟩
  obtain hm | hb := hf
  · rw [hm] at auto
    cases auto
  · cases e : (s.plant.gates.nth g).owner with
    | batch b => exact hb b e
    | none | keeper => rw [e] at byBatch; cases byBatch

/-- One it may not act on, or that the action refuses. -/
theorem gateCommand_refused {g : Fin 4} (h : KeeperMay s g → act g s = refuse s .state) :
    gateCommand rq g.val act s = s.no rq 0x19 .state [] := by
  by_cases may : KeeperMay s g
  · refine serve_refuse adm ?_
    simp only [unit?_val, h may]
    (repeat' split) <;> rfl
  · refine serve_refuse adm ?_
    simp only [unit?_val]
    by_cases moving : (s.plant.gates.nth g).st = .opening ∨ (s.plant.gates.nth g).st = .closing
    · rw [if_pos moving]
      rfl
    · rw [if_neg moving]
      cases hm : s.plant.regime.mode with
      | manual => exact absurd ⟨fun e => moving (.inl e), fun e => moving (.inr e), .inl hm⟩ may
      | auto =>
        cases ho : (s.plant.gates.nth g).owner with
        | batch b => simp only [and_self, if_true]; rfl
        | none | keeper =>
          refine absurd ⟨fun e => moving (.inl e), fun e => moving (.inr e), .inr fun b hb => ?_⟩ may
          rw [ho] at hb
          cases hb

end Commands

end Sys2Proof.Machine
end

section
/-! The keeper's gate commands, the limits, the beams and the travel times (02/R22 to R34). -/

namespace Sys2Proof.Machine

/-! ## Gates that share a body -/

theorem mem_adjacent {a g : Fin 4} : a ∈ adjacent g ↔ a.val + 1 = g.val ∨ g.val + 1 = a.val := by
  revert a g
  decide

/-- No connection through a gate: it is SHUT, and its sluice sound and at 0. -/
theorem connected_false_iff {p : Plant} {a : Fin 4} : p.connected a = false ↔
    (p.gates.nth a).st = .shut ∧ (p.sluices.nth a).st ≠ .fault ∧ (p.sluices.nth a).pos = 0 := by
  simp [Plant.connected, Sluice.passes]

theorem clearOfConnections_iff {p : Plant} {g : Fin 4} : p.clearOfConnections g = true ↔
    ∀ a : Fin 4, a.val + 1 = g.val ∨ g.val + 1 = a.val →
      (p.gates.nth a).st = .shut ∧ (p.sluices.nth a).st ≠ .fault ∧ (p.sluices.nth a).pos = 0 := by
  simp only [Plant.clearOfConnections, List.all_eq_true, mem_adjacent, Bool.not_eq_true', connected_false_iff]

theorem clearOfGrants_iff {p : Plant} {g : Fin 4} : p.clearOfGrants g = true ↔
    ∀ a : Fin 4, a.val + 1 = g.val ∨ g.val + 1 = a.val → p.grants.nth a = false := by
  simp only [Plant.clearOfGrants, List.all_eq_true, mem_adjacent, Bool.not_eq_true']

/-! ## The keeper's commands -/

section Commands

variable {rq : Rq} {s : State} (adm : Admitted s rq 0) {g : Fin 4} {act : Fin 4 → State → Answer}

include adm

/-- A command taken. -/
theorem command_taken {c : Instr} (hc : exec c s = .next (gateCommand rq g.val act s)) (may : KeeperMay s g) {f : Flow}
    (ha : act g s = gateTaken s g f) {y : Gate} {rs : List Report} (h : GateBecomes g s.flow f y rs) :
    ∃ f, exec c s = .next ((s.conclude f).ok rq 0x19 (u1 y.st.code)) ∧ OnlyGate g s.plant f.toPlant
      ∧ f.gates.nth g = y ∧ f.out = rs := by
  refine ⟨f, ?_, h.only, h.gate, h.out⟩
  rw [hc, gateCommand_may adm may ha, h.gate]

/-- One refused. -/
theorem command_refused {c : Instr} (hc : exec c s = .next (gateCommand rq g.val act s))
    (h : KeeperMay s g → act g s = refuse s .state) : exec c s = .next (s.no rq 0x19 .state []) := by
  rw [hc, gateCommand_refused adm h]

end Commands

/-- A gate the keeper may not act on. -/
theorem not_keeperMay {s : State} {g : Fin 4} (h : (s.plant.gates.nth g).st = .opening ∨ (s.plant.gates.nth g).st = .closing
    ∨ (s.plant.regime.mode = .auto ∧ ∃ b, (s.plant.gates.nth g).owner = .batch b)) : ¬ KeeperMay s g := by
  rintro ⟨ho, hc, hf⟩
  obtain h | h | ⟨auto, b, hb⟩ := h
  · exact ho h
  · exact hc h
  · obtain hf | hf := hf
    · rw [hf] at auto; cases auto
    · exact hf b hb

/-- What OPEN and FORCE_OPEN do, by the state of the gate and what a SHUT one requires. -/
theorem keeperOpen_spec {rq : Rq} {s : State} (adm : Admitted s rq 0) {g : Fin 4} {c : Instr}
    {ready : Base → Plant → Fin 4 → Bool} (hc : exec c s = .next (gateCommand rq g.val (keeperOpen ready) s)) :
    let x := s.plant.gates.nth g
    let free : Prop := s.plant.regime.mode = .manual ∨ ∀ b, x.owner ≠ .batch b
    let moving : Gate := { x with
      st := .opening, owner := .keeper, travel := some s.base.elapsed, limit := s.base.settings.travelLimit
      beamClear := none, ask := none }
    let atOpen : Prop := s.base.pins.openLimit.nth g = true ∧ s.base.pins.shutLimit.nth g = false
    let told := gateNow s.base g .opening .keeper
    let becomes (y : Gate) (rs : List Report) : Prop := ∃ f,
      exec c s = .next ((s.conclude f).ok rq 0x19 (u1 y.st.code)) ∧ OnlyGate g s.plant f.toPlant
        ∧ f.gates.nth g = y ∧ f.out = rs
    let refused : Prop := exec c s = .next (s.no rq 0x19 .state [])
    (x.st = .fault → refused)
    ∧ (x.st = .shut → (s.plant.regime.mode = .auto ∨ ready s.base s.plant g = false) → refused)
    ∧ (x.st = .shut → s.plant.regime.mode = .manual → ready s.base s.plant g = true → becomes moving [told])
    ∧ (x.st = .stopped → free → ¬ atOpen → becomes { moving with hold := false, obstructions := 0 } [told])
    ∧ (x.st = .stopped → free → atOpen →
      becomes { moving with hold := false, obstructions := 0, st := .opened, travel := none }
        [told, gateNow s.base g .opened .keeper])
    ∧ (x.st = .opened → free → becomes { x with owner := .keeper }
      (if x.owner = .keeper then [] else [gateNow s.base g .opened .keeper])) := by
  intro x free moving atOpen told becomes refused
  have own : GateBecomes g s.flow (setOwner g .keeper s.flow) { x with owner := .keeper } [] :=
    (gateBecomes_refl g s.flow).setOwner .keeper
  have may (st : x.st ≠ .opening ∧ x.st ≠ .closing) (hf : free) : KeeperMay s g := ⟨st.1, st.2, hf⟩
  refine ⟨fun st => ?_, fun st no => ?_, fun st manual yes => ?_, fun st hf no => ?_, fun st hf yes => ?_, fun st hf => ?_⟩
  all_goals have st' : (s.plant.gates.nth g).st = _ := st
  · refine command_refused adm hc fun _ => ?_
    simp only [keeperOpen, st']
  · refine command_refused adm hc fun _ => ?_
    simp only [keeperOpen, st', if_pos no]
  · refine command_taken adm hc (may (by rw [st]; decide) (.inl manual)) ?_ (own.startOpening s.base)
    simp only [keeperOpen, st', manual, yes]
    rfl
  · refine command_taken adm hc (may (by rw [st]; decide) hf) (f := openFromStopped s.base g (setOwner g .keeper s.flow)) ?_ ?_
    · simp only [keeperOpen, st']
    · unfold openFromStopped
      dsimp only
      rw [if_neg fun e => no (by simpa using e)]
      exact (own.set fun x => { x with hold := false, obstructions := 0 }).startOpening s.base
  · refine command_taken adm hc (may (by rw [st]; decide) hf) (f := openFromStopped s.base g (setOwner g .keeper s.flow)) ?_ ?_
    · simp only [keeperOpen, st']
    · unfold openFromStopped
      dsimp only
      rw [if_pos (by simpa using yes)]
      exact ((own.set fun x => { x with hold := false, obstructions := 0 }).startOpening s.base).reachOpen s.base
  · refine command_taken adm hc (may (by rw [st]; decide) hf) (f := ownGate s.base g .keeper s.flow) ?_ ?_
    · simp only [keeperOpen, st']
    · have told : gateNow s.base g .opened .keeper = gateNow s.base g x.st .keeper := by rw [st]
      rw [told]
      exact (gateBecomes_refl g s.flow).own s.base .keeper

/-- Settles O28: the commands that no gate takes, the two openings by one rule, and what they require. -/
theorem keeperOpensShutGate : Obligations.KeeperOpensShutGate := by
  refine ⟨?commands, ?conditions⟩
  case commands =>
    intro rq s adm
    refine ⟨fun n hn c hc => ?_, fun g => ⟨fun barred c hc => ?_, keeperOpen_spec adm rfl, keeperOpen_spec adm rfl⟩⟩
    · simp only [List.mem_cons, List.not_mem_nil, or_false] at hc
      obtain rfl | rfl | rfl | rfl | rfl := hc <;> exact congrArg _ (gateCommand_bad adm hn)
    · have no (act : Fin 4 → State → Answer) : gateCommand rq g.val act s = s.no rq 0x19 .state [] :=
        gateCommand_refused adm fun may => absurd may (not_keeperMay barred)
      simp only [List.mem_cons, List.not_mem_nil, or_false] at hc
      obtain rfl | rfl | rfl | rfl | rfl := hc <;> exact congrArg _ (no _)
  case conditions =>
    intro v p g h hh
    have value : headValue v g = h := by simp [headValue, hh]
    constructor
    · simp only [openInterlock, Bool.and_eq_true, beq_iff_eq, decide_eq_true_eq, clearOfConnections_iff, value,
        mag_eq_abs, and_assoc]
    · simp only [forceReady, Bool.and_eq_true, Bool.or_eq_true, beq_iff_eq, decide_eq_true_eq, clearOfConnections_iff,
        clearOfGrants_iff, value, mag_eq_abs, and_assoc]
      constructor
      · rintro ⟨hu, hl, hc, hg, hs⟩
        refine ⟨hu, hl, fun a ha => ?_, hs⟩
        obtain ⟨shut, sound, zero⟩ := hc a ha
        exact ⟨shut, sound, zero, hg a ha⟩
      · rintro ⟨hu, hl, hcg, hs⟩
        refine ⟨hu, hl, fun a ha => ?_, fun a ha => ?_, hs⟩
        · obtain ⟨shut, sound, zero, -⟩ := hcg a ha
          exact ⟨shut, sound, zero⟩
        · obtain ⟨-, -, -, grant⟩ := hcg a ha
          exact grant

end Sys2Proof.Machine
end

section
/-! The keeper's CLOSE, RESET and RELEASE; the limits and the travel time of a gate (02/R22 to R30, R34). -/

namespace Sys2Proof.Machine

/-! ## CLOSE (02/R27, R34) -/

/-- GN is lit at a gate where it is lit on one of its two heads. -/
theorem gateLit_iff {p : Plant} {g : Fin 4} : p.gateLit g = true ↔ ∃ h : Fin 8, (h.val = 2 * g.val ∨ h.val = 2 * g.val + 1)
    ∧ (p.heads.nth h).lit = true := by
  rw [Plant.gateLit, Bool.or_eq_true]
  constructor
  · rintro (h | h)
    · exact ⟨lowerHead g, .inl rfl, h⟩
    · exact ⟨upperHead g, .inr rfl, h⟩
  · rintro ⟨h, e | e, hl⟩
    · obtain rfl : h = lowerHead g := Fin.ext e
      exact .inl hl
    · obtain rfl : h = upperHead g := Fin.ext e
      exact .inr hl

/-- Settles O29: by the state of the gate, its greens and its beam. -/
theorem keeperClosesOpenGate : Obligations.KeeperClosesOpenGate := by
  refine ⟨fun rq g s adm => ?_, fun p g => by simp only [gateLit_iff, lit_iff]⟩
  intro x free c refused becomes owned taken
  have hc : exec c s = .next (gateCommand rq g.val keeperClose s) := rfl
  have may (st : x.st ≠ .opening ∧ x.st ≠ .closing) (hf : free) : KeeperMay s g := ⟨st.1, st.2, hf⟩
  have idle (st : x.st = .opened ∨ x.st = .stopped) : x.st ≠ .opening ∧ x.st ≠ .closing := by
    obtain st | st := st <;> rw [st] <;> decide
  have close (st : x.st = .opened ∨ x.st = .stopped) (hl : s.plant.gateLit g = false) : keeperClose g s = gateTaken s g
      (takeCloseFor s.base g .keeper (setGate g (fun x => { x with ask := none }) s.flow)) := by
    obtain st | st := st
    all_goals
      have st' : (s.plant.gates.nth g).st = _ := st
      simp only [keeperClose, st', hl]
      rfl
  have asked := (gateBecomes_refl g s.flow).set fun x => { x with ask := none }
  refine ⟨fun st => command_refused adm hc fun _ => ?_, fun st hf => ?_,
    fun st => ⟨fun hl => command_refused adm hc fun _ => ?_, fun hf hl hb => ?_, fun hf hl hb => ?_⟩⟩
  · have st' : (s.plant.gates.nth g).st = .fault := st
    simp only [keeperClose, st']
  · refine command_taken adm hc (may (by rw [st]; decide) hf) (f := ownGate s.base g .keeper s.flow) ?_
      ((gateBecomes_refl g s.flow).own s.base .keeper)
    have st' : (s.plant.gates.nth g).st = .shut := st
    simp only [keeperClose, st']
  · obtain st | st := st
    all_goals
      have st' : (s.plant.gates.nth g).st = _ := st
      simp only [keeperClose, st', hl]
      rfl
  · refine command_taken adm hc (may (idle st) hf) (close st hl) ?_
    unfold takeCloseFor
    rw [hb, if_neg Bool.false_ne_true]
    exact (asked.setOwner .keeper).takeClose_clear s.base hb
  · refine command_taken adm hc (may (idle st) hf) (close st hl) ?_
    unfold takeCloseFor
    rw [hb, if_pos rfl]
    exact (asked.own s.base .keeper).takeClose_blocked s.base hb

/-! ## RESET and RELEASE (02/R34) -/

/-- Settles O30: RESET by the limits, RELEASE by the owner and the state. -/
theorem keeperResetsAndReleasesGate : Obligations.KeeperResetsAndReleasesGate := by
  intro rq g s adm
  have hreset : exec (.gateCmdReset rq g.val) s = .next (gateCommand rq g.val keeperReset s) := rfl
  have hrelease : exec (.gateCmdRelease rq g.val) s = .next (gateCommand rq g.val keeperRelease s) := rfl
  have same := gateBecomes_refl g s.flow
  refine ⟨fun st => command_refused adm hreset fun _ => if_pos st, fun st hf => ?_, fun ho st => ?_, fun no => ?_⟩
  · have may : KeeperMay s g := ⟨by rw [st]; decide, by rw [st]; decide, .inr hf⟩
    have some {y : Gate} {rs : List Report} {f : Flow} (h : GateBecomes g s.flow f y rs)
        (ha : keeperReset g s = gateTaken s g f) : ∃ f, exec (.gateCmdReset rq g.val) s =
          .next ((s.conclude f).ok rq 0x19 (u1 y.st.code)) ∧ OnlyGate g s.plant f.toPlant
            ∧ f.gates.nth g = y ∧ f.out = rs := command_taken adm hreset may ha h
    refine ⟨fun both => command_refused adm hreset fun _ => ?_, fun hs ho => ?_, fun hs ho => ?_⟩
    · unfold keeperReset
      dsimp only
      rw [if_neg (not_not.mpr st), both]
      cases s.base.pins.openLimit.nth g <;> rfl
    · obtain ⟨f, run, only, gate, out⟩ := some (same.move s.base fun x => { x with
          st := .shut, lastShut := s.base.elapsed, cause := none }) (by
        unfold keeperReset
        dsimp only
        rw [if_neg (not_not.mpr st), hs, ho]
        rfl)
      exact ⟨f, run, only, by rw [gate], by rw [gate], by rw [gate], by rw [gate]; rfl, out⟩
    · obtain ⟨f, run, only, gate, out⟩ := some (same.move s.base fun x => { x with st := .opened, cause := none }) (by
        unfold keeperReset
        dsimp only
        rw [if_neg (not_not.mpr st), hs, ho]
        rfl)
      exact ⟨f, run, only, by rw [gate], by rw [gate], by rw [gate]; rfl, out⟩
  · have may : KeeperMay s g := ⟨by obtain st | st := st <;> rw [st] <;> decide,
      by obtain st | st := st <;> rw [st] <;> decide, .inr fun b hb => by rw [ho] at hb; cases hb⟩
    obtain ⟨f, run, only, gate, out⟩ := command_taken adm hrelease may (if_pos ⟨ho, st⟩) (same.own s.base .none)
    refine ⟨f, run, only, gate, out.trans ?_⟩
    have ho : (s.flow.gates.nth g).owner = .keeper := ho
    rw [ho]
    rfl
  · refine command_refused adm hrelease fun _ => if_neg ?_
    rintro ⟨ho, st⟩
    obtain no | ⟨n1, n2⟩ := no
    · exact no ho
    · exact st.elim n1 n2

/-! ## The travel time (02/R30) -/

theorem ranFor_iff {v : Base} {k n : Nat} : ranFor v (some k) n = true ↔ k + n ≤ v.elapsed := by simp [ranFor]

/-- Settles O33: by whether the travel time has run. -/
theorem travelTimeoutFaultsTheGate : Obligations.TravelTimeoutFaultsTheGate := by
  intro g k s hp st hk
  have moving : ((s.plant.gates.nth g).st == .opening || (s.plant.gates.nth g).st == .closing) = true := by
    obtain st | st := st <;> rw [st] <;> rfl
  refine ⟨fun due => ?_, fun early => ?_⟩
  · have t := (gateBecomes_refl g s.flow).fault s.base .travel
    refine ⟨faultGate s.base g .travel s.flow, ?_, t.only, t.gate, t.out⟩
    show execTravelTimeout g s = _
    unfold execTravelTimeout
    dsimp only
    rw [if_pos (by rw [hp, moving, hk, ranFor_iff.mpr due]; rfl)]
  · show execTravelTimeout g s = _
    unfold execTravelTimeout
    dsimp only
    rw [if_neg]
    rw [hp, moving, hk, Bool.and_eq_true, ranFor_iff]
    omega

end Sys2Proof.Machine
end

section
/-! The limits of a gate (02/R22, R26, R28). -/

namespace Sys2Proof.Machine

section Limits

variable {v : Base} {g : Fin 4} {f : Flow} {sh op : Bool} (hsh : v.pins.shutLimit.nth g = sh)
  (hop : v.pins.openLimit.nth g = op) (ws wo : Bool)

theorem judgeLimits_fault (st : (f.gates.nth g).st = .fault) : judgeLimits v g ws wo f = f := by
  unfold judgeLimits
  simp only [st]

include hsh hop

/-- Both limits at once fault any gate. -/
theorem judgeLimits_both (both : (sh && op) = true) (st : (f.gates.nth g).st ≠ .fault) :
    judgeLimits v g ws wo f = faultGate v g .limitBoth f := by
  unfold judgeLimits
  simp only [hsh, hop, both, if_true]
  split <;> first | rfl | contradiction

variable (one : (sh && op) = false)

include one

theorem judgeLimits_shut (st : (f.gates.nth g).st = .shut) :
    judgeLimits v g ws wo f = if sh then f else faultGate v g .limitLost f := by
  unfold judgeLimits
  simp only [st, hsh, hop, one]
  cases sh <;> rfl

theorem judgeLimits_opened (st : (f.gates.nth g).st = .opened) :
    judgeLimits v g ws wo f = if op then f else faultGate v g .limitLost f := by
  unfold judgeLimits
  simp only [st, hsh, hop, one]
  cases op <;> rfl

theorem judgeLimits_opening (st : (f.gates.nth g).st = .opening) : judgeLimits v g ws wo f =
    if op then reachOpen v g f else if sh && !ws then faultGate v g .limitWrong f else f := by
  unfold judgeLimits
  simp only [st, hsh, hop, one]
  rfl

theorem judgeLimits_closing (st : (f.gates.nth g).st = .closing) : judgeLimits v g ws wo f =
    if sh then reachShut v g f else if op && !wo then faultGate v g .limitWrong f else f := by
  unfold judgeLimits
  simp only [st, hsh, hop, one]
  rfl

theorem judgeLimits_stopped (st : (f.gates.nth g).st = .stopped) : judgeLimits v g ws wo f =
    if (sh && !ws) || (op && !wo) then faultGate v g .limitWrong f else f := by
  unfold judgeLimits
  simp only [st, hsh, hop, one]
  rfl

end Limits

/-- The limits change one gate alone. -/
theorem gateBecomes_judgeLimits (v : Base) (g : Fin 4) (ws wo : Bool) (f : Flow) :
    ∃ y rs, GateBecomes g f (judgeLimits v g ws wo f) y rs := by
  have same := gateBecomes_refl g f
  unfold judgeLimits
  dsimp only
  (repeat' split) <;> first
    | exact ⟨_, _, same⟩
    | exact ⟨_, _, same.fault v _⟩
    | exact ⟨_, _, same.reachOpen v⟩
    | exact ⟨_, _, same.reachShut v⟩

/-- Settles O31: both limits first, then the state of the gate with the one that shows, or none. -/
theorem limitsMoveOrFaultTheGate : Obligations.LimitsMoveOrFaultTheGate := by
  refine ⟨fun g s hp => ?drives, fun g sh op s hp => ?_⟩
  case drives =>
    rw [gateOpen_drives, gateClose_drives, hp]
    unfold Gate.openDrive Gate.closeDrive
    constructor <;> cases (s.plant.gates.nth g).st <;> decide
  intro x t newSh newOp
  let v := t.base
  let ws := s.base.pins.shutLimit.nth g
  let wo := s.base.pins.openLimit.nth g
  let J := judgeLimits v g ws wo t.flow
  have hsh : v.pins.shutLimit.nth g = sh := Tbl.nth_put_same _ _ _
  have hop : v.pins.openLimit.nth g = op := Tbl.nth_put_same _ _ _
  have same : GateBecomes g t.flow t.flow x [] := gateBecomes_refl g t.flow
  have fault (c : GateCause) : GateBecomes g t.flow (faultGate v g c t.flow) (x.faulted c)
      [reportNow s.base .alarm 0x03 (u1 g.val ++ u1 c.code ++ u1 x.st.code ++ b1 sh ++ b1 op)] := by
    have := same.fault v c
    rw [hsh, hop] at this
    exact this
  have run : exec (.gateLimitInput g sh op) s = .next (t.conclude J) := by
    show execGateLimitInput g sh op s = _
    unfold execGateLimitInput
    dsimp only
    rw [if_pos hp]
  -- what the judgement leaves, once it is known which movement it takes
  have becomes {k : Flow} {y : Gate} {rs : List Report} (e : J = k) (h : GateBecomes g t.flow k y rs) :
      J.gates.nth g = y ∧ J.out = rs := by
    rw [e]
    exact ⟨h.gate, h.out⟩
  have shNew : (sh && !ws) = true ↔ newSh := by simp [newSh, ws]
  have opNew : (op && !wo) = true ↔ newOp := by simp [newOp, wo]
  obtain ⟨_, _, only⟩ := gateBecomes_judgeLimits v g ws wo t.flow
  refine ⟨J, run, only.only, fun st => ?_, fun st h1 h2 => ?_, fun st => ⟨fun h => ?_, fun h1 h2 => ?_⟩,
    fun st => ⟨fun h => ?_, fun h1 h2 => ?_⟩, fun st => ⟨fun h1 h2 => ?_, fun h n => ?_, fun h n => ?_⟩,
    fun st => ⟨fun h1 h2 => ?_, fun h n => ?_, fun h n => ?_⟩, fun st h => ⟨fun n => ?_, fun n1 n2 => ?_⟩⟩
  · exact becomes (judgeLimits_fault ws wo st) same
  · exact becomes (judgeLimits_both hsh hop ws wo (by rw [h1, h2]; rfl) st) (fault _)
  · exact becomes ((judgeLimits_shut hsh hop ws wo (by rw [h]; rfl) st).trans (if_neg (by simp [h]))) (fault _)
  · exact becomes ((judgeLimits_shut hsh hop ws wo (by rw [h2]; simp) st).trans (if_pos h1)) same
  · exact becomes ((judgeLimits_opened hsh hop ws wo (by rw [h]; simp) st).trans (if_neg (by simp [h]))) (fault _)
  · exact becomes ((judgeLimits_opened hsh hop ws wo (by rw [h2]; rfl) st).trans (if_pos h1)) same
  · exact becomes ((judgeLimits_opening hsh hop ws wo (by rw [h2]; rfl) st).trans (if_pos h1)) (same.reachOpen v)
  · exact becomes ((judgeLimits_opening hsh hop ws wo (by rw [h]; simp) st).trans
      ((if_neg (by simp [h])).trans (if_pos (shNew.mpr n)))) (fault _)
  · exact becomes ((judgeLimits_opening hsh hop ws wo (by rw [h]; simp) st).trans
      ((if_neg (by simp [h])).trans (if_neg (fun e => n (shNew.mp e))))) same
  · exact becomes ((judgeLimits_closing hsh hop ws wo (by rw [h2]; simp) st).trans (if_pos h1)) (same.reachShut v)
  · exact becomes ((judgeLimits_closing hsh hop ws wo (by rw [h]; rfl) st).trans
      ((if_neg (by simp [h])).trans (if_pos (opNew.mpr n)))) (fault _)
  · exact becomes ((judgeLimits_closing hsh hop ws wo (by rw [h]; rfl) st).trans
      ((if_neg (by simp [h])).trans (if_neg (fun e => n (opNew.mp e))))) same
  · exact becomes ((judgeLimits_stopped hsh hop ws wo (by obtain h | h := h <;> simp [h]) st).trans
      (if_pos (by rw [Bool.or_eq_true, shNew, opNew]; exact n))) (fault _)
  · exact becomes ((judgeLimits_stopped hsh hop ws wo (by obtain h | h := h <;> simp [h]) st).trans
      (if_neg (by rw [Bool.or_eq_true, shNew, opNew]; exact fun n => n.elim n1 n2))) same

end Sys2Proof.Machine
end

section
/-! The beam of a gate, and the Regime close that a gate left for its beam is sent (02/R29 to R31; 09/R163). -/

namespace Sys2Proof.Machine

/-! ## The Regime close (02/R31) -/

/-- Gate `g` alone has become `y`, the regime record apart, and the reports `rs` were raised. -/
structure GateAndRegime (g : Fin 4) (f k : Flow) (y : Gate) (rs : List Report) : Prop where
  plant : k.toPlant = { f.toPlant with gates := f.gates.put g y, regime := k.regime }
  out : k.out = f.out ++ rs

theorem GateBecomes.withRegime {g : Fin 4} {f k : Flow} {y : Gate} {rs : List Report} (h : GateBecomes g f k y rs)
    (fn : Regime → Regime) : GateAndRegime g f (setRegime fn k) y rs :=
  ⟨by rw [toPlant_setRegime, h.plant], h.out⟩

theorem GateBecomes.andRegime {g : Fin 4} {f k : Flow} {y : Gate} {rs : List Report} (h : GateBecomes g f k y rs) :
    GateAndRegime g f k y rs := by
  have e := congrArg Plant.regime h.plant
  have e : k.regime = f.regime := e
  exact ⟨by rw [e]; exact h.plant, h.out⟩

/-- An accepted Regime close is awaited. -/
theorem sendClose_accepted {v : Base} {g : Fin 4} {f k : Flow} {y : Gate} {rs : List Report} {f₀ : Flow}
    (e : regimeClose v g f = (.accepted, k)) (h : GateBecomes g f₀ k y rs) :
    GateAndRegime g f₀ (sendClose v g f) y rs := by
  unfold sendClose
  rw [e]
  exact h.withRegime _

/-- A refused one leaves the gate, which joins the left list. -/
theorem sendClose_refused {v : Base} {g : Fin 4} {f : Flow} {y : Gate} {rs : List Report} {f₀ : Flow}
    (e : regimeClose v g f = (.refused, f)) (h : GateBecomes g f₀ f y rs) :
    GateAndRegime g f₀ (sendClose v g f) y rs := by
  unfold sendClose
  rw [e]
  dsimp only
  split
  · exact h.withRegime _
  · exact h.andRegime

/-! ## A left gate re-examined (09/R163) -/

/-- The gate is on the left list for its beam or for members passing. -/
theorem listed_iff (left : List LeftEntry) (g : Fin 4) :
    (left.any fun e => !e.sluice && e.index == g && (e.reason == .beam || e.reason == .shifting)) = true ↔
      ⟨false, g, .beam⟩ ∈ left ∨ ⟨false, g, .shifting⟩ ∈ left := by
  simp only [List.any_eq_true, Bool.and_eq_true, Bool.not_eq_true', Bool.or_eq_true, beq_iff_eq]
  constructor
  · rintro ⟨⟨sl, i, r⟩, hm, ⟨rfl, rfl⟩, rfl | rfl⟩
    · exact .inl hm
    · exact .inr hm
  · rintro (hm | hm)
    · exact ⟨_, hm, ⟨rfl, rfl⟩, .inl rfl⟩
    · exact ⟨_, hm, ⟨rfl, rfl⟩, .inr rfl⟩

section Reexamine

variable {v : Base} {g : Fin 4} {f : Flow}

/-- The conditions under which a left gate is sent a Regime close. -/
def Reexamined (v : Base) (g : Fin 4) (p : Plant) : Prop :=
  p.regime.stoodDown = true ∧ (⟨false, g, .beam⟩ ∈ p.regime.left ∨ ⟨false, g, .shifting⟩ ∈ p.regime.left)
    ∧ v.pins.beam.nth g = false ∧ p.passingSet.nth g = false ∧ (p.gates.nth g).st ≠ .shut

theorem reexamineLeft_eq (v : Base) (g : Fin 4) (f : Flow) :
    (Reexamined v g f.toPlant → reexamineLeft v g f = sendClose v g f)
      ∧ (¬ Reexamined v g f.toPlant → reexamineLeft v g f = f) := by
  unfold reexamineLeft Reexamined
  dsimp only
  constructor
  · rintro ⟨down, listed, clear, still, st⟩
    rw [if_pos]
    simp only [down, (listed_iff _ _).mpr listed, clear, still, Bool.not_false, Bool.and_true]
    simpa using st
  · intro no
    rw [if_neg]
    intro yes
    simp only [Bool.and_eq_true, listed_iff, Bool.not_eq_true', bne_iff_ne] at yes
    obtain ⟨⟨⟨⟨down, listed⟩, clear⟩, still⟩, st⟩ := yes
    exact no ⟨down, listed, clear, still, st⟩

end Reexamine

/-! ## The beam (02/R29) -/

/-- A gate under a beam that does not stop it: of a STOPPED gate not held the beam-clear timer follows the beam. -/
def Gate.beamed (v : Base) (blocked : Bool) (x : Gate) : Gate :=
  if x.st = .stopped ∧ x.hold = false then
    { x with beamClear := if blocked = true then none else some (x.beamClear.getD v.elapsed) }
  else x

theorem st_beamed (v : Base) (blocked : Bool) (x : Gate) : (x.beamed v blocked).st = x.st := by
  unfold Gate.beamed
  split <;> rfl

theorem beamed_of_ne {v : Base} {blocked : Bool} {x : Gate} (h : x.st ≠ .stopped ∨ x.hold = true) :
    x.beamed v blocked = x := by
  unfold Gate.beamed
  rw [if_neg]
  rintro ⟨st, hold⟩
  obtain h | h := h
  · exact h st
  · rw [h] at hold; cases hold

section Beam

variable {v : Base} {g : Fin 4} {f : Flow} {blocked : Bool} (hb : v.pins.beam.nth g = blocked)

include hb

theorem judgeBeam_stops (h : blocked = true) (st : (f.gates.nth g).st = .closing) : judgeBeam v g f = obstruct v g f := by
  unfold judgeBeam
  simp only [st, hb, h, if_true]

theorem judgeBeam_leaves (h : blocked = false ∨ (f.gates.nth g).st ≠ .closing) :
    GateBecomes g f (judgeBeam v g f) ((f.gates.nth g).beamed v blocked) [] := by
  have same := gateBecomes_refl g f
  unfold judgeBeam
  dsimp only
  rw [hb]
  split
  · next st =>
    have clear : blocked = false := h.resolve_right (not_not.mpr st)
    rw [beamed_of_ne (.inl (by rw [st]; decide)), if_neg (by rw [clear]; decide)]
    exact same
  · next st =>
    split
    · next hold =>
      rw [beamed_of_ne (.inr hold)]
      exact same
    · next hold =>
      have t := same.set fun x => { x with beamClear := if blocked then none else some (x.beamClear.getD v.elapsed) }
      unfold Gate.beamed
      rw [if_pos ⟨st, by simpa using hold⟩]
      exact t
  · next _ st =>
    rw [beamed_of_ne (.inl st)]
    exact same

end Beam

/-! ## The Regime close by the state of the gate (02/R31) -/

section Close

variable {v : Base} {g : Fin 4} {f k : Flow} {y : Gate} {rs : List Report} (h : GateBecomes g f k y rs)

include h

theorem sendClose_kept (st : y.st = .fault ∨ y.st = .closing ∨ (y.st = .stopped ∧ y.hold = true)) :
    GateAndRegime g f (sendClose v g k) y rs := by
  obtain st | st | ⟨st, hold⟩ := st
  · exact sendClose_refused (by simp only [regimeClose, h.gate, st]) h
  · exact sendClose_accepted (by simp only [regimeClose, h.gate, st]) h
  · exact sendClose_refused (by simp only [regimeClose, h.gate, st, hold, if_true]) h

theorem sendClose_stopped (st : y.st = .stopped) (hold : y.hold = false) :
    GateAndRegime g f (sendClose v g k) { y with ask := none } rs :=
  sendClose_accepted (by simp only [regimeClose, h.gate, st, hold, Bool.false_eq_true, if_false]; rfl) (h.set _)

theorem sendClose_waits (st : y.st = .opening ∨ (y.st = .opened ∧ k.toPlant.gateLit g = true)) :
    GateAndRegime g f (sendClose v g k) { y with ask := some .regimeClose } rs := by
  obtain st | ⟨st, lit⟩ := st
  · exact sendClose_accepted (by simp only [regimeClose, h.gate, st]; rfl) (h.set _)
  · exact sendClose_accepted (by simp only [regimeClose, h.gate, st, lit, if_true]; rfl) (h.set _)

theorem sendClose_taken (st : y.st = .opened) (dark : k.toPlant.gateLit g = false) (hb : v.pins.beam.nth g = false) :
    GateAndRegime g f (sendClose v g k) { y with
        obstructions := 0, hold := false, limit := v.settings.travelLimit
        st := .closing, travel := some v.elapsed, beamClear := none, ask := none }
      (rs ++ [gateNow v g .closing y.owner]) :=
  sendClose_accepted (by simp only [regimeClose, h.gate, st, dark, Bool.false_eq_true, if_false])
    (h.takeClose_clear v hb)

end Close

theorem exec_beamInput {g : Fin 4} {blocked : Bool} {s : State} (hp : s.powered = true) :
    exec (.beamInput g blocked) s =
      (let t := s.withPins { s.base.pins with beam := s.base.pins.beam.put g blocked }
       .next (t.conclude (reexamineLeft t.base g (judgeBeam t.base g t.flow)))) := by
  show execBeamInput g blocked s = _
  unfold execBeamInput
  dsimp only
  rw [if_pos hp]

/-- Settles O32: a beam that stops the gate; one that does not, and the Regime close after it; the timer. -/
theorem beamStopsAndResumesTheGate : Obligations.BeamStopsAndResumesTheGate := by
  refine ⟨fun g s hp st => ?stops, fun g blocked s hp => ?_, fun g k s hp st hold hk due dark => ?resumes⟩
  case stops =>
    let t := s.withPins { s.base.pins with beam := s.base.pins.beam.put g true }
    have hb : t.base.pins.beam.nth g = true := Tbl.nth_put_same _ _ _
    have j : judgeBeam t.base g t.flow = obstruct t.base g t.flow := judgeBeam_stops hb rfl st
    have e : reexamineLeft t.base g (judgeBeam t.base g t.flow) = obstruct t.base g t.flow := by
      rw [j]
      refine (reexamineLeft_eq _ _ _).2 fun ⟨_, _, clear, _⟩ => ?_
      rw [hb] at clear
      cases clear
    have h := (gateBecomes_refl g t.flow).obstruct t.base _ rfl
    rw [hb] at h
    refine ⟨_, (exec_beamInput hp).trans (by dsimp only; rw [e]), h.only, ?_⟩
    rw [h.gate, h.out]
    refine ⟨rfl, rfl, by simp, rfl, decide_eq_true_iff, ?_, rfl⟩
    simp only [decide_eq_true_eq]
    rfl
  case resumes =>
    have h := (gateBecomes_refl g s.flow).startClosing s.base
    refine ⟨_, ?_, h.only, h.gate, h.out⟩
    show execBeamClearExpiry g s = _
    unfold execBeamClearExpiry
    dsimp only
    have run : ranFor s.base (some k) Config.beamClearTime = true := ranFor_iff.mpr due
    rw [if_pos (by rw [hp, st, hold, hk, run, dark]; rfl)]
  intro x still again leaves
  let t := s.withPins { s.base.pins with beam := s.base.pins.beam.put g blocked }
  have hb : t.base.pins.beam.nth g = blocked := Tbl.nth_put_same _ _ _
  have run := exec_beamInput (g := g) (blocked := blocked) hp
  let J := judgeBeam t.base g t.flow
  have judged (h : blocked = false ∨ x.st ≠ .closing) : GateBecomes g t.flow J still [] := judgeBeam_leaves hb h
  have stStill : still.st = x.st := st_beamed t.base blocked x
  have reexamined (h : blocked = false ∨ x.st ≠ .closing) : Reexamined t.base g J.toPlant ↔ again := by
    have st : (J.gates.nth g).st = x.st := by rw [(judged h).gate, stStill]
    have regime := congrArg Plant.regime (judged h).plant
    have regime : J.regime = s.plant.regime := regime
    have passing := congrArg Plant.passingSet (judged h).plant
    have passing : J.toPlant.passingSet = s.plant.passingSet := passing
    unfold Reexamined
    rw [regime, passing, hb, st]
    constructor
    · rintro ⟨down, listed, clear, still, st⟩
      exact ⟨clear, st, down, still, listed⟩
    · rintro ⟨clear, st, down, still, listed⟩
      exact ⟨down, listed, clear, still, st⟩
  have leave {y : Gate} {rs : List Report} (yes : again)
      (h : GateAndRegime g t.flow (sendClose t.base g J) y rs) : leaves y rs := by
    have e : reexamineLeft t.base g J = sendClose t.base g J :=
      (reexamineLeft_eq _ _ _).1 ((reexamined (.inl yes.1)).mpr yes)
    exact ⟨sendClose t.base g J, run.trans (by dsimp only; rw [e]), h.plant, fun no => absurd yes no, h.out⟩
  refine ⟨fun h no => ?_, fun yes => ⟨fun st => ?_, fun st hold => ?_, fun st => ?_, fun st dark => ?_⟩⟩
  · have e : reexamineLeft t.base g J = J := (reexamineLeft_eq _ _ _).2 fun r => no ((reexamined h).mp r)
    have regime := congrArg Plant.regime (judged h).plant
    exact ⟨J, run.trans (by dsimp only; rw [e]), (judged h).andRegime.plant, fun _ => regime, (judged h).out⟩
  all_goals have j := judged (.inl yes.1)
  · have e : still = x := by
      refine beamed_of_ne ?_
      obtain st | st | ⟨-, hold⟩ := st
      · exact .inl (by rw [st]; decide)
      · exact .inl (by rw [st]; decide)
      · exact .inr hold
    rw [e] at j
    exact leave yes (sendClose_kept j st)
  · refine leave yes (sendClose_stopped j (stStill.trans st) ?_)
    have e : still.hold = x.hold := by
      show (x.beamed t.base blocked).hold = _
      unfold Gate.beamed
      split <;> rfl
    rw [e, hold]
  · have e : still = x := by
      refine beamed_of_ne (.inl ?_)
      obtain st | ⟨st, -⟩ := st <;> rw [st] <;> decide
    rw [e] at j
    have lit := congrArg (fun p => p.gateLit g) j.plant
    refine leave yes (sendClose_waits j (st.imp_right fun ⟨st, l⟩ => ⟨st, ?_⟩))
    exact lit.trans l
  · have e : still = x := beamed_of_ne (.inl (by rw [st]; decide))
    rw [e] at j
    have lit := congrArg (fun p => p.gateLit g) j.plant
    exact leave yes (sendClose_taken j st (lit.trans dark) (hb.trans yes.1))

end Sys2Proof.Machine
end

section
/-! The sluices: their position inputs, and the keeper's commands to them (02/R35 to R42). -/

namespace Sys2Proof.Machine

/-! ## One sluice changed -/

/-- Of the blocks' state in `f`, sluice `g` alone has become `y` in `k`, and the reports `rs` were raised. -/
structure SluiceBecomes (g : Fin 4) (f k : Flow) (y : Sluice) (rs : List Report) : Prop where
  plant : k.toPlant = { f.toPlant with sluices := f.sluices.put g y }
  out : k.out = f.out ++ rs

theorem sluiceBecomes_refl (g : Fin 4) (f : Flow) : SluiceBecomes g f f (f.sluices.nth g) [] :=
  ⟨by rw [put_nth_self], by simp⟩

namespace SluiceBecomes

variable {g : Fin 4} {f k : Flow} {y : Sluice} {rs : List Report} (h : SluiceBecomes g f k y rs)

include h

theorem sluices : k.sluices = f.sluices.put g y := congrArg Plant.sluices h.plant

theorem sluice : k.sluices.nth g = y := by rw [h.sluices, Tbl.nth_put_same]

theorem only : OnlySluice g f.toPlant k.toPlant := by
  unfold OnlySluice
  rw [h.sluice]
  exact h.plant

theorem set (fn : Sluice → Sluice) : SluiceBecomes g f (setSluice g fn k) (fn y) rs := by
  constructor
  · have e : k.sluices.upd g fn = f.sluices.put g (fn y) := by rw [Tbl.upd, h.sluice, h.sluices, put_put_same]
    rw [toPlant_setSluice, e, h.plant]
  · rw [out_setSluice, h.out]

theorem told (v : Base) (c : RClass) (code : Nat) (fields : List Byte) :
    SluiceBecomes g f (raise v c code fields k) y (rs ++ [reportNow v c code fields]) :=
  ⟨h.plant, by rw [out_raise, h.out, List.append_assoc]; rfl⟩

theorem fault (v : Base) (cause : Nat) : SluiceBecomes g f (faultSluice v g cause k) { y with st := .fault, step := none }
    (rs ++ [reportNow v .alarm 0x05 (u1 g.val ++ u1 cause ++ u1 y.pos ++ u1 y.cmd)]) := by
  unfold faultSluice
  rw [h.sluice]
  exact (h.set _).told v _ _ _

theorem steady (v : Base) : SluiceBecomes g f (steadyReport v g k) y
    (rs ++ [reportNow v .water 0x49 (u1 g.val ++ u1 y.pos)]) := by
  unfold steadyReport
  rw [h.sluice]
  exact h.told v _ _ _

end SluiceBecomes

/-! ## The position input (02/R35, R36) -/

section Position

variable {v : Base} {g : Fin 4} {f : Flow} {code : Nat} (hc : (v.pins.sluicePos.nth g).val = code)

include hc

theorem judgePosition_kept (h : (f.sluices.nth g).st = .fault ∨ (code = (f.sluices.nth g).pos ∧ code ≤ 4)) :
    judgePosition v g f = f := by
  unfold judgePosition
  simp only [hc]
  obtain st | ⟨e, hi⟩ := h
  · simp only [st]
  · rw [if_neg (Nat.not_lt.mpr hi), if_neg (Nat.not_lt.mpr hi), if_neg (not_not.mpr e), if_pos e]
    split <;> rfl

theorem judgePosition_invalid (st : (f.sluices.nth g).st ≠ .fault) (h : 4 < code) :
    judgePosition v g f = faultSluice v g 3 f := by
  unfold judgePosition
  simp only [hc]
  rw [if_pos h, if_pos h]
  split <;> first | rfl | contradiction

theorem judgePosition_steady (st : (f.sluices.nth g).st = .steady) (hi : code ≤ 4) (ne : code ≠ (f.sluices.nth g).pos) :
    judgePosition v g f = faultSluice v g 2 (setSluice g (fun x => { x with pos := code }) f) := by
  unfold judgePosition
  simp only [hc, st]
  rw [if_neg (Nat.not_lt.mpr hi), if_pos ne]

section Moving

variable (st : (f.sluices.nth g).st = .moving) (hi : code ≤ 4) (ne : code ≠ (f.sluices.nth g).pos)

include st hi ne

theorem judgePosition_moves
    (next : code = if (f.sluices.nth g).pos < (f.sluices.nth g).cmd then (f.sluices.nth g).pos + 1 else (f.sluices.nth g).pos - 1)
    (short : code ≠ (f.sluices.nth g).cmd) :
    judgePosition v g f = setSluice g (fun x => { x with pos := code, step := some v.elapsed }) f := by
  unfold judgePosition
  simp only [hc, st]
  rw [if_neg (Nat.not_lt.mpr hi), if_neg ne, if_pos next, if_neg short]

theorem judgePosition_arrives
    (next : code = if (f.sluices.nth g).pos < (f.sluices.nth g).cmd then (f.sluices.nth g).pos + 1 else (f.sluices.nth g).pos - 1)
    (there : code = (f.sluices.nth g).cmd) : judgePosition v g f =
      steadyReport v g (setSluice g (fun x => { x with st := .steady, pos := code, step := none }) f) := by
  unfold judgePosition
  simp only [hc, st]
  rw [if_neg (Nat.not_lt.mpr hi), if_neg ne, if_pos next, if_pos there]

theorem judgePosition_wrong
    (next : code ≠ if (f.sluices.nth g).pos < (f.sluices.nth g).cmd then (f.sluices.nth g).pos + 1 else (f.sluices.nth g).pos - 1) :
    judgePosition v g f = faultSluice v g 1 (setSluice g (fun x => { x with pos := code }) f) := by
  unfold judgePosition
  simp only [hc, st]
  rw [if_neg (Nat.not_lt.mpr hi), if_neg ne, if_neg next]

end Moving

end Position

/-- A position input changes one sluice alone. -/
theorem sluiceBecomes_judgePosition (v : Base) (g : Fin 4) (f : Flow) :
    ∃ y rs, SluiceBecomes g f (judgePosition v g f) y rs := by
  have same := sluiceBecomes_refl g f
  unfold judgePosition
  dsimp only
  (repeat' split) <;> first
    | exact ⟨_, _, same⟩
    | exact ⟨_, _, same.fault v _⟩
    | exact ⟨_, _, (same.set _).fault v _⟩
    | exact ⟨_, _, (same.set _).steady v⟩
    | exact ⟨_, _, same.set _⟩

/-- Settles O34: the drives, the position input by the state of the sluice, and the time of a step. -/
theorem sluiceFollowsItsPositionInput : Obligations.SluiceFollowsItsPositionInput := by
  have input (g : Fin 4) (code : Fin 8) (s : State) (hp : s.powered = true) :
      let t := s.withPins { s.base.pins with sluicePos := s.base.pins.sluicePos.put g code }
      exec (.sluicePositionInput g code) s = .next (t.conclude (judgePosition t.base g t.flow))
        ∧ OnlySluice g s.plant (judgePosition t.base g t.flow).toPlant := by
    intro t
    obtain ⟨_, _, only⟩ := sluiceBecomes_judgePosition t.base g t.flow
    refine ⟨?_, only.only⟩
    show execSluicePositionInput g code s = _
    unfold execSluicePositionInput
    dsimp only
    rw [if_pos hp]
  refine ⟨fun g s hp => ?drives, fun g code s hp st => ?still, fun g code s hp st => ?moving, fun g k s hp st hk due => ?step⟩
  case drives =>
    rw [sluiceRaise_drives, sluiceLower_drives, hp]
    simp [Sluice.raiseDrive, Sluice.lowerDrive]
  case still =>
    intro x
    let t := s.withPins { s.base.pins with sluicePos := s.base.pins.sluicePos.put g code }
    have hc : (t.base.pins.sluicePos.nth g).val = code.val := congrArg Fin.val (Tbl.nth_put_same _ _ _)
    have same : SluiceBecomes g t.flow t.flow x [] := sluiceBecomes_refl g t.flow
    obtain ⟨run, only⟩ := input g code s hp
    refine ⟨_, run, only, fun h => ?_, fun st h => ?_, fun st hi ne => ?_⟩
    · have e := judgePosition_kept (f := t.flow) hc h
      rw [e]
      exact ⟨rfl, rfl⟩
    · have e := judgePosition_invalid (f := t.flow) hc (by rw [show (t.flow.sluices.nth g).st = .steady from st]; decide) h
      rw [e]
      exact ⟨(same.fault t.base 3).sluice, (same.fault t.base 3).out⟩
    · have e := judgePosition_steady (f := t.flow) hc st hi ne
      have b := (same.set fun x => { x with pos := code.val }).fault t.base 2
      rw [e]
      exact ⟨b.sluice, b.out⟩
  case moving =>
    intro x next
    let t := s.withPins { s.base.pins with sluicePos := s.base.pins.sluicePos.put g code }
    have hc : (t.base.pins.sluicePos.nth g).val = code.val := congrArg Fin.val (Tbl.nth_put_same _ _ _)
    have same : SluiceBecomes g t.flow t.flow x [] := sluiceBecomes_refl g t.flow
    have st : (t.flow.sluices.nth g).st = .moving := st
    obtain ⟨run, only⟩ := input g code s hp
    refine ⟨_, run, only, fun hi ne nx short => ?_, fun hi ne nx there => ?_, fun h => ?_, fun e hi => ?_, fun hi ne nx => ?_⟩
    · have e := judgePosition_moves hc st hi ne nx (fun c => short (nx.symm.trans c))
      have b := same.set fun x => { x with pos := code.val, step := some t.base.elapsed }
      rw [e]
      refine ⟨b.sluice.trans ?_, b.out⟩
      rw [show x.st = .moving from st]
      rfl
    · have e := judgePosition_arrives hc st hi ne nx (nx.trans there)
      have b := (same.set fun x => { x with st := .steady, pos := code.val, step := none }).steady t.base
      rw [e]
      exact ⟨b.sluice, b.out⟩
    · have e := judgePosition_invalid (f := t.flow) hc (by rw [st]; decide) h
      rw [e]
      exact ⟨(same.fault t.base 3).sluice, (same.fault t.base 3).out⟩
    · have e := judgePosition_kept (f := t.flow) hc (.inr ⟨e, hi⟩)
      rw [e]
      exact ⟨rfl, rfl⟩
    · have e := judgePosition_wrong hc st hi ne nx
      have b := (same.set fun x => { x with pos := code.val }).fault t.base 1
      rw [e]
      exact ⟨b.sluice, b.out⟩
  case step =>
    have b := (sluiceBecomes_refl g s.flow).fault s.base 0
    refine ⟨_, ?_, b.only, b.sluice, b.out⟩
    show execSluiceStepTimeout g s = _
    unfold execSluiceStepTimeout
    dsimp only
    have run : ranFor s.base (some k) Config.sluiceStepLimit = true := ranFor_iff.mpr due
    rw [if_pos (by rw [hp, st, hk, run]; rfl)]

end Sys2Proof.Machine
end

section
/-! The keeper's commands to the sluices, and a held opening (02/R37 to R42). -/

namespace Sys2Proof.Machine

/-! ## A commanded position (02/R35, R37, R41) -/

section Command

variable {v : Base} {g : Fin 4} {f k : Flow} {y : Sluice} {rs : List Report} (h : SluiceBecomes g f k y rs) (n : Nat)

include h

theorem commandSluice_fault (st : y.st = .fault) : commandSluice v g n k = k := by
  unfold commandSluice
  simp only [h.sluice, st]

/-- A STEADY sluice that stands there already, or whose opening is held. -/
theorem commandSluice_held (st : y.st = .steady)
    (hn : reducedTo k g n = y.pos ∨ (y.pos = 0 ∧ intervalMet v k.toPlant g = false)) :
    SluiceBecomes g f (commandSluice v g n k) { y with cmd := reducedTo k g n } rs := by
  unfold commandSluice
  simp only [h.sluice, st]
  rw [if_pos hn]
  simpa only [st] using h.set fun x => { x with cmd := reducedTo k g n }

/-- One that moves off. -/
theorem commandSluice_starts (st : y.st = .steady)
    (hn : ¬ (reducedTo k g n = y.pos ∨ (y.pos = 0 ∧ intervalMet v k.toPlant g = false))) :
    SluiceBecomes g f (commandSluice v g n k) ⟨.moving, y.pos, reducedTo k g n, some v.elapsed⟩ rs := by
  unfold commandSluice
  simp only [h.sluice, st]
  rw [if_neg hn]
  exact h.set fun x => { x with st := .moving, cmd := reducedTo k g n, step := some v.elapsed }

/-- Whatever its state, a sluice not in FAULT takes the position, and stands where it stood. -/
theorem sluiceBecomes_commandSluice (st : y.st ≠ .fault) : ∃ z qs, SluiceBecomes g f (commandSluice v g n k) z qs
    ∧ z.cmd = reducedTo k g n ∧ z.pos = y.pos ∧ z.st ≠ .fault := by
  unfold commandSluice
  dsimp only
  rw [h.sluice]
  split
  · contradiction
  · split
    · exact ⟨_, _, h.set _, rfl, rfl, st⟩
    · exact ⟨_, _, h.set _, rfl, rfl, by simp⟩
  · split
    · exact ⟨_, _, (h.set _).steady v, rfl, rfl, by simp⟩
    · split
      · exact ⟨_, _, h.set _, rfl, rfl, st⟩
      · exact ⟨_, _, h.set _, rfl, rfl, st⟩

end Command

/-! ## What the keeper may command (02/R39, R41, R42) -/

theorem intervalMet_iff {v : Base} {p : Plant} {g : Fin 4} : intervalMet v p g = true ↔
    ∀ a : Fin 4, (a = g ∨ (a.val + 1 = g.val ∨ g.val + 1 = a.val)) →
      (p.gates.nth a).lastShut + 10 * v.settings.gateInterval ≤ v.elapsed := by
  simp only [intervalMet, List.all_eq_true, List.mem_cons, mem_adjacent, decide_eq_true_eq]

theorem boundsOccupied_iff {p : Plant} {g : Fin 4} : p.boundsOccupied g = true ↔
    ∃ k, (k = g.val ∨ k = g.val + 1) ∧ 1 ≤ k ∧ k ≤ 3 ∧ p.occupants k ≠ [] := by
  have lower : (lowerBody g).val = g.val := rfl
  have upper : (upperBody g).val = g.val + 1 := rfl
  simp only [Plant.boundsOccupied, List.any_eq_true, List.mem_cons, List.not_mem_nil, or_false, lower, upper,
    Bool.and_eq_true, decide_eq_true_eq, Bool.not_eq_true', List.isEmpty_eq_false_iff, and_assoc]

/-- A connection stands at an adjacent gate, or a grant is held there. -/
theorem not_clear_iff {p : Plant} {g : Fin 4} : (!(p.clearOfConnections g && p.clearOfGrants g)) = true ↔
    ∃ a : Fin 4, (a.val + 1 = g.val ∨ g.val + 1 = a.val)
      ∧ (((p.gates.nth a).st ≠ .shut ∨ (p.sluices.nth a).st = .fault ∨ (p.sluices.nth a).pos ≠ 0)
        ∨ p.grants.nth a = true) := by
  have joined (a : Fin 4) : ((p.gates.nth a).st ≠ .shut ∨ (p.sluices.nth a).st = .fault ∨ (p.sluices.nth a).pos ≠ 0) ↔
      ¬ p.connected a = false := by
    rw [connected_false_iff, not_and_or, not_and_or, not_not]
  simp only [joined, Plant.clearOfConnections, Plant.clearOfGrants, Bool.not_eq_true', ← Bool.not_eq_true, Bool.and_eq_true,
    List.all_eq_true, mem_adjacent, not_and_or, not_forall, not_not, exists_prop, ← exists_or, ← and_or_left]

theorem sluiceBarred_iff {v : Base} {p : Plant} {g : Fin 4} {n : Nat} :
    sluiceBarred v p g n = true ↔ (p.channels.nth g).st ≠ .idle ∨ (p.sluices.nth g).st = .fault
      ∨ ((p.sluices.nth g).pos < n ∧ p.regime.mode = .auto)
      ∨ ((p.sluices.nth g).pos = 0 ∧ 0 < n ∧ ((∃ a : Fin 4, (a.val + 1 = g.val ∨ g.val + 1 = a.val)
          ∧ (((p.gates.nth a).st ≠ .shut ∨ (p.sluices.nth a).st = .fault ∨ (p.sluices.nth a).pos ≠ 0)
            ∨ p.grants.nth a = true)) ∨ intervalMet v p g = false)) := by
  unfold sluiceBarred
  dsimp only
  rw [Bool.or_eq_true, Bool.or_eq_true, Bool.or_eq_true, Bool.or_eq_true, Bool.and_eq_true, Bool.and_eq_true,
    Bool.and_eq_true, not_clear_iff, decide_eq_true_iff, bne_iff_ne, beq_iff_eq, decide_eq_true_iff, beq_iff_eq,
    Bool.not_eq_true', or_assoc, ← and_or_left, or_assoc, or_assoc, and_assoc]

/-- A command that is not barred finds the interval met where it opens the sluice. -/
theorem intervalMet_of_unbarred {v : Base} {p : Plant} {g : Fin 4} {n : Nat} (h : sluiceBarred v p g n = false)
    (hz : (p.sluices.nth g).pos = 0) (hn : 0 < n) : intervalMet v p g = true := by
  rw [← Bool.not_eq_true, sluiceBarred_iff] at h
  rw [← Bool.not_eq_false]
  exact fun c => h (.inr (.inr (.inr ⟨hz, hn, .inr c⟩)))

/-- Settles O35: the position command by what bars it; the reset by the input; the interval. -/
theorem keeperWorksSluices : Obligations.KeeperWorksSluices := by
  refine ⟨fun rq g n s adm => ⟨fun hn => ?_, fun hn bar => ?_, fun hn bar => ?_⟩, fun rq k n s adm hk => ⟨?_, ?_⟩,
    fun v p g n => ⟨intervalMet_iff, boundsOccupied_iff, sluiceBarred_iff⟩, fun rq g s adm => ⟨fun h => ?_, fun st hi => ?_⟩,
    fun g s hp st hz hc met => ?_⟩
  · exact congrArg _ (serve_refuse adm (by simp only [unit?_val, if_pos hn]; rfl))
  · exact congrArg _ (serve_refuse adm (by simp only [unit?_val, if_neg (Nat.not_lt.mpr hn), bar]; rfl))
  · intro x m
    have sound : x.st ≠ .fault := by
      rw [← Bool.not_eq_true, sluiceBarred_iff] at bar
      exact fun c => bar (.inr (.inl c))
    have same : SluiceBecomes g s.flow s.flow x [] := sluiceBecomes_refl g s.flow
    have reduced : reducedTo s.flow g n = m := rfl
    obtain ⟨z, _, b, cmd, pos, -⟩ := sluiceBecomes_commandSluice (v := s.base) same n sound
    refine ⟨commandSluice s.base g n s.flow, ?_, b.only, by rw [b.sluice, cmd, reduced], by rw [b.sluice, pos], fun st => ?_⟩
    · exact congrArg _ (serve_accept adm (by simp only [unit?_val, if_neg (Nat.not_lt.mpr hn), bar, reduced]; rfl))
    · by_cases there : m = x.pos
      · have held := commandSluice_held (v := s.base) same n st (.inl there)
        exact ⟨held.out, by rw [held.sluice, if_pos there, reduced]⟩
      · have starts := commandSluice_starts (v := s.base) same n st (by
          rintro (e | ⟨hz, no⟩)
          · exact there e
          · have pos : 0 < n := by
              by_contra c
              obtain rfl : n = 0 := by omega
              exact there (by rw [hz]; rfl)
            rw [toPlant_flow, intervalMet_of_unbarred bar hz pos] at no
            cases no)
        exact ⟨starts.out, by rw [starts.sluice, if_neg there, reduced]⟩
  · have e : unit? 4 k = none := by simp [unit?]; omega
    exact congrArg _ (serve_refuse adm (by simp only [e]; rfl))
  · have e : unit? 4 k = none := by simp [unit?]; omega
    exact congrArg _ (serve_refuse adm (by simp only [e]; rfl))
  · refine congrArg _ (serve_refuse adm ?_)
    simp only [unit?_val]
    exact if_pos h
  · have b := (sluiceBecomes_refl g s.flow).set fun _ =>
      ⟨.steady, (s.base.pins.sluicePos.nth g).val, (s.base.pins.sluicePos.nth g).val, none⟩
    refine ⟨_, congrArg _ (serve_accept adm ?_), b.only, b.sluice, b.out⟩
    simp only [unit?_val]
    exact if_neg (by rintro (c | c); exacts [c st, by omega])
  · have b := (sluiceBecomes_refl g s.flow).set fun x => { x with st := .moving, step := some s.base.elapsed }
    refine ⟨_, ?_, b.only, b.sluice, b.out⟩
    show execIntervalMet g s = _
    unfold execIntervalMet startHeld
    rw [if_pos hp]
    refine congrArg (fun f => Host.Outcome.next (s.conclude f)) (if_pos ⟨st, hz, hc, met⟩)

end Sys2Proof.Machine
end

section
/-! What the Levelling Unit's operations make of one channel and of its sluice; its timers (03/R46 to R58). -/

namespace Sys2Proof.Machine

/-! ## One channel and its sluice changed -/

/-- Of the blocks' state in `f`, channel `g` alone has become `c` in `k` and its sluice `y`, and the reports `rs` were
raised. -/
structure ChannelBecomes (g : Fin 4) (f k : Flow) (c : Channel) (y : Sluice) (rs : List Report) : Prop where
  plant : k.toPlant = { f.toPlant with channels := f.channels.put g c, sluices := f.sluices.put g y }
  out : k.out = f.out ++ rs

/-- `z` stands where `y` stood: it has taken the commanded position `n`, or is in FAULT and as it was. -/
structure Commanded (n : Nat) (y z : Sluice) : Prop where
  taken : y.st ≠ .fault → z.cmd = n ∧ z.st ≠ .fault
  stands : y.st = .fault → z = y
  pos : z.pos = y.pos

theorem channelBecomes_refl (g : Fin 4) (f : Flow) :
    ChannelBecomes g f f (f.channels.nth g) (f.sluices.nth g) [] :=
  ⟨by rw [put_nth_self, put_nth_self], by simp⟩

theorem reducedTo_of_lt {f : Flow} {g : Fin 4} {n : Nat} (h : n < 4) : reducedTo f g n = n :=
  if_neg fun c => absurd c.1 (Nat.ne_of_lt h)

theorem reducedTo_of_le_max {f : Flow} {g : Fin 4} {n : Nat} (h : n ≤ f.toPlant.maxPosition g) : reducedTo f g n = n := by
  refine if_neg fun c => ?_
  rw [Plant.maxPosition, if_pos c.2] at h
  omega

namespace ChannelBecomes

variable {g : Fin 4} {f k : Flow} {c : Channel} {y : Sluice} {rs : List Report} (h : ChannelBecomes g f k c y rs)

include h

theorem channel : k.channels.nth g = c := by
  rw [show k.channels = _ from congrArg Plant.channels h.plant, Tbl.nth_put_same]

theorem sluice : k.sluices.nth g = y := by
  rw [show k.sluices = _ from congrArg Plant.sluices h.plant, Tbl.nth_put_same]

theorem sched : k.sched = f.sched := by
  have e := congrArg Plant.sched h.plant
  exact e

theorem grants : k.grants = f.grants := by
  have e := congrArg Plant.grants h.plant
  exact e

theorem waiting : k.waiting = f.waiting := by
  have e := congrArg Plant.waiting h.plant
  exact e

theorem set (fn : Channel → Channel) : ChannelBecomes g f (setChannel g fn k) (fn c) y rs := by
  constructor
  · have e : k.channels.upd g fn = f.channels.put g (fn c) := by
      rw [Tbl.upd, h.channel, show k.channels = _ from congrArg Plant.channels h.plant, put_put_same]
    rw [toPlant_setChannel, e, h.plant]
  · rw [out_setChannel, h.out]

theorem told (v : Base) (cl : RClass) (code : Nat) (fields : List Byte) :
    ChannelBecomes g f (raise v cl code fields k) c y (rs ++ [reportNow v cl code fields]) :=
  ⟨h.plant, by rw [out_raise, h.out, List.append_assoc]; rfl⟩

theorem after_sluice {m : Flow} {z : Sluice} {qs : List Report} (b : SluiceBecomes g k m z qs) :
    ChannelBecomes g f m c z (rs ++ qs) := by
  constructor
  · have e : k.sluices.put g z = f.sluices.put g z := by
      rw [show k.sluices = _ from congrArg Plant.sluices h.plant, put_put_same]
    rw [b.plant, e, h.plant]
  · rw [b.out, h.out, List.append_assoc]

/-- A channel that keeps its state moves without a report. -/
theorem move_same (v : Base) {d : Channel} (e : d.st = c.st) : ChannelBecomes g f (moveChannel v g d k) d y rs := by
  unfold moveChannel
  dsimp only
  rw [h.channel, if_neg (not_not.mpr e)]
  exact h.set _

/-- One that changes it raises LEVELLING_STATE. -/
theorem move_told (v : Base) {d : Channel} (e : d.st ≠ c.st) : ChannelBecomes g f (moveChannel v g d k) d y
    (rs ++ [reportNow v .water 0x4A (u1 g.val ++ u1 c.st.code ++ u1 d.st.code
      ++ purposeBytes (if d.req.isSome then d.req else c.req) ++ lvl2 (v.scanner.heads.nth g).value)]) := by
  unfold moveChannel
  dsimp only
  rw [h.channel, if_pos e]
  exact (h.set _).told v _ _ _

theorem move (v : Base) (d : Channel) : ∃ qs, ChannelBecomes g f (moveChannel v g d k) d y qs := by
  by_cases e : d.st = c.st
  · exact ⟨_, h.move_same v e⟩
  · exact ⟨_, h.move_told v e⟩

theorem command (v : Base) (n : Nat) : ∃ z qs, Commanded (reducedTo k g n) y z
    ∧ ChannelBecomes g f (channelCommand v g n k) { c with cmd := reducedTo k g n } z (rs ++ qs) := by
  have b := h.set fun c => { c with cmd := reducedTo k g n }
  have same := sluiceBecomes_refl g (setChannel g (fun c => { c with cmd := reducedTo k g n }) k)
  rw [b.sluice] at same
  by_cases st : y.st = .fault
  · refine ⟨y, [], ⟨fun c => absurd st c, fun _ => rfl, rfl⟩, ?_⟩
    have e : channelCommand v g n k = _ := commandSluice_fault (v := v) same n st
    rw [e]
    exact b.after_sluice same
  · obtain ⟨z, qs, s, cmd, pos, sound⟩ := sluiceBecomes_commandSluice (v := v) same n st
    exact ⟨z, qs, ⟨fun _ => ⟨cmd, sound⟩, fun c => absurd c st, pos⟩, b.after_sluice s⟩

/-- A move, and then a command below 4. -/
theorem move_command (v : Base) (d : Channel) {n : Nat} (hn : n < 4) : ∃ z qs, Commanded n y z
    ∧ ChannelBecomes g f (channelCommand v g n (moveChannel v g d k)) { d with cmd := n } z qs := by
  obtain ⟨_, b⟩ := h.move v d
  obtain ⟨z, qs, hz, b⟩ := b.command v n
  rw [reducedTo_of_lt hn] at hz b
  exact ⟨z, _, hz, b⟩

/-- The levelling proper begins (03/R49, R50). -/
theorem begins (v : Base) (hu : levelsUsable v g c.req = true) : ∃ z qs, Commanded 1 y z
    ∧ ChannelBecomes g f (check5 v g k) { c with
        start := some v.elapsed, limit := some v.settings.levelTimeLimit, stepT := none, settleT := none, surge := 0,
        opened := false, reached := decide (1 ≤ y.pos), far := aboveBand v g, st := .running, susp := none, cmd := 1 }
      z qs := by
  unfold check5
  dsimp only
  rw [h.channel, h.sluice, if_pos hu]
  exact h.move_command v _ (by decide)

/-- With a level lost it is suspended at once. -/
theorem begins_suspended (v : Base) (hu : ¬ levelsUsable v g c.req = true) : ∃ z qs, Commanded 0 y z
    ∧ ChannelBecomes g f (check5 v g k) { c with
        start := some v.elapsed, limit := some v.settings.levelTimeLimit, stepT := none, settleT := none, surge := 0,
        opened := false, reached := decide (1 ≤ y.pos), far := aboveBand v g, st := .suspended, susp := some v.elapsed,
        cmd := 0 } z qs := by
  unfold check5
  dsimp only
  rw [h.channel, h.sluice, if_neg hu]
  exact h.move_command v _ (by decide)

/-- A channel that waits for water (03/R48). -/
theorem waits (v : Base) (mark : Permit) : ∃ z qs, Commanded 0 y z
    ∧ ChannelBecomes g f (waitWater v g mark k) { c with
        st := .waitingWater, permit := mark, start := none, limit := none, stepT := none, settleT := none, surge := 0,
        susp := none, opened := false, cmd := 0 } z qs := by
  unfold waitWater
  dsimp only
  rw [h.channel]
  exact h.move_command v _ (by decide)

/-- A levelling suspended (03/R57). -/
theorem suspends (v : Base) : ∃ z qs, Commanded 0 y z
    ∧ ChannelBecomes g f (suspend v g k) { c with
        st := .suspended, stepT := none, settleT := none, surge := 0, susp := some v.elapsed, cmd := 0 } z qs := by
  unfold suspend
  dsimp only
  rw [h.channel]
  exact h.move_command v _ (by decide)

end ChannelBecomes

/-! ## A levelling that fails (03/R56, R58) -/

/-- A channel off the waiting list, its permit request withdrawn. -/
def withdrawn (g : Fin 4) (f : Flow) : Flow :=
  if (f.channels.nth g).st = .waitingWater then withdrawPermit g (leaveWaiting g f) else leaveWaiting g f

theorem withdrawPermit_leaves (g : Fin 4) (f : Flow) :
    ∃ p, (withdrawPermit g f).toPlant = { f.toPlant with sched := { f.sched with permit := p } }
      ∧ (withdrawPermit g f).out = f.out := by
  unfold withdrawPermit
  split
  · exact ⟨none, rfl, rfl⟩
  · exact ⟨f.sched.permit, rfl, rfl⟩

theorem withdrawn_leaves (g : Fin 4) (f : Flow) :
    ∃ p, (withdrawn g f).toPlant = { f.toPlant with waiting := f.waiting.filter (· ≠ g), sched := { f.sched with permit := p } }
      ∧ (withdrawn g f).out = f.out := by
  unfold withdrawn
  split
  · exact withdrawPermit_leaves g (leaveWaiting g f)
  · exact ⟨f.sched.permit, rfl, rfl⟩

/-- What `withdrawn` leaves of the blocks' state. -/
theorem withdrawn_keeps (g : Fin 4) (f : Flow) : (withdrawn g f).channels = f.channels
    ∧ (withdrawn g f).sluices = f.sluices ∧ (withdrawn g f).grants = f.grants ∧ (withdrawn g f).out = f.out := by
  obtain ⟨p, e, o⟩ := withdrawn_leaves g f
  have ec := congrArg Plant.channels e
  have es := congrArg Plant.sluices e
  have eg := congrArg Plant.grants e
  exact ⟨ec, es, eg, o⟩

/-- LEVELLING_FAILED of a channel. -/
def failedReport (v : Base) (g : Fin 4) (cause : ChanCause) (c : Channel) : Report :=
  reportNow v .alarm 0x06 (u1 g.val ++ u1 cause.code ++ purposeBytes c.req ++ lvl2 (v.scanner.heads.nth g).value ++ u1 c.cmd)

theorem channelBecomes_fail (v : Base) (g : Fin 4) (cause : ChanCause) (f : Flow) :
    ∃ z qs, Commanded 0 (f.sluices.nth g) z
    ∧ ChannelBecomes g (withdrawn g f) (failChannel v g cause f) { f.channels.nth g with
        st := .failed, stepT := none, settleT := none, surge := 0, susp := none, cause := some cause,
        permit := if (f.channels.nth g).permit = .asked then .undecided else (f.channels.nth g).permit, cmd := 0 }
      z (qs ++ [failedReport v g cause (f.channels.nth g)]) := by
  obtain ⟨ec, es, -, -⟩ := withdrawn_keeps g f
  have b := channelBecomes_refl g (withdrawn g f)
  rw [ec, es] at b
  obtain ⟨z, qs, hz, b⟩ := (b.set fun c => { c with
    st := .failed, stepT := none, settleT := none, surge := 0, susp := none, cause := some cause,
    permit := if c.permit = .asked then .undecided else c.permit }).command v 0
  rw [reducedTo_of_lt (by decide)] at hz b
  exact ⟨z, _, hz, b.told v _ _ _⟩

/-- Settles O38: both timers fail the levelling. -/
theorem levellingFailsOnItsTimers : Obligations.LevellingFailsOnItsTimers := by
  intro g k s hp fails
  have failing (c : Instr) (why : ChanCause) (run : exec c s = .next (s.conclude (failChannel s.base g why s.flow))) :
      fails c why := by
    obtain ⟨z, qs, hz, b⟩ := channelBecomes_fail s.base g why s.flow
    obtain ⟨-, -, eg, eo⟩ := withdrawn_keeps g s.flow
    have water := ((watery_rules s.flow).failChannel (Watery.refl s.flow) s.base (g := g) trivial why).water
    refine ⟨_, run, water, ?_, ?_, ?_, ?_, ?_, ?_, ?_, b.grants.trans eg, fun st => ?_, qs, ?_⟩
    case refine_8 =>
      rw [b.sluice]
      exact (hz.taken st).1
    case refine_9 =>
      rw [b.out, eo]
      rfl
    case refine_7 =>
      rw [b.channel]
      rfl
    all_goals rw [b.channel]
  refine ⟨fun st start limit hl due => failing _ _ ?_, fun st susp due => failing _ _ ?_⟩
  · show execLevellingTimeLimit g s = _
    unfold execLevellingTimeLimit
    have run : ranFor s.base (some k) (10 * limit) = true := ranFor_iff.mpr due
    dsimp only
    rw [if_pos (by
      rw [hp, start, hl, Option.any_some, run]
      obtain e | e | e := st <;> rw [e] <;> rfl)]
  · show execSuspensionTimeout g s = _
    unfold execSuspensionTimeout
    have run : ranFor s.base (some k) Config.resumeWindow = true := ranFor_iff.mpr due
    dsimp only
    rw [if_pos (by rw [hp, st, susp, run]; rfl)]

/-- LEVELLING_STATE of a hold that completes. -/
def levelReport (v : Base) (g : Fin 4) (c : Channel) : Report :=
  reportNow v .water 0x4A (u1 g.val ++ u1 4 ++ u1 5 ++ purposeBytes c.req ++ lvl2 (v.scanner.heads.nth g).value)

/-- A hold completes (03/R54). -/
theorem ChannelBecomes.completes {g : Fin 4} {f k : Flow} {c : Channel} {y : Sluice} {rs : List Report}
    (h : ChannelBecomes g f k c y rs) (v : Base) (st : c.st = .holding) : ∃ z qs, Commanded 0 y z
    ∧ ChannelBecomes g f (completeLevelling v g k) { c with
        st := .level, stepT := none, settleT := none, surge := 0, opened := false, cmd := 0 }
      z (rs ++ [levelReport v g c] ++ qs) := by
  unfold completeLevelling levelReport
  dsimp only
  rw [h.channel]
  have b := h.move_told v (d := { c with st := .level, stepT := none, settleT := none, surge := 0, opened := false })
    (by rw [st]; simp)
  obtain ⟨z, qs, hz, b⟩ := b.command v 0
  rw [reducedTo_of_lt (by decide), st, show (if c.req.isSome = true then c.req else c.req) = c.req from ite_self _] at b
  rw [reducedTo_of_lt (by decide)] at hz
  exact ⟨z, qs, hz, b⟩

/-- Settles O37: the hold completes. -/
theorem completedHoldIsLevel : Obligations.CompletedHoldIsLevel := by
  intro g k s hp st settle due
  obtain ⟨z, qs, hz, b⟩ := (channelBecomes_refl g s.flow).completes s.base st
  have watery := (watery_rules s.flow).completeLevelling (Watery.refl s.flow) s.base (g := g) trivial
  generalize hk : completeLevelling s.base g s.flow = m at watery b
  have dir : m.sched.dir = s.plant.sched.dir := by rw [watery.sched]; rfl
  have opp : m.opp = false := watery.opp
  have answer (p : Flow) (hp : p.toPlant = m.toPlant) (ho : p.out = m.out) :
      OnlyWater s.plant p.toPlant ∧ (p.channels.nth g).st = .level ∧ (p.channels.nth g).cmd = 0
      ∧ (p.channels.nth g).opened = false ∧ (p.channels.nth g).req = (s.plant.channels.nth g).req
      ∧ p.grants = s.plant.grants ∧ ((s.plant.sluices.nth g).st ≠ .fault → (p.sluices.nth g).cmd = 0)
      ∧ ∃ more, p.out = reportNow s.base .water 0x4A (u1 g.val ++ u1 4 ++ u1 5
        ++ purposeBytes (s.plant.channels.nth g).req ++ lvl2 (s.base.scanner.heads.nth g).value) :: more := by
    rw [hp, ho, b.channel, b.sluice, b.out]
    exact ⟨watery.water, rfl, rfl, rfl, rfl, b.grants, fun st => (hz.taken st).1, qs, rfl⟩
  have run : exec (.levellingComplete g) s
      = .next (s.conclude (if g = m.sched.dir.entryGate then askOpportunity m else m)) := by
    show execLevellingComplete g s = _
    unfold execLevellingComplete
    have run : ranFor s.base (some k) (10 * s.base.settings.settleTime) = true := ranFor_iff.mpr due
    dsimp only
    rw [if_pos (by rw [hp, st, settle, run]; rfl), hk]
  rw [dir] at run
  by_cases e : g = s.plant.sched.dir.entryGate
  · rw [if_pos e] at run
    obtain ⟨h1, h2, h3, h4, h5, h6, h7, h8⟩ := answer (askOpportunity m) rfl rfl
    exact ⟨_, run, h1, h2, h3, h4, h5, h6, h7, ⟨fun _ => e, fun _ => rfl⟩, h8⟩
  · rw [if_neg e] at run
    obtain ⟨h1, h2, h3, h4, h5, h6, h7, h8⟩ := answer m rfl rfl
    exact ⟨_, run, h1, h2, h3, h4, h5, h6, h7, ⟨fun c => absurd (opp.symm.trans c) (by decide), fun c => absurd c e⟩, h8⟩

end Sys2Proof.Machine
end

section
/-! Grants and the waiting list, and the keeper's commands to the channels (02/R40; 03/R46, R47, R58, R59, R62). -/

namespace Sys2Proof.Machine

/-! ## What the keeper may start (03/R62) -/

theorem levelsUsable_keeper {v : Base} {g : Fin 4} : levelsUsable v g (some .keeper) = false ↔
    ((v.scanner.bodies.nth (lowerBody g)).status = .doubtful ∨ (v.scanner.bodies.nth (lowerBody g)).status = .fault)
    ∨ ((v.scanner.bodies.nth (upperBody g)).status = .doubtful ∨ (v.scanner.bodies.nth (upperBody g)).status = .fault) := by
  have lost (b : BodyStatus) : b.usableForcing = false ↔ b = .doubtful ∨ b = .fault := by cases b <;> decide
  rw [levelsUsable, if_pos rfl, Bool.and_eq_false_iff, lost, lost]

theorem levelStartBarred_iff {v : Base} {p : Plant} {g : Fin 4} : levelStartBarred v p g = true ↔
    p.regime.mode = .auto ∨ (p.channels.nth g).st ≠ .idle ∨ (p.gates.nth g).st ≠ .shut
      ∨ levelsUsable v g (some .keeper) = false := by
  rw [levelStartBarred, Bool.or_eq_true, Bool.or_eq_true, Bool.or_eq_true, beq_iff_eq, bne_iff_ne, bne_iff_ne,
    Bool.not_eq_true', or_assoc, or_assoc]

/-! ## Grants (02/R40) -/

section Grants

variable {g : Fin 4} {f : Flow}

theorem grantable_iff : grantable f g = true ↔ ∀ a : Fin 4, (a.val + 1 = g.val ∨ g.val + 1 = a.val) →
    ¬ ((f.gates.nth a).st ≠ .shut ∨ (f.sluices.nth a).st = .fault ∨ (f.sluices.nth a).pos ≠ 0)
      ∧ f.grants.nth a = false := by
  have joined (a : Fin 4) : ¬ ((f.gates.nth a).st ≠ .shut ∨ (f.sluices.nth a).st = .fault ∨ (f.sluices.nth a).pos ≠ 0) ↔
      (f.gates.nth a).st = .shut ∧ (f.sluices.nth a).st ≠ .fault ∧ (f.sluices.nth a).pos = 0 := by
    rw [not_or, not_or, not_not, not_not]
  rw [grantable, Bool.and_eq_true, clearOfConnections_iff, clearOfGrants_iff]
  exact ⟨fun h a ha => ⟨(joined a).mpr (h.1 a ha), h.2 a ha⟩,
    fun h => ⟨fun a ha => (joined a).mp (h a ha).1, fun a ha => (h a ha).2⟩⟩

theorem sharesBody_iff {a : Fin 4} : sharesBody a g = true ↔ a = g ∨ (a.val + 1 = g.val ∨ g.val + 1 = a.val) := by
  rw [sharesBody, Bool.or_eq_true, beq_iff_eq, List.contains_iff_mem, mem_adjacent]

theorem requestGrant_held (h : f.grants.nth g = true) : requestGrant g f = (true, f) := by
  rw [requestGrant, if_pos h]

theorem requestGrant_listed (h : f.grants.nth g = false) (hw : g ∈ f.waiting) : requestGrant g f = (false, f) := by
  rw [requestGrant, if_neg (by simp [h]), if_pos (List.contains_iff_mem.mpr hw)]

theorem requestGrant_clear (h : f.grants.nth g = false) (hc : grantable f g = true)
    (hw : ∀ a ∈ f.waiting, sharesBody a g = false) :
    requestGrant g f = (true, { f with grants := f.grants.put g true }) := by
  have self : sharesBody g g = true := sharesBody_iff.mpr (.inl rfl)
  have out : ¬ f.waiting.contains g = true := fun c => by
    rw [hw g (List.contains_iff_mem.mp c)] at self
    cases self
  have none : f.waiting.any (fun a => sharesBody a g) = false := List.any_eq_false.mpr fun a ha => by rw [hw a ha]; simp
  rw [requestGrant, if_neg (by simp [h]), if_neg out, if_pos (by rw [hc, none]; rfl)]

theorem requestGrant_barred (h : f.grants.nth g = false) (hw : g ∉ f.waiting)
    (hb : ¬ grantable f g = true ∨ ∃ a ∈ f.waiting, sharesBody a g = true) :
    requestGrant g f = (false, { f with waiting := f.waiting ++ [g] }) := by
  obtain ⟨c, -⟩ | ⟨-, c, -⟩ | ⟨-, -, hc, hs, -⟩ | ⟨-, -, -, e⟩ := requestGrant_cases f g
  · rw [h] at c
    cases c
  · exact absurd c hw
  · obtain n | ⟨a, ha, n⟩ := hb
    · exact absurd hc n
    · rw [hs a ha] at n
      cases n
  · exact e

/-- The test of a review (02/R40). -/
theorem review_test {older : List (Fin 4)} : (grantable f g && !(older.any fun a => sharesBody a g)) = true ↔
    grantable f g = true ∧ ∀ a ∈ older, ¬ sharesBody a g = true := by
  rw [Bool.and_eq_true, Bool.not_eq_true', List.any_eq_false]

/-- The grant of a channel depends on neither the channels nor the reports. -/
theorem requestGrant_setChannel (fn : Channel → Channel) :
    (requestGrant g (setChannel g fn f)).1 = (requestGrant g f).1 := by
  unfold requestGrant
  simp only [apply_ite Prod.fst]
  rfl

/-- A request for a grant leaves the channels and the sluices. -/
theorem requestGrant_keeps : (requestGrant g f).2.channels = f.channels ∧ (requestGrant g f).2.sluices = f.sluices := by
  obtain ⟨-, e⟩ | ⟨-, -, e⟩ | ⟨-, -, -, -, e⟩ | ⟨-, -, -, e⟩ := requestGrant_cases f g <;> rw [e] <;> exact ⟨rfl, rfl⟩

end Grants

/-! ## The start checks (03/R46 to R49; 06/R114) -/

section Checks

variable {v : Base} {g : Fin 4} {f : Flow}

theorem askPermit_given {p : Purpose} (h : permitDeferral v f.sched = none) : askPermit v p f = (true, giveDraw v p f) := by
  rw [askPermit, h]

theorem askPermit_deferred {p : Purpose} {d : Deferral} (h : permitDeferral v f.sched = some d) :
    askPermit v p f = (false, deferReport v d (setSched (fun s => { s with permit := some ⟨p, v.elapsed, d⟩ }) f)) := by
  rw [askPermit, h]

theorem check4_unneeded (h : g ≠ 3 ∨ (headUsable v g (f.channels.nth g).req = true ∧ headValue v g ≤ 0)) :
    check4 v g f = check5 v g (setChannel g (fun c => { c with permit := .notNeeded }) f) := by
  unfold check4
  dsimp only
  by_cases e : g ≠ 3
  · rw [if_pos e]
  · obtain h | ⟨hu, hv⟩ := h
    · exact absurd h e
    · rw [if_neg e, if_neg (by rw [hu]; decide), if_pos hv]

theorem check4_unread (e : g = 3) (h : headUsable v g (f.channels.nth g).req = false) :
    check4 v g f = waitWater v g .undecided f := by
  unfold check4
  dsimp only
  rw [if_neg (not_not.mpr e), if_pos h]

section Upstream

variable (e : g = 3) (hu : headUsable v g (f.channels.nth g).req = true) (hv : 0 < headValue v g)

include e hu hv

theorem check4_given (h : permitDeferral v f.sched = none) : check4 v g f =
    check5 v g (setChannel g (fun c => { c with permit := .given }) (giveDraw v ((f.channels.nth g).req.getD .keeper) f)) := by
  unfold check4
  dsimp only
  rw [if_neg (not_not.mpr e), if_neg (by rw [hu]; decide), if_neg (by omega), askPermit_given h]

theorem check4_deferred {d : Deferral} (h : permitDeferral v f.sched = some d) : check4 v g f =
    waitWater v g .asked (deferReport v d
      (setSched (fun s => { s with permit := some ⟨(f.channels.nth g).req.getD .keeper, v.elapsed, d⟩ }) f)) := by
  unfold check4
  dsimp only
  rw [if_neg (not_not.mpr e), if_neg (by rw [hu]; decide), if_neg (by omega), askPermit_deferred h]

end Upstream

/-- Check 4 goes on to check 5, or the channel waits for water; the channels and sluices stand till then. -/
theorem check4_cases (v : Base) (g : Fin 4) (f : Flow) : ∃ k : Flow, (k.channels = f.channels ∧ k.sluices = f.sluices)
    ∧ ∃ m, check4 v g f = check5 v g (setChannel g (fun c => { c with permit := m }) k)
      ∨ check4 v g f = waitWater v g m k := by
  by_cases e : g = 3
  · by_cases hu : headUsable v g (f.channels.nth g).req = true
    · by_cases hv : headValue v g ≤ 0
      · exact ⟨f, ⟨rfl, rfl⟩, .notNeeded, .inl (check4_unneeded (.inr ⟨hu, hv⟩))⟩
      · cases h : permitDeferral v f.sched with
        | none =>
          exact ⟨giveDraw v ((f.channels.nth g).req.getD .keeper) f, ⟨rfl, rfl⟩, .given,
            .inl (check4_given e hu (by omega) h)⟩
        | some d =>
          exact ⟨deferReport v d (setSched (fun s =>
              { s with permit := some ⟨(f.channels.nth g).req.getD .keeper, v.elapsed, d⟩ }) f), ⟨rfl, rfl⟩, .asked,
            .inr (check4_deferred e hu (by omega) h)⟩
    · exact ⟨f, ⟨rfl, rfl⟩, .undecided, .inr (check4_unread e (by simpa using hu))⟩
  · exact ⟨f, ⟨rfl, rfl⟩, .notNeeded, .inl (check4_unneeded (.inl e))⟩

/-- What the checks leave of channel `g` and its sluice, whose record was `y`. -/
structure Started (p : Purpose) (sts : List ChanSt) (g : Fin 4) (y : Sluice) (m : Flow) : Prop where
  req : (m.channels.nth g).req = some p
  st : (m.channels.nth g).st ∈ sts
  sluice : ∃ n, Commanded n y (m.sluices.nth g)

theorem started_check5 {p : Purpose} (h : (f.channels.nth g).req = some p) :
    Started p [.running, .suspended] g (f.sluices.nth g) (check5 v g f) := by
  by_cases hu : levelsUsable v g (f.channels.nth g).req = true
  · obtain ⟨z, qs, hz, b⟩ := (channelBecomes_refl g f).begins v hu
    exact ⟨by rw [b.channel]; exact h, by rw [b.channel]; simp, _, by rw [b.sluice]; exact hz⟩
  · obtain ⟨z, qs, hz, b⟩ := (channelBecomes_refl g f).begins_suspended v hu
    exact ⟨by rw [b.channel]; exact h, by rw [b.channel]; simp, _, by rw [b.sluice]; exact hz⟩

theorem started_check4 {p : Purpose} (h : (f.channels.nth g).req = some p) :
    Started p [.waitingWater, .running, .suspended] g (f.sluices.nth g) (check4 v g f) := by
  obtain ⟨k, ⟨ec, es⟩, m, e | e⟩ := check4_cases v g f
  · have b := (channelBecomes_refl g k).set fun c => { c with permit := m }
    have k := started_check5 (v := v) (p := p) (f := setChannel g (fun c => { c with permit := m }) k)
      (by rw [b.channel, ec]; exact h)
    rw [b.sluice, es] at k
    rw [e]
    exact ⟨k.req, List.mem_cons_of_mem _ k.st, k.sluice⟩
  · obtain ⟨z, qs, hz, b⟩ := (channelBecomes_refl g k).waits v m
    rw [es] at hz
    rw [e]
    exact ⟨by rw [b.channel, ec]; exact h, by rw [b.channel]; simp, _, by rw [b.sluice]; exact hz⟩

/-- Granted, the checks go on; not granted, the channel waits for the connection. -/
theorem started_startChecks (v : Base) (g : Fin 4) (p : Purpose) (f : Flow) :
    ((requestGrant g f).1 = true → Started p [.waitingWater, .running, .suspended] g (f.sluices.nth g) (startChecks v g p f))
    ∧ ((requestGrant g f).1 = false → Started p [.waitingConnection] g (f.sluices.nth g) (startChecks v g p f)) := by
  let asked : Channel → Channel := fun c => { Channel.idle with st := c.st, req := some p }
  have b := (channelBecomes_refl g f).set asked
  have same := requestGrant_setChannel (g := g) (f := f) asked
  obtain ⟨ec, es⟩ := requestGrant_keeps (g := g) (f := setChannel g asked f)
  rcases hr : requestGrant g (setChannel g asked f) with ⟨got, k⟩
  rw [hr] at same ec es
  have sl : k.sluices.nth g = f.sluices.nth g := by rw [show k.sluices = _ from es, b.sluice]
  unfold startChecks
  dsimp only
  rw [show requestGrant g (setChannel g (fun c => { Channel.idle with st := c.st, req := some p }) f) = (got, k) from hr]
  rw [← same]
  refine ⟨fun e => ?_, fun e => ?_⟩
  · obtain rfl : got = true := e
    have s := started_check4 (v := v) (p := p) (f := k) (by rw [show k.channels = _ from ec, b.channel])
    rw [sl] at s
    exact s
  · obtain rfl : got = false := e
    obtain ⟨z, qs, hz, m⟩ := (channelBecomes_refl g k).move_command v
      { Channel.idle with st := .waitingConnection, req := some p } (n := 0) (by decide)
    rw [sl] at hz
    exact ⟨by rw [m.channel], by rw [m.channel]; exact List.mem_cons_self, _, by rw [m.sluice]; exact hz⟩

end Checks

/-! ## The keeper's commands (03/R59, R62) -/

theorem sluiceBecomes_command (v : Base) (g : Fin 4) (n : Nat) (f : Flow) :
    ∃ z qs, SluiceBecomes g f (commandSluice v g n f) z qs := by
  have same := sluiceBecomes_refl g f
  by_cases st : (f.sluices.nth g).st = .fault
  · rw [commandSluice_fault same n st]
    exact ⟨_, _, same⟩
  · obtain ⟨z, qs, b, -⟩ := sluiceBecomes_commandSluice (v := v) same n st
    exact ⟨z, qs, b⟩

/-- A channel whose sluice is sent to 0, where its state has it sent, before it is IDLE again (03/R59). -/
def sluiceClosed (v : Base) (g : Fin 4) (f : Flow) : Flow :=
  if (f.channels.nth g).st = .running ∨ (f.channels.nth g).st = .holding ∨ (f.channels.nth g).st = .suspended
      ∨ (f.channels.nth g).st = .failed then commandSluice v g 0 (withdrawn g f) else withdrawn g f

theorem sluiceBecomes_closed (v : Base) (g : Fin 4) (f : Flow) :
    ∃ z qs, SluiceBecomes g (withdrawn g f) (sluiceClosed v g f) z qs := by
  unfold sluiceClosed
  split
  · exact sluiceBecomes_command v g 0 (withdrawn g f)
  · exact ⟨_, _, sluiceBecomes_refl g (withdrawn g f)⟩

theorem cancelChannel_idle {v : Base} {g : Fin 4} {f : Flow} (h : (f.channels.nth g).st = .idle) :
    cancelChannel v g f = f := by
  unfold cancelChannel
  simp only [h]

theorem cancelChannel_active {v : Base} {g : Fin 4} {f : Flow} (h : (f.channels.nth g).st ≠ .idle) :
    cancelChannel v g f = moveChannel v g Channel.idle (releaseGrant g (sluiceClosed v g f)) := by
  unfold cancelChannel sluiceClosed withdrawn
  dsimp only
  split
  · contradiction
  · rfl

/-- A cancelled channel is IDLE, without a grant, off the waiting list, and LEVELLING_STATE tells of it. -/
theorem cancelChannel_leaves {v : Base} {g : Fin 4} {f : Flow} (h : (f.channels.nth g).st ≠ .idle) :
    (cancelChannel v g f).channels.nth g = Channel.idle ∧ (cancelChannel v g f).grants.nth g = false
    ∧ g ∉ (cancelChannel v g f).waiting
    ∧ ∃ before, (cancelChannel v g f).out = before ++ [reportNow v .water 0x4A (u1 g.val
      ++ u1 (f.channels.nth g).st.code ++ u1 0 ++ purposeBytes (f.channels.nth g).req
      ++ lvl2 (v.scanner.heads.nth g).value)] := by
  obtain ⟨p, ew, -⟩ := withdrawn_leaves g f
  obtain ⟨z, qs, s⟩ := sluiceBecomes_closed v g f
  rw [cancelChannel_active h]
  generalize sluiceClosed v g f = k at s
  have plant := s.plant.trans (congrArg (fun x : Plant => { x with sluices := (withdrawn g f).sluices.put g z }) ew)
  have ec := congrArg Plant.channels plant
  have el := congrArg Plant.waiting plant
  have same := channelBecomes_refl g (releaseGrant g k)
  rw [show (releaseGrant g k).channels = f.channels from ec] at same
  have b := same.move_told v (d := Channel.idle) (Ne.symm h)
  refine ⟨b.channel, ?_, ?_, _, b.out⟩
  · rw [b.grants]
    exact Tbl.nth_put_same _ _ _
  · rw [b.waiting, show (releaseGrant g k).waiting = f.waiting.filter (· ≠ g) from el]
    simp

theorem failRefused_sound {v : Base} {g : Fin 4} {f : Flow} (h : (f.sluices.nth g).st ≠ .fault) : failRefused v g f = f :=
  if_neg fun c => h c.1

/-- A channel started over a sluice in FAULT fails; any other stays as it was started. -/
theorem started_failRefused {v : Base} {g : Fin 4} {f : Flow} {p : Purpose} {sts : List ChanSt} {y : Sluice}
    (s : Started p sts g y f) (hi : ChanSt.idle ∉ sts) (hf : ChanSt.failed ∉ sts) :
    (y.st ≠ .fault → failRefused v g f = f)
    ∧ (y.st = .fault → ((failRefused v g f).channels.nth g).st = .failed
      ∧ ((failRefused v g f).channels.nth g).cause = some .sluice ∧ ((failRefused v g f).channels.nth g).req = some p) := by
  obtain ⟨n, hz⟩ := s.sluice
  refine ⟨fun st => failRefused_sound (hz.taken st).2, fun st => ?_⟩
  have e : failRefused v g f = failChannel v g .sluice f :=
    if_pos ⟨by rw [hz.stands st, st], fun c => hi (c ▸ s.st), fun c => hf (c ▸ s.st)⟩
  obtain ⟨z, qs, -, b⟩ := channelBecomes_fail v g .sluice f
  rw [e, b.channel]
  exact ⟨rfl, rfl, s.req⟩

/-- Settles O39: the refusals; what bars a start; the grants and the waiting list; a start; a cancellation. -/
theorem keeperStartsAndCancelsLevelling : Obligations.KeeperStartsAndCancelsLevelling := by
  refine ⟨fun rq n s adm hn => ?outOfRange, fun v p g => ?barred, fun g f => ?grants, fun rq g s adm => ?commands⟩
  case outOfRange =>
    have e : unit? 4 n = none := by simp [unit?]; omega
    exact ⟨congrArg _ (serve_refuse adm (by simp only [e]; rfl)), congrArg _ (serve_refuse adm (by simp only [e]; rfl))⟩
  case barred =>
    exact levelStartBarred_iff.trans (or_congr_right (or_congr_right (or_congr_right levelsUsable_keeper)))
  case grants =>
    intro near joined clear meets
    have shared (a : Fin 4) : sharesBody a g = true ↔ meets a := sharesBody_iff
    have free : grantable f g = true ↔ clear := grantable_iff
    have test (older : List (Fin 4)) :
        (grantable f g && !(older.any fun a => sharesBody a g)) = true ↔ clear ∧ ∀ a ∈ older, ¬ meets a := by
      simp only [review_test, free, shared]
    refine ⟨requestGrant_held, requestGrant_listed, fun h hc hw => ?_, fun h hw hb => ?_, fun rest older => ⟨rfl, fun h => ?_,
      fun h => ?_⟩⟩
    · refine requestGrant_clear h (free.mpr hc) fun a ha => ?_
      rw [← Bool.not_eq_true, shared]
      exact hw a ha
    · refine requestGrant_barred h hw ?_
      simp only [free, shared]
      exact hb
    · rw [reviewWaiting, if_pos ((test older).mpr h)]
      rfl
    · rw [reviewWaiting, if_neg fun c => h ((test older).mp c)]
  case commands =>
    refine ⟨fun bar => ?_, fun bar => ?start, fun st auto who => ?_, fun st own => ?cancel, fun st => ?_⟩
    · exact congrArg _ (serve_refuse adm (by simp only [unit?_val, bar]; rfl))
    case start =>
      obtain ⟨got, queued⟩ := started_startChecks s.base g .keeper s.flow
      have water := ((watery_rules s.flow).failRefused ((watery_rules s.flow).startChecks (Watery.refl s.flow) s.base
        (g := g) trivial .keeper) s.base (g := g) trivial).water
      have run : exec (.levelCmdStart rq g.val) s = .next ((s.conclude (failRefused s.base g
          (startChecks s.base g .keeper s.flow))).ok rq 0x21
            (u1 ((startChecks s.base g .keeper s.flow).channels.nth g).st.code)) := by
        refine congrArg _ (serve_accept adm ?_)
        simp only [unit?_val]
        rw [if_neg (by rw [bar]; decide)]
      generalize startChecks s.base g .keeper s.flow = k at *
      have answer {sts : List ChanSt} (b : Started .keeper sts g (s.flow.sluices.nth g) k) (hi : ChanSt.idle ∉ sts)
          (hf : ChanSt.failed ∉ sts) :
          ((failRefused s.base g k).channels.nth g).req = some .keeper
          ∧ ((failRefused s.base g k).channels.nth g).st ≠ .idle
          ∧ ((s.plant.sluices.nth g).st ≠ .fault →
            ((failRefused s.base g k).channels.nth g).st = (k.channels.nth g).st)
          ∧ ((s.plant.sluices.nth g).st = .fault →
            ((failRefused s.base g k).channels.nth g).st = .failed
            ∧ ((failRefused s.base g k).channels.nth g).cause = some .sluice) := by
        obtain ⟨sound, failed⟩ := started_failRefused (v := s.base) b hi hf
        by_cases st : (s.plant.sluices.nth g).st = .fault
        · obtain ⟨h1, h2, h3⟩ := failed st
          exact ⟨h3, by rw [h1]; simp, fun c => absurd st c, fun _ => ⟨h1, h2⟩⟩
        · rw [sound st]
          exact ⟨b.req, fun c => hi (c ▸ b.st), fun _ => rfl, fun c => absurd c st⟩
      refine ⟨_, (k.channels.nth g).st, run, ?_⟩
      cases hr : (requestGrant g s.flow).1 with
      | true =>
        have b := got hr
        have sts := b.st
        simp only [List.mem_cons, List.not_mem_nil, or_false] at sts
        refine ⟨.inr sts, ⟨fun c => ?_, fun c => by cases c⟩, water, answer b (by decide) (by decide)⟩
        rw [c] at sts
        simp at sts
      | false =>
        have b := queued hr
        have st := List.mem_singleton.mp b.st
        exact ⟨.inl st, ⟨fun _ => rfl, fun _ => st⟩, water, answer b (by decide) (by decide)⟩
    · exact congrArg _ (serve_refuse adm (by simp only [unit?_val]; exact if_pos ⟨st, auto, who⟩))
    case cancel =>
      obtain ⟨idle, grant, list, before, out⟩ := cancelChannel_leaves (v := s.base) (f := s.flow) st
      have water := ((watery_rules s.flow).cancelChannel (Watery.refl s.flow) s.base (g := g) trivial).water
      refine ⟨_, congrArg _ (serve_accept adm ?_), water, idle, grant, list, before, out⟩
      simp only [unit?_val]
      refine if_neg fun c => ?_
      obtain man | who := own
      · rw [c.2.1] at man
        cases man
      · exact c.2.2 who
    · have idle := cancelChannel_idle (v := s.base) (f := s.flow) st
      refine congrArg _ (serve_accept adm ?_)
      simp only [unit?_val]
      rw [if_neg fun c => c.1 st, idle]
      rfl

end Sys2Proof.Machine
end

section
/-! The step timer, and what the end of a scan has a channel do (03/R48 to R57; 06/R114). -/

namespace Sys2Proof.Machine

/-! ## The step timer (03/R50, R51) -/

theorem aboveBand_iff {v : Base} {g : Fin 4} : aboveBand v g = true ↔ (v.settings.nearBand : Int) < mag (headValue v g) :=
  decide_eq_true_iff

theorem aboveBand_false {v : Base} {g : Fin 4} : aboveBand v g = false ↔ mag (headValue v g) ≤ v.settings.nearBand := by
  rw [aboveBand, decide_eq_false_iff_not, not_lt]

theorem hasReached_eq (f : Flow) (g : Fin 4) : hasReached f g = ((f.channels.nth g).reached
    || decide ((f.channels.nth g).st = .running ∧ (f.sluices.nth g).pos = 1)) := by
  rw [hasReached, Bool.decide_and]
  rfl

theorem channel_followStep (v : Base) (g : Fin 4) (f : Flow) : (followStep v g f).channels.nth g = { f.channels.nth g with
    reached := hasReached f g
    stepT := if (f.channels.nth g).st = .running ∧ hasReached f g = true ∧ headUsable v g (f.channels.nth g).req = true
        ∧ (f.channels.nth g).far = true then some ((f.channels.nth g).stepT.getD v.elapsed) else none } := by
  unfold followStep
  dsimp only
  rw [((channelBecomes_refl g f).set _).channel]
  simp [and_assoc]

/-! ## What the end of a scan leaves -/

/-- The other channels and sluices, the grants, the gates, the heads, the batches and the passages stand. -/
structure ScanLeaves (g : Fin 4) (f k : Flow) : Prop where
  others : ∀ a, a ≠ g → k.channels.nth a = f.channels.nth a ∧ k.sluices.nth a = f.sluices.nth a
  grants : k.grants = f.grants
  gates : k.gates = f.gates
  heads : k.heads = f.heads
  batches : k.batches = f.batches
  passages : k.passages = f.passages

theorem scanLeaves_rules (g : Fin 4) (f : Flow) : ScanRules (· = g) (ScanLeaves g f) where
  raise h _ _ _ _ := ⟨h.others, h.grants, h.gates, h.heads, h.batches, h.passages⟩
  sluice h b hb _ := by
    subst hb
    exact ⟨fun a ha => ⟨(h.others a ha).1, (Tbl.nth_put_other _ _ _ _ (Ne.symm ha)).trans (h.others a ha).2⟩,
      h.grants, h.gates, h.heads, h.batches, h.passages⟩
  channel h b hb _ := by
    subst hb
    exact ⟨fun a ha => ⟨(Tbl.nth_put_other _ _ _ _ (Ne.symm ha)).trans (h.others a ha).1, (h.others a ha).2⟩,
      h.grants, h.gates, h.heads, h.batches, h.passages⟩
  permit h _ := ⟨h.others, h.grants, h.gates, h.heads, h.batches, h.passages⟩
  draws h _ := ⟨h.others, h.grants, h.gates, h.heads, h.batches, h.passages⟩

theorem scanLeaves_refl (g : Fin 4) (f : Flow) : ScanLeaves g f f := ⟨fun _ _ => ⟨rfl, rfl⟩, rfl, rfl, rfl, rfl, rfl⟩

/-! ## The near band at a scan (03/R50) -/

theorem judgeBand_still {v : Base} {g : Fin 4} {f : Flow} (h : (f.channels.nth g).st ≠ .running) : judgeBand v g f = f :=
  if_neg h

/-- Channel `g`, whose record was `c` over the sluice `y`, has passed check 5 in `m`. -/
structure Begun (v : Base) (g : Fin 4) (c : Channel) (y : Sluice) (m : Flow) : Prop where
  start : (m.channels.nth g).start = some v.elapsed
  limit : (m.channels.nth g).limit = some v.settings.levelTimeLimit
  req : (m.channels.nth g).req = c.req
  runs : levelsUsable v g c.req = true → (m.channels.nth g).st = .running ∧ (m.channels.nth g).cmd = 1
    ∧ (m.channels.nth g).reached = decide (1 ≤ y.pos) ∧ (m.channels.nth g).far = aboveBand v g
  suspended : ¬ levelsUsable v g c.req = true → (m.channels.nth g).st = .suspended ∧ (m.channels.nth g).cmd = 0
    ∧ (m.channels.nth g).susp = some v.elapsed

namespace ChannelBecomes

variable {g : Fin 4} {f k : Flow} {c : Channel} {y : Sluice} {rs : List Report} (h : ChannelBecomes g f k c y rs) (v : Base)

include h

theorem judge_running (st : c.st = .running) :
    ChannelBecomes g f (judgeBand v g k) { c with far := aboveBand v g } y rs := by
  rw [judgeBand, if_pos (by rw [h.channel]; exact st)]
  exact h.set _

/-- A channel that is not RUNNING, or has just judged, is left. -/
theorem judge_same (e : c.st = .running → c.far = aboveBand v g) : ChannelBecomes g f (judgeBand v g k) c y rs := by
  by_cases st : c.st = .running
  · have b := h.judge_running v st
    rw [← e st] at b
    exact b
  · rw [judgeBand_still (by rw [h.channel]; exact st)]
    exact h

/-- A levelling proper that begins at a scan, judged. -/
theorem begins_judged : (judgeBand v g (check5 v g k)).sched = f.sched
    ∧ ((judgeBand v g (check5 v g k)).channels.nth g).permit = c.permit
    ∧ Begun v g c y (judgeBand v g (check5 v g k)) := by
  by_cases hu : levelsUsable v g c.req = true
  · obtain ⟨z, qs, hz, b⟩ := h.begins v hu
    have b := b.judge_same v fun _ => rfl
    refine ⟨b.sched, by rw [b.channel], ?_, ?_, ?_, fun _ => ?_, fun n => absurd hu n⟩ <;> rw [b.channel]
    exact ⟨rfl, rfl, rfl, rfl⟩
  · obtain ⟨z, qs, hz, b⟩ := h.begins_suspended v hu
    have b := b.judge_same v fun st => by cases st
    refine ⟨b.sched, by rw [b.channel], ?_, ?_, ?_, fun n => absurd n hu, fun _ => ?_⟩ <;> rw [b.channel]
    exact ⟨rfl, rfl, rfl⟩

end ChannelBecomes

/-! ## A channel by its state at the end of a scan -/

section Scan

variable {v : Base} {signs : Tbl 4 Sign} {g : Fin 4} {f : Flow}

/-- A channel whose state has it do nothing is left. -/
theorem scanChannel_still (e : scanByState v signs g f = f) (st : (f.channels.nth g).st ≠ .running) :
    scanChannel v signs g f = f := by
  rw [scanChannel, e, judgeBand_still st]

theorem scanChannel_water (st : (f.channels.nth g).st = .waitingWater) :
    scanChannel v signs g f = judgeBand v g (waterScan v g f) := by
  unfold scanChannel scanByState
  simp only [st]

theorem scanChannel_running (st : (f.channels.nth g).st = .running) (hu : levelsUsable v g (f.channels.nth g).req = true) :
    scanChannel v signs g f = judgeBand v g (profile v g f) := by
  unfold scanChannel scanByState
  simp only [st, hu, if_true]

theorem scanChannel_holding (st : (f.channels.nth g).st = .holding) (hu : levelsUsable v g (f.channels.nth g).req = true) :
    scanChannel v signs g f = judgeBand v g (holdScan v signs g f) := by
  unfold scanChannel scanByState
  simp only [st, hu, if_true]

theorem scanChannel_lost (st : (f.channels.nth g).st = .running ∨ (f.channels.nth g).st = .holding)
    (hu : ¬ levelsUsable v g (f.channels.nth g).req = true) : scanChannel v signs g f = judgeBand v g (suspend v g f) := by
  unfold scanChannel scanByState
  obtain st | st := st <;> simp only [st, hu] <;> rfl

theorem scanChannel_suspended (st : (f.channels.nth g).st = .suspended) :
    scanChannel v signs g f = judgeBand v g (resumeScan v g f) := by
  unfold scanChannel scanByState
  simp only [st]

theorem scanChannel_level (st : (f.channels.nth g).st = .level) :
    scanChannel v signs g f = judgeBand v g (driftScan v g f) := by
  unfold scanChannel scanByState
  simp only [st]

theorem scanChannel_resting
    (st : (f.channels.nth g).st = .idle ∨ (f.channels.nth g).st = .waitingConnection ∨ (f.channels.nth g).st = .failed) :
    scanChannel v signs g f = f := by
  refine scanChannel_still ?_ ?_
  · unfold scanByState
    obtain st | st | st := st <;> simp only [st]
  · obtain st | st | st := st <;> rw [st] <;> simp

/-- The profile's command within the near band: position 1 where it was above (03/R50). -/
theorem ChannelBecomes.lowers {k : Flow} {c : Channel} {y : Sluice} {rs : List Report} (h : ChannelBecomes g f k c y rs) :
    ∃ z qs, ChannelBecomes g f (if 1 < c.cmd then channelCommand v g 1 k else k)
      { c with cmd := if 1 < c.cmd then 1 else c.cmd } z qs := by
  split
  · obtain ⟨z, qs, -, b⟩ := h.command v 1
    rw [reducedTo_of_lt (by decide)] at b
    exact ⟨z, _, b⟩
  · exact ⟨_, _, h⟩

section Running

variable (st : (f.channels.nth g).st = .running) (hu : levelsUsable v g (f.channels.nth g).req = true)

include st hu

theorem scan_attains
    (at_ : mag (headValue v g) ≤ (v.settings.openTol : Int) ∧ (f.channels.nth g).reached = true) :
    ∃ z qs, ChannelBecomes g f (scanChannel v signs g f) { f.channels.nth g with
      st := .holding, stepT := none, settleT := some v.elapsed, surge := 0,
      cmd := if 1 < (f.channels.nth g).cmd then 1 else (f.channels.nth g).cmd } z qs := by
  obtain ⟨_, b⟩ := (channelBecomes_refl g f).move v { f.channels.nth g with
    st := .holding, stepT := none, settleT := some v.elapsed, surge := 0 }
  obtain ⟨z, qs, b⟩ := b.lowers (v := v)
  have b := b.judge_same v fun st => by cases st
  rw [scanChannel_running st hu, profile]
  dsimp only
  rw [if_pos at_]
  exact ⟨z, qs, b⟩

section Outside

variable (at_ : ¬ (mag (headValue v g) ≤ (v.settings.openTol : Int) ∧ (f.channels.nth g).reached = true))

include at_

theorem scan_near (near : aboveBand v g = false) : ∃ z qs, ChannelBecomes g f (scanChannel v signs g f) { f.channels.nth g with
    cmd := if 1 < (f.channels.nth g).cmd then 1 else (f.channels.nth g).cmd, far := false } z qs := by
  obtain ⟨z, qs, b⟩ := (channelBecomes_refl g f).lowers (v := v)
  have b := b.judge_running v st
  rw [near] at b
  rw [scanChannel_running st hu, profile]
  dsimp only
  rw [if_neg at_, if_pos (aboveBand_false.mp near)]
  exact ⟨z, qs, b⟩

theorem scan_far (far : aboveBand v g = true) :
    scanChannel v signs g f = setChannel g (fun c => { c with far := true }) f := by
  rw [scanChannel_running st hu, profile]
  dsimp only
  rw [if_neg at_, if_neg (not_le.mpr (aboveBand_iff.mp far)), judgeBand, if_pos st, far]

end Outside

end Running

section Holding

variable (st : (f.channels.nth g).st = .holding) (hu : levelsUsable v g (f.channels.nth g).req = true)

include st hu

theorem scan_leaves (out : (v.settings.openTol : Int) < mag (headValue v g)) :
    ∃ qs, ChannelBecomes g f (scanChannel v signs g f) { f.channels.nth g with
      st := .running, settleT := none, surge := 0, far := aboveBand v g } (f.sluices.nth g) qs := by
  obtain ⟨qs, b⟩ := (channelBecomes_refl g f).move v { f.channels.nth g with st := .running, settleT := none, surge := 0 }
  rw [scanChannel_holding st hu, holdScan]
  dsimp only
  rw [if_pos out]
  exact ⟨qs, b.judge_running v rfl⟩

section Inside

variable (inn : mag (headValue v g) ≤ (v.settings.openTol : Int))

include inn

theorem scan_steady (turns : ¬ signChanged v signs g = true) : scanChannel v signs g f = f := by
  rw [scanChannel_holding st hu, holdScan]
  rw [if_neg (not_lt.mpr inn), if_neg turns, judgeBand_still (by rw [st]; simp)]

theorem scan_surge (turns : signChanged v signs g = true) (few : (f.channels.nth g).surge + 1 < v.settings.surgeLimit) :
    ChannelBecomes g f (scanChannel v signs g f) { f.channels.nth g with surge := (f.channels.nth g).surge + 1 }
      (f.sluices.nth g) [] := by
  have b := (channelBecomes_refl g f).set fun c => { c with surge := (f.channels.nth g).surge + 1 }
  rw [scanChannel_holding st hu, holdScan]
  dsimp only
  rw [if_neg (not_lt.mpr inn), if_pos turns, if_neg (not_le.mpr few)]
  exact b.judge_same v fun c => by
    rw [show (f.channels.nth g).st = .running from c] at st
    cases st

theorem scan_surges (turns : signChanged v signs g = true) (many : v.settings.surgeLimit ≤ (f.channels.nth g).surge + 1) :
    ChannelBecomes g f (scanChannel v signs g f) { f.channels.nth g with settleT := some v.elapsed, surge := 0 }
      (f.sluices.nth g) [reportNow v .water 0x4B (u1 g.val ++ settingBytes v.settings [.surgeLimit]
        ++ lvl2 (v.scanner.heads.nth g).value)] := by
  have b := ((channelBecomes_refl g f).set fun c => { c with settleT := some v.elapsed, surge := 0 }).told v .water 0x4B
    (u1 g.val ++ settingBytes v.settings [.surgeLimit] ++ lvl2 (v.scanner.heads.nth g).value)
  rw [scanChannel_holding st hu, holdScan]
  dsimp only
  rw [if_neg (not_lt.mpr inn), if_pos turns, if_pos many]
  exact b.judge_same v fun c => by
    rw [show (f.channels.nth g).st = .running from c] at st
    cases st

end Inside

end Holding

theorem scan_suspends (st : (f.channels.nth g).st = .running ∨ (f.channels.nth g).st = .holding)
    (hu : ¬ levelsUsable v g (f.channels.nth g).req = true) :
    ∃ z qs, ChannelBecomes g f (scanChannel v signs g f) { f.channels.nth g with
      st := .suspended, stepT := none, settleT := none, surge := 0, susp := some v.elapsed, cmd := 0 } z qs := by
  obtain ⟨z, qs, -, b⟩ := (channelBecomes_refl g f).suspends v
  rw [scanChannel_lost st hu]
  exact ⟨z, qs, b.judge_same v fun st => by cases st⟩

theorem scan_resumes {t : Nat} (st : (f.channels.nth g).st = .suspended) (since : (f.channels.nth g).susp = some t)
    (hu : levelsUsable v g (f.channels.nth g).req = true) (due : v.elapsed - t ≤ 1200) :
    ∃ z qs, ChannelBecomes g f (scanChannel v signs g f) { f.channels.nth g with
      st := .running, cmd := 1, susp := none, reached := false, far := aboveBand v g } z qs := by
  obtain ⟨z, qs, -, b⟩ := (channelBecomes_refl g f).move_command v
    { f.channels.nth g with st := .running, susp := none, reached := false } (n := 1) (by decide)
  rw [scanChannel_suspended st, resumeScan]
  dsimp only
  rw [if_pos ⟨hu, by rw [since]; exact due⟩]
  exact ⟨z, qs, b.judge_running v rfl⟩

theorem scan_stays_suspended {t : Nat} (st : (f.channels.nth g).st = .suspended) (since : (f.channels.nth g).susp = some t)
    (h : ¬ levelsUsable v g (f.channels.nth g).req = true ∨ 1200 < v.elapsed - t) : scanChannel v signs g f = f := by
  rw [scanChannel_suspended st, resumeScan]
  rw [if_neg, judgeBand_still (by rw [st]; simp)]
  rintro ⟨hu, due⟩
  rw [since] at due
  obtain n | n := h
  · exact n hu
  · exact absurd due (not_le.mpr n)

end Scan

end Sys2Proof.Machine
end

section
/-! A channel that asks for water at the end of a scan, and the step timer's expiry (03/R48, R50, R51, R55; 06/R114). -/

namespace Sys2Proof.Machine

/-! ## A permit asked at a scan (06/R114) -/

/-- Channel `g` of `f` has asked for its permit in `m`: given, the levelling begins; deferred, the channel waits. -/
structure Asks (v : Base) (g : Fin 4) (f m : Flow) : Prop where
  given : permitDeferral v f.sched = none → (m.channels.nth g).permit = .given
    ∧ Begun v g (f.channels.nth g) (f.sluices.nth g) m ∧ m.sched.permit = none
    ∧ m.sched.draws = addDraw ⟨v.elapsed, (f.channels.nth g).req.getD .keeper⟩ f.sched.draws
  deferred : ∀ d, permitDeferral v f.sched = some d → (m.channels.nth g).permit = .asked
    ∧ (m.channels.nth g).st = .waitingWater
    ∧ m.sched.permit = some ⟨(f.channels.nth g).req.getD .keeper, v.elapsed, d⟩ ∧ m.sched.draws = f.sched.draws

section Scan

variable {v : Base} {signs : Tbl 4 Sign} {g : Fin 4} {f : Flow}

/-- The channel reset for another check 4 (03/R55). -/
def drifted (c : Channel) : Channel := { c with permit := .undecided, start := none, limit := none }

theorem begun_of_req {c d : Channel} {y : Sluice} {m : Flow} (h : Begun v g d y m) (e : d.req = c.req) : Begun v g c y m := by
  obtain ⟨start, limit, req, runs, suspended⟩ := h
  rw [e] at req runs suspended
  exact ⟨start, limit, req, runs, suspended⟩

/-- A permit mark set, and the levelling begun, in a flow that has the channels and sluices of `f`. -/
theorem begun_marked (k : Flow) (p : Permit) : 
    let m := judgeBand v g (check5 v g (setChannel g (fun c => { c with permit := p }) k))
    m.sched = k.sched ∧ (m.channels.nth g).permit = p ∧ Begun v g (k.channels.nth g) (k.sluices.nth g) m := by
  obtain ⟨sched, permit, begun⟩ := ((channelBecomes_refl g k).set fun c => { c with permit := p }).begins_judged v
  exact ⟨sched, permit, begun_of_req begun rfl⟩

section Water

variable (st : (f.channels.nth g).st = .waitingWater)

include st

theorem scan_water_unread (hu : headUsable v g (f.channels.nth g).req = false) : scanChannel v signs g f = f := by
  rw [scanChannel_water st, waterScan]
  rw [if_pos hu, judgeBand_still (by rw [st]; simp)]

section Read

variable (hu : headUsable v g (f.channels.nth g).req = true)

include hu

theorem scan_water_down (hv : headValue v g ≤ 0) :
    scanChannel v signs g f
      = judgeBand v g (check5 v g (setChannel g (fun c => { c with permit := .notNeeded }) (withdrawPermit g f))) := by
  rw [scanChannel_water st, waterScan]
  rw [if_neg (by rw [hu]; decide), if_pos hv]

theorem scan_water_decided (hv : 0 < headValue v g) (hp : (f.channels.nth g).permit ≠ .undecided) :
    scanChannel v signs g f = f := by
  rw [scanChannel_water st, waterScan]
  rw [if_neg (by rw [hu]; decide), if_neg (not_le.mpr hv), if_neg hp, judgeBand_still (by rw [st]; simp)]

theorem scan_water_asks (hv : 0 < headValue v g) (hp : (f.channels.nth g).permit = .undecided) :
    Asks v g f (scanChannel v signs g f) := by
  rw [scanChannel_water st, waterScan]
  rw [if_neg (by rw [hu]; decide), if_neg (not_le.mpr hv), if_pos hp]
  refine ⟨fun h => ?_, fun d h => ?_⟩
  · rw [askPermit_given h]
    obtain ⟨sched, permit, begun⟩ := begun_marked (v := v) (g := g)
      (giveDraw v ((f.channels.nth g).req.getD .keeper) f) .given
    dsimp only
    rw [permit, sched]
    exact ⟨rfl, begun, rfl, rfl⟩
  · rw [askPermit_deferred h]
    have b := (channelBecomes_refl g (deferReport v d (setSched (fun s =>
      { s with permit := some ⟨(f.channels.nth g).req.getD .keeper, v.elapsed, d⟩ }) f))).set
      fun c => { c with permit := .asked }
    have b := b.judge_same v fun c => by
      rw [show (f.channels.nth g).st = .running from c] at st
      cases st
    dsimp only
    rw [b.channel, b.sched]
    exact ⟨rfl, st, rfl, rfl⟩

end Read

end Water

section Drift

variable (st : (f.channels.nth g).st = .level)

include st

theorem scan_level_still (h : ¬ ((f.gates.nth g).st = .shut ∧ (f.channels.nth g).opened = false
    ∧ (f.sluices.nth g).st = .steady ∧ (f.sluices.nth g).pos = 0 ∧ headUsable v g (f.channels.nth g).req = true
    ∧ (v.settings.openTol : Int) < mag (headValue v g))) : scanChannel v signs g f = f := by
  rw [scanChannel_level st, driftScan]
  rw [if_neg h, judgeBand_still (by rw [st]; simp)]

section Drifts

variable (h : (f.gates.nth g).st = .shut ∧ (f.channels.nth g).opened = false
    ∧ (f.sluices.nth g).st = .steady ∧ (f.sluices.nth g).pos = 0 ∧ headUsable v g (f.channels.nth g).req = true
    ∧ (v.settings.openTol : Int) < mag (headValue v g))

include h

theorem scan_drifts : scanChannel v signs g f = judgeBand v g (check4 v g (setChannel g drifted f)) := by
  rw [scanChannel_level st, driftScan]
  rw [if_pos h]
  rfl

theorem scan_drift_unneeded (low : g ≠ 3 ∨ headValue v g ≤ 0) :
    ((scanChannel v signs g f).channels.nth g).permit = .notNeeded
    ∧ Begun v g (f.channels.nth g) (f.sluices.nth g) (scanChannel v signs g f) := by
  obtain ⟨-, -, -, -, hu, -⟩ := id h
  have b := (channelBecomes_refl g f).set drifted
  have hu : headUsable v g ((setChannel g drifted f).channels.nth g).req = true := by
    rw [b.channel]
    exact hu
  rw [scan_drifts st h, check4_unneeded (low.imp_right fun hv => ⟨hu, hv⟩)]
  obtain ⟨-, permit, begun⟩ := begun_marked (v := v) (g := g) (setChannel g drifted f) .notNeeded
  rw [b.channel, b.sluice] at begun
  exact ⟨permit, begun_of_req begun rfl⟩

theorem scan_drift_asks (up : g = 3) (hv : 0 < headValue v g) : Asks v g f (scanChannel v signs g f)
    ∧ (((scanChannel v signs g f).channels.nth g).permit = .asked →
      ((scanChannel v signs g f).channels.nth g).start = none ∧ ((scanChannel v signs g f).channels.nth g).limit = none
      ∧ ((scanChannel v signs g f).channels.nth g).cmd = 0) := by
  obtain ⟨-, -, -, -, hu, -⟩ := id h
  have b := (channelBecomes_refl g f).set drifted
  have hu : headUsable v g ((setChannel g drifted f).channels.nth g).req = true := by
    rw [b.channel]
    exact hu
  have req : ((setChannel g drifted f).channels.nth g).req = (f.channels.nth g).req := by rw [b.channel]; rfl
  rw [scan_drifts st h]
  cases e : permitDeferral v f.sched with
  | none =>
    rw [check4_given up hu hv e, req]
    obtain ⟨sched, permit, begun⟩ := begun_marked (v := v) (g := g)
      (giveDraw v ((f.channels.nth g).req.getD .keeper) (setChannel g drifted f)) .given
    rw [show (giveDraw v ((f.channels.nth g).req.getD .keeper) (setChannel g drifted f)).channels
      = (setChannel g drifted f).channels from rfl, b.channel] at begun
    refine ⟨⟨fun _ => ⟨permit, begun_of_req begun rfl, ?_, ?_⟩, fun d c => ?_⟩, fun c => ?_⟩
    · rw [sched]
      rfl
    · rw [sched]
      rfl
    · rw [e] at c
      cases c
    · rw [permit] at c
      cases c
  | some d =>
    rw [check4_deferred up hu hv e, req]
    obtain ⟨z, qs, -, w⟩ := (channelBecomes_refl g (deferReport v d (setSched (fun s =>
      { s with permit := some ⟨(f.channels.nth g).req.getD .keeper, v.elapsed, d⟩ }) (setChannel g drifted f)))).waits v .asked
    have w := w.judge_same v fun c => by cases c
    refine ⟨⟨fun c => ?_, fun x c => ?_⟩, fun _ => ?_⟩
    · rw [e] at c
      cases c
    · obtain rfl : d = x := Option.some.inj (e.symm.trans c)
      rw [w.channel, w.sched]
      exact ⟨rfl, rfl, rfl, rfl⟩
    · rw [w.channel]
      exact ⟨rfl, rfl, rfl⟩

end Drifts

end Drift

end Scan

/-! ## The expiry of the step timer (03/R45, R50, R51) -/

theorem exec_stepTimerExpiry {g : Fin 4} {k : Nat} {s : State} (hp : s.powered = true)
    (st : (s.plant.channels.nth g).st = .running) (hk : (s.plant.channels.nth g).stepT = some k)
    (due : k + 10 * s.base.settings.stepInterval ≤ s.base.elapsed) :
    exec (.stepTimerExpiry g) s = .next (s.conclude (raiseStep s.base g s.flow)) := by
  show execStepTimerExpiry g s = _
  unfold execStepTimerExpiry
  have run : ranFor s.base (some k) (10 * s.base.settings.stepInterval) = true := ranFor_iff.mpr due
  dsimp only
  rw [if_pos (by rw [hp, st, hk, run]; rfl)]

theorem raiseStep_raises {v : Base} {g : Fin 4} {f : Flow} (far : aboveBand v g = true)
    (below : (f.channels.nth g).cmd < f.toPlant.maxPosition g) : ∃ z qs,
    Commanded ((f.channels.nth g).cmd + 1) (f.sluices.nth g) z ∧ ChannelBecomes g f (raiseStep v g f) { f.channels.nth g with
      stepT := some v.elapsed, far := true, cmd := (f.channels.nth g).cmd + 1 } z qs := by
  obtain ⟨z, qs, hz, b⟩ := ((channelBecomes_refl g f).set fun c => { c with stepT := some v.elapsed, far := true }).command v
    ((f.channels.nth g).cmd + 1)
  have whole : reducedTo (setChannel g (fun c => { c with stepT := some v.elapsed, far := true }) f) g
      ((f.channels.nth g).cmd + 1) = (f.channels.nth g).cmd + 1 :=
    reducedTo_of_le_max (f := f) below
  rw [whole] at hz b
  rw [(raiseStep_above v f g far).trans (if_pos below)]
  exact ⟨z, _, hz, b⟩

theorem raiseStep_topped {v : Base} {g : Fin 4} {f : Flow} (far : aboveBand v g = true)
    (top : f.toPlant.maxPosition g ≤ (f.channels.nth g).cmd) :
    raiseStep v g f = setChannel g (fun c => { c with stepT := some v.elapsed, far := true }) f :=
  (raiseStep_above v f g far).trans (if_neg (not_lt.mpr top))

/-- Settles O36: the expiry of the step timer; the timer; a channel by its state at the end of a scan. -/
theorem stepTimerRaisesTheSluice : Obligations.StepTimerRaisesTheSluice := by
  refine ⟨fun g k s hp st hk due => ?expiry, fun v g f => ?timer, fun v signs g f => ?scan⟩
  case expiry =>
    have water := ((watery_rules s.flow).raiseStep (Watery.refl s.flow) s.base (g := g) trivial).water
    refine ⟨_, exec_stepTimerExpiry hp st hk due, water, ?_⟩
    cases far : aboveBand s.base g with
    | false =>
      have b := (channelBecomes_refl g s.flow).set fun c => { c with stepT := none, far := false }
      rw [raiseStep_within _ _ _ far, b.channel]
      exact ⟨st, fun _ => ⟨rfl, rfl, rfl⟩, fun c => absurd (aboveBand_false.mp far) (not_le.mpr c)⟩
    | true =>
      have above := aboveBand_iff.mp far
      by_cases below : (s.plant.channels.nth g).cmd < s.plant.maxPosition g
      · obtain ⟨z, qs, hz, b⟩ := raiseStep_raises (f := s.flow) far below
        rw [b.channel, b.sluice]
        exact ⟨st, fun c => absurd above (not_lt.mpr c), fun _ => ⟨rfl, fun _ => ⟨rfl, fun st => (hz.taken st).1⟩,
          fun c => absurd below (not_lt.mpr c)⟩⟩
      · have b := (channelBecomes_refl g s.flow).set fun c => { c with stepT := some s.base.elapsed, far := true }
        rw [raiseStep_topped (f := s.flow) far (not_lt.mp below), b.channel]
        exact ⟨st, fun c => absurd above (not_lt.mpr c), fun _ => ⟨rfl, fun c => absurd c below, fun _ => ⟨rfl, rfl⟩⟩⟩
  case timer =>
    intro c up
    rw [channel_followStep, hasReached_eq]
  case scan =>
    intro c s k x h tol usable far atTol lowered turns begun asks drifts
    have leaves := (scanLeaves_rules g f).scanChannel (scanLeaves_refl g f) v rfl signs
    have begunOf (b : Begun v g c s k) : begun := ⟨b.start, b.limit, b.req, b.runs, b.suspended⟩
    have asksOf (a : Asks v g f k) : asks := by
      refine ⟨fun h => ?_, a.deferred⟩
      obtain ⟨permit, b, none, draws⟩ := a.given h
      exact ⟨permit, begunOf b, none, draws⟩
    refine ⟨leaves.others, leaves.grants, leaves.gates, leaves.heads, leaves.batches, leaves.passages, ?attains, ?runs,
      ?leavesHold, ?holds, ?loses, ?resumes, ?level, ?water, scanChannel_resting⟩
    case attains =>
      intro st hu at_
      obtain ⟨z, qs, b⟩ := scan_attains (signs := signs) st hu at_
      rw [show x = _ from b.channel]
      exact ⟨rfl, rfl, rfl, rfl, rfl⟩
    case runs =>
      intro st hu at_
      refine ⟨fun near => ?_, fun far => ?_⟩
      · obtain ⟨z, qs, b⟩ := scan_near (signs := signs) st hu at_ near
        exact b.channel
      · have e := scan_far (signs := signs) st hu at_ far
        have b := (channelBecomes_refl g f).set fun c => { c with far := true }
        rw [← e] at b
        refine ⟨b.channel, ?_, b.out.trans (List.append_nil _)⟩
        rw [show k = _ from e]
        rfl
    case leavesHold =>
      intro st hu out
      obtain ⟨qs, b⟩ := scan_leaves (signs := signs) st hu out
      exact b.channel
    case holds =>
      intro st hu inn
      refine ⟨scan_steady st hu inn, fun turns few => ?_, fun turns many => ?_⟩
      · have b := scan_surge st hu inn turns few
        exact ⟨b.channel, b.out.trans (List.append_nil _)⟩
      · have b := scan_surges st hu inn turns many
        exact ⟨b.channel, b.out⟩
    case loses =>
      intro st hu
      obtain ⟨z, qs, b⟩ := scan_suspends (signs := signs) st hu
      exact b.channel
    case resumes =>
      intro t st since
      refine ⟨fun hu due => ?_, scan_stays_suspended st since⟩
      obtain ⟨z, qs, b⟩ := scan_resumes (signs := signs) st since hu due
      exact b.channel
    case level =>
      intro st
      refine ⟨scan_level_still st, fun d low => ?_, fun d up hv => ?_⟩
      · obtain ⟨permit, b⟩ := scan_drift_unneeded (signs := signs) st d low
        exact ⟨permit, begunOf b⟩
      · obtain ⟨a, asked⟩ := scan_drift_asks (signs := signs) st d up hv
        exact ⟨asksOf a, asked⟩
    case water =>
      intro st
      refine ⟨scan_water_unread st, fun hu hv => ?_, scan_water_decided st, fun hu hv hp => asksOf (scan_water_asks st hu hv hp)⟩
      obtain ⟨p, ew, -⟩ := withdrawPermit_leaves g f
      have ec := congrArg Plant.channels ew
      have es := congrArg Plant.sluices ew
      obtain ⟨sched, permit, b⟩ := begun_marked (v := v) (g := g) (withdrawPermit g f) .notNeeded
      rw [show (withdrawPermit g f).channels = f.channels from ec, show (withdrawPermit g f).sluices = f.sluices from es,
        ← scan_water_down (signs := signs) st hu hv] at b
      rw [← scan_water_down (signs := signs) st hu hv] at permit sched
      refine ⟨permit, begunOf b, fun up => ?_⟩
      rw [show k.sched = _ from sched, withdrawPermit, if_pos up]
      rfl

end Sys2Proof.Machine
end

section
/-! One head changed: its record, its lamps and their timers, and ASPECT; the lamps that fail and that are sensed
(04/R64, R71 to R76). -/

namespace Sys2Proof.Machine

/-! ## The lamps driven (04/R64) -/

theorem driven_ra (x : Head) : x.driven.ra = true ↔
    ((x.shown = .stop ∨ x.shown = .prepare) ∨ x.shown = .shut) ∧ x.good.ra = true := by
  unfold Head.driven lampsFor
  cases x.shown <;> simp

theorem driven_rb (x : Head) : x.driven.rb = true ↔
    (((x.shown = .stop ∨ x.shown = .prepare) ∧ x.good.ra = false) ∨ x.shown = .shut) ∧ x.good.rb = true := by
  unfold Head.driven lampsFor
  cases x.shown <;> simp

theorem stopping_false_iff {a : Aspect} : a.stopping = false ↔ a = .prepare ∨ a = .go := by
  cases a <;> decide

/-- No FAILED lamp is driven. -/
theorem good_of_driven {x : Head} {l : Lamp} (h : x.driven.nth l = true) : x.good.nth l = true := by
  cases l
  · exact ((driven_ra x).mp h).2
  · exact ((driven_rb x).mp h).2
  · exact ((driven_iff x).mp h).2

theorem driven_congr {x y : Head} (hs : x.shown = y.shown) (hg : x.good = y.good) : x.driven = y.driven := by
  rw [Head.driven, hs, hg]
  rfl

/-! ## A lamp's own field -/

theorem lamps_nth_put_same {α : Type} (x : Lamps α) (l : Lamp) (a : α) : (x.put l a).nth l = a := by cases l <;> rfl

theorem lamps_nth_put_other {α : Type} (x : Lamps α) {l m : Lamp} (h : m ≠ l) (a : α) : (x.put l a).nth m = x.nth m := by
  cases l <;> cases m <;> first | rfl | exact absurd rfl h

theorem lampsBy_nth {α : Type} (fn : Lamp → α) (l : Lamp) : (lampsBy fn).nth l = fn l := by cases l <;> rfl

/-! ## What a change makes of a head -/

section After

variable (v : Base) (h : Fin 8) (fn : Head → Head) (x : Head)

theorem headAfter_keeps : (headAfter v h fn x).staged = (fn x).staged ∧ (headAfter v h fn x).pending = (fn x).pending
    ∧ (headAfter v h fn x).holder = (fn x).holder ∧ (headAfter v h fn x).waved = (fn x).waved
    ∧ (headAfter v h fn x).mark = (fn x).mark := by
  unfold headAfter
  split <;> exact ⟨rfl, rfl, rfl, rfl, rfl⟩

theorem driven_headAfter : (headAfter v h fn x).driven = (fn x).driven :=
  driven_congr (shown_headAfter v h fn x) (good_headAfter v h fn x)

theorem goEnd_headAfter : (headAfter v h fn x).goEnd
    = if x.driven.gn = true ∧ (fn x).driven.gn = false then v.elapsed else (fn x).goEnd := by
  unfold headAfter
  simp only [Bool.and_eq_true, Bool.not_eq_true']
  split <;> rfl

theorem prove_headAfter (l : Lamp) : (headAfter v h fn x).prove.nth l
    = if (fn x).driven.nth l = true ∧ (v.pins.lampCurrent.nth h).nth l = false then
        some (((fn x).prove.nth l).getD ⟨v.elapsed, v.settings.lampProving⟩) else none := by
  have e : (headAfter v h fn x).prove.nth l = LampTimer.follow v
      ((fn x).driven.nth l && !(v.pins.lampCurrent.nth h).nth l) ((fn x).prove.nth l) := by
    unfold headAfter Head.retimed
    split <;> exact lampsBy_nth _ l
  rw [e, LampTimer.follow]
  simp only [Bool.and_eq_true, Bool.not_eq_true']

theorem stray_headAfter (l : Lamp) : (headAfter v h fn x).stray.nth l
    = if (fn x).driven.nth l = false ∧ (v.pins.lampCurrent.nth h).nth l = true then
        some (((fn x).stray.nth l).getD ⟨v.elapsed, v.settings.lampProving⟩) else none := by
  have e : (headAfter v h fn x).stray.nth l = LampTimer.follow v
      ((v.pins.lampCurrent.nth h).nth l && !(fn x).driven.nth l) ((fn x).stray.nth l) := by
    unfold headAfter Head.retimed
    split <;> exact lampsBy_nth _ l
  rw [e, LampTimer.follow]
  simp only [Bool.and_eq_true, Bool.not_eq_true', and_comm]

end After

/-- The report that a change of a head raises (04/R71). -/
def aspectsOf (v : Base) (h : Fin 8) (old x : Head) : List Report :=
  if x.shown ≠ old.shown ∨ x.driven ≠ old.driven then [aspectNow v h x] else []

/-- Lamps in the same health: the shown aspect decides. -/
theorem aspectsOf_same_health {v : Base} {h : Fin 8} {old x : Head} (hg : x.good = old.good) :
    aspectsOf v h old x = if x.shown = old.shown then [] else [aspectNow v h x] := by
  unfold aspectsOf
  by_cases e : x.shown = old.shown
  · rw [if_pos e, if_neg (by rw [not_or, not_not, not_not]; exact ⟨e, driven_congr e hg⟩)]
  · rw [if_neg e, if_pos (.inl e)]

/-! ## One head changed -/

/-- Of the blocks' state in `f`, head `h` alone has become `x` in `k`, and the reports `rs` were raised. -/
structure HeadBecomes (h : Fin 8) (f k : Flow) (x : Head) (rs : List Report) : Prop where
  plant : k.toPlant = { f.toPlant with heads := f.heads.put h x }
  out : k.out = f.out ++ rs

theorem headBecomes_refl (h : Fin 8) (f : Flow) : HeadBecomes h f f (f.heads.nth h) [] :=
  ⟨by rw [put_nth_self], by simp⟩

namespace HeadBecomes

variable {h : Fin 8} {f k : Flow} {x : Head} {rs : List Report} (b : HeadBecomes h f k x rs)

include b

theorem heads : k.heads = f.heads.put h x := congrArg Plant.heads b.plant

theorem head : k.heads.nth h = x := by rw [b.heads, Tbl.nth_put_same]

theorem only : OnlyHead h f.toPlant k.toPlant := by
  unfold OnlyHead
  rw [b.head]
  exact b.plant

theorem change (v : Base) (fn : Head → Head) :
    HeadBecomes h f (changeHead v h fn k) (headAfter v h fn x) (rs ++ aspectsOf v h x (headAfter v h fn x)) := by
  constructor
  · have e : k.heads.upd h (headAfter v h fn) = f.heads.put h (headAfter v h fn x) := by
      rw [Tbl.upd, b.head, b.heads, put_put_same]
    rw [toPlant_changeHead, e, b.plant]
  · rw [out_changeHead, b.head, b.out, List.append_assoc]
    rfl

theorem told (v : Base) (c : RClass) (code : Nat) (fields : List Byte) :
    HeadBecomes h f (raise v c code fields k) x (rs ++ [reportNow v c code fields]) :=
  ⟨b.plant, by rw [out_raise, b.out, List.append_assoc]; rfl⟩

end HeadBecomes

/-! ## A lamp that fails (04/R72, R74, R75) -/

/-- LAMP_FAIL of a lamp. -/
def lampFailNow (v : Base) (h : Fin 8) (l : Lamp) (x : Head) : Report :=
  reportNow v .alarm 0x07 (u1 h.val ++ u1 (lampCode l) ++ u1 x.shown.code)

/-- What a failed lamp makes of its head. -/
def Head.failed (v : Base) (l : Lamp) (x : Head) : Head :=
  let dead : Head := { x with good := x.good.put l false }
  if l = .gn then { dead with shown := .stop, pending := true }
  else if dead.lostRed ∧ x.shown = .prepare then dead.stop v .stop else dead

/-- A change depends on the function at the record alone. -/
theorem changeHead_congr {v : Base} {h : Fin 8} {fn gn : Head → Head} {f : Flow} (e : fn (f.heads.nth h) = gn (f.heads.nth h)) :
    changeHead v h fn f = changeHead v h gn f := by
  rw [changeHead_eq, changeHead_eq]
  unfold headAfter
  rw [e]

theorem failLamp_eq (v : Base) (h : Fin 8) (l : Lamp) (f : Flow) : failLamp v h l f = changeHead v h (Head.failed v l)
    (raise v .alarm 0x07 (u1 h.val ++ u1 (lampCode l) ++ u1 (f.heads.nth h).shown.code) f) := by
  have red (l : Lamp) (ne : l ≠ .gn) : (if ({ f.heads.nth h with good := (f.heads.nth h).good.put l false } : Head).lostRed
        ∧ (f.heads.nth h).shown = .prepare then
      changeHead v h (fun y => ({ y with good := y.good.put l false } : Head).stop v .stop)
        (raise v .alarm 0x07 (u1 h.val ++ u1 (lampCode l) ++ u1 (f.heads.nth h).shown.code) f)
      else changeHead v h (fun y => { y with good := y.good.put l false })
        (raise v .alarm 0x07 (u1 h.val ++ u1 (lampCode l) ++ u1 (f.heads.nth h).shown.code) f))
      = changeHead v h (Head.failed v l)
        (raise v .alarm 0x07 (u1 h.val ++ u1 (lampCode l) ++ u1 (f.heads.nth h).shown.code) f) := by
    split
    · next c => exact changeHead_congr ((if_neg ne).trans (if_pos c)).symm
    · next c => exact changeHead_congr ((if_neg ne).trans (if_neg c)).symm
  cases l
  · exact red .ra (by decide)
  · exact red .rb (by decide)
  · unfold failLamp
    dsimp only
    exact changeHead_congr rfl

theorem headBecomes_failLamp (v : Base) (h : Fin 8) (l : Lamp) (f : Flow) :
    HeadBecomes h f (failLamp v h l f) (headAfter v h (Head.failed v l) (f.heads.nth h))
      ([lampFailNow v h l (f.heads.nth h)]
        ++ aspectsOf v h (f.heads.nth h) (headAfter v h (Head.failed v l) (f.heads.nth h))) := by
  rw [failLamp_eq]
  exact ((headBecomes_refl h f).told v .alarm 0x07 _).change v _

theorem failed_good (v : Base) (l : Lamp) (x : Head) : (x.failed v l).good = x.good.put l false := by
  unfold Head.failed
  dsimp only
  (repeat' split) <;> rfl

theorem failed_holder (v : Base) (l : Lamp) (x : Head) : (x.failed v l).holder = x.holder := by
  unfold Head.failed
  dsimp only
  (repeat' split) <;> rfl

/-- Settles O40: the health, the shown aspect of a GN that fails, and the two reports. -/
theorem provingTimeoutFailsTheLamp : Obligations.ProvingTimeoutFailsTheLamp := by
  intro h l k s hp good driven timer due
  have b := headBecomes_failLamp s.base h l s.flow
  have health : ((failLamp s.base h l s.flow).heads.nth h).good = (s.plant.heads.nth h).good.put l false := by
    rw [b.head, good_headAfter, failed_good, toPlant_flow]
  have dark : ((failLamp s.base h l s.flow).heads.nth h).driven.nth l = false := by
    rw [← Bool.not_eq_true]
    intro c
    have g := good_of_driven c
    rw [health, lamps_nth_put_same] at g
    cases g
  obtain ⟨staged, pending, holder, -, -⟩ := headAfter_keeps s.base h (Head.failed s.base l) (s.plant.heads.nth h)
  refine ⟨failLamp s.base h l s.flow, ?_, b.only, by rw [health, lamps_nth_put_same], dark,
    fun m ne => by rw [health, lamps_nth_put_other _ ne], ?_, fun gn => ?_, ?_⟩
  · show execLampFail h l s = _
    unfold execLampFail
    have ran : LampTimer.due s.base (some k) = true := decide_eq_true due
    dsimp only
    rw [if_pos (by rw [hp, good, driven, timer, ran]; rfl)]
  · rw [b.head]
    exact holder.trans (failed_holder _ _ _)
  · have hf : (s.plant.heads.nth h).failed s.base l
        = { s.plant.heads.nth h with good := (s.plant.heads.nth h).good.put l false, shown := .stop, pending := true } := by
      unfold Head.failed
      rw [if_pos gn]
    have out : (s.plant.heads.nth h).driven.gn = true ∧ ((s.plant.heads.nth h).failed s.base l).driven.gn = false := by
      subst gn
      exact ⟨driven, by rw [hf]; rfl⟩
    rw [b.head]
    exact ⟨(shown_headAfter _ _ _ _).trans (by rw [toPlant_flow, hf]), pending.trans (by rw [hf]), staged.trans (by rw [hf]),
      (goEnd_headAfter _ _ _ _).trans (if_pos out)⟩
  · have changed : headAfter s.base h (Head.failed s.base l) (s.plant.heads.nth h) = (failLamp s.base h l s.flow).heads.nth h := b.head.symm
    have aspects : aspectsOf s.base h (s.plant.heads.nth h) ((failLamp s.base h l s.flow).heads.nth h)
        = [aspectNow s.base h ((failLamp s.base h l s.flow).heads.nth h)] := by
      refine if_pos (.inr fun e => ?_)
      rw [e, driven] at dark
      cases dark
    rw [b.out, toPlant_flow, changed, aspects]
    rfl

end Sys2Proof.Machine
end

section
/-! The current sensed on a lamp, a lamp reset, and a pending green applied (04/R68 to R77). -/

namespace Sys2Proof.Machine

/-! ## The current sense and the stray mark (04/R72, R73, R76) -/

/-- What current that ceases on a lamp with a stray mark makes of its head. -/
def Head.unmarked (v : Base) (l : Lamp) (x : Head) : Head :=
  { x with mark := x.mark.put l false, goEnd := if l = .gn then v.elapsed else x.goEnd }

section Same

variable {v : Base} {h : Fin 8} {fn : Head → Head} {x : Head} (hg : (fn x).good = x.good)

include hg

theorem aspectsOf_after : aspectsOf v h x (headAfter v h fn x)
    = if (fn x).shown = x.shown then [] else [aspectNow v h (headAfter v h fn x)] := by
  rw [aspectsOf_same_health ((good_headAfter v h fn x).trans hg), shown_headAfter]

theorem aspectsOf_still (hs : (fn x).shown = x.shown) : aspectsOf v h x (headAfter v h fn x) = [] := by
  rw [aspectsOf_after hg, if_pos hs]

end Same

theorem senseLamp_clears {v : Base} {h : Fin 8} {l : Lamp} {f : Flow} (mark : (f.heads.nth h).mark.nth l = true)
    (cur : (v.pins.lampCurrent.nth h).nth l = false) :
    HeadBecomes h f (senseLamp v h l f) (headAfter v h (Head.unmarked v l) (f.heads.nth h))
      [reportNow v .alarm 0x08 (u1 h.val ++ u1 (lampCode l) ++ b1 true)] := by
  have b := (headBecomes_refl h f).change v (Head.unmarked v l)
  rw [aspectsOf_still rfl rfl] at b
  rw [senseLamp]
  dsimp only
  rw [if_pos ⟨mark, cur⟩]
  exact b.told v _ _ _

theorem senseLamp_follows {v : Base} {h : Fin 8} {l : Lamp} {f : Flow}
    (n : ¬ ((f.heads.nth h).mark.nth l = true ∧ (v.pins.lampCurrent.nth h).nth l = false)) :
    HeadBecomes h f (senseLamp v h l f) (headAfter v h id (f.heads.nth h)) [] := by
  have b := (headBecomes_refl h f).change v id
  rw [aspectsOf_still rfl rfl] at b
  rw [senseLamp]
  dsimp only
  rw [if_neg n]
  exact b

theorem headBecomes_markStray (v : Base) (h : Fin 8) (l : Lamp) (f : Flow) :
    HeadBecomes h f (markStray v h l f) ((f.heads.nth h).marked l)
      [reportNow v .alarm 0x08 (u1 h.val ++ u1 (lampCode l) ++ b1 false)] := ⟨rfl, rfl⟩

/-- Settles O41: an input of the current sense; a change of a head; the lamps driven; the stray timer run. -/
theorem sensedCurrentStopsProvingAndClearsStray : Obligations.SensedCurrentStopsProvingAndClearsStray := by
  refine ⟨fun h l sensed s hp => ?input, fun v h fn f l => ?change, fun x => ⟨driven_ra x, ?_, ?_⟩,
    fun h l k s hp mark timer due => ?stray⟩
  case input =>
    let t := s.withPins { s.base.pins with lampCurrent := s.base.pins.lampCurrent.upd h fun x => x.put l sensed }
    have cur : (t.base.pins.lampCurrent.nth h).nth l = sensed := by
      have e : t.base.pins.lampCurrent.nth h = (s.base.pins.lampCurrent.nth h).put l sensed := Tbl.nth_put_same _ _ _
      rw [e, lamps_nth_put_same]
    have run : exec (.lampCurrentInput h l sensed) s = .next (t.conclude (senseLamp t.base h l t.flow)) := by
      show execLampCurrentInput h l sensed s = _
      unfold execLampCurrentInput
      dsimp only
      rw [if_pos hp]
    by_cases c : (s.plant.heads.nth h).mark.nth l = true ∧ sensed = false
    · obtain ⟨mark, rfl⟩ := c
      have b := senseLamp_clears (f := t.flow) mark cur
      refine ⟨_, run, b.only, nofun, fun _ => ?_, ?_, ?_, b.out.trans (if_pos ⟨mark, rfl⟩).symm⟩
      · rw [b.head, stray_headAfter, prove_headAfter, cur]
        refine ⟨if_neg (by simp), ?_, ?_, fun gn on => ?_⟩
        · rw [(headAfter_keeps _ _ _ _).2.2.2.2]
          exact lamps_nth_put_same _ _ _
        · simp only [and_true]
          rfl
        · rw [goEnd_headAfter]
          have stamp : (Head.unmarked t.base l (t.flow.heads.nth h)).goEnd = s.base.elapsed := if_pos gn
          rw [stamp]
          exact ite_self _
      · rw [b.head]
        exact shown_headAfter _ _ _ _
      · rw [b.head]
        exact good_headAfter _ _ _ _
    · have b := senseLamp_follows (f := t.flow) (v := t.base) (by rw [cur]; exact c)
      refine ⟨_, run, b.only, fun on => ?_, fun off => ?_, ?_, ?_, b.out.trans (if_neg c).symm⟩
      · rw [b.head, stray_headAfter, prove_headAfter, cur, on]
        refine ⟨if_neg (by simp), (headAfter_keeps _ _ _ _).2.2.2.2, ?_⟩
        cases e : (s.plant.heads.nth h).driven.nth l
        · exact if_pos ⟨e, rfl⟩
        · exact if_neg fun n => by
            rw [show (s.plant.heads.nth h).driven.nth l = false from n.1] at e
            cases e
      · have mark : (s.plant.heads.nth h).mark.nth l = false := by
          rw [← Bool.not_eq_true]
          exact fun on => c ⟨on, off⟩
        rw [b.head, stray_headAfter, prove_headAfter, cur, off]
        refine ⟨if_neg (by simp), ?_, ?_, fun gn on => ?_⟩
        · rw [(headAfter_keeps _ _ _ _).2.2.2.2]
          exact mark
        · simp only [and_true]
          rfl
        · subst gn
          rw [show (s.plant.heads.nth h).mark.gn = false from mark] at on
          cases on
      · rw [b.head]
        exact shown_headAfter _ _ _ _
      · rw [b.head]
        exact good_headAfter _ _ _ _
  case change =>
    have b := (headBecomes_refl h f).change v fn
    intro y x current
    rw [show x = _ from b.head]
    exact ⟨shown_headAfter _ _ _ _, good_headAfter _ _ _ _, prove_headAfter _ _ _ _ _, stray_headAfter _ _ _ _ _⟩
  · exact driven_rb x
  · rw [driven_iff, stopping_false_iff]
  case stray =>
    have b := headBecomes_markStray s.base h l s.flow
    refine ⟨_, ?_, b.only, ?_, b.out⟩
    · show execLampStray h l s = _
      unfold execLampStray
      have ran : LampTimer.due s.base (some k) = true := decide_eq_true due
      dsimp only
      rw [if_pos (by rw [hp, mark, timer, ran]; rfl)]
    · rw [b.head]
      have waved : ((s.plant.heads.nth h).waved && !(s.plant.heads.nth h).waivedLit l)
          = if l = .gn ∧ (s.plant.heads.nth h).good.gn = true then false else (s.plant.heads.nth h).waved := by
        unfold Head.waivedLit
        by_cases gn : l = .gn <;> cases (s.plant.heads.nth h).good.gn <;> cases (s.plant.heads.nth h).waved <;> simp [gn]
      exact congrArg (fun w => { s.plant.heads.nth h with mark := (s.plant.heads.nth h).mark.put l true, waved := w }) waved

/-! ## The conditions of a green (04/R68, R70, R76) -/

theorem mem_conflictSet {h k : Fin 8} : k ∈ conflictSet h ↔
    k ≠ h ∧ (k.val / 2 = h.val / 2 ∨ k.val / 2 + 1 = h.val / 2 ∨ h.val / 2 + 1 = k.val / 2) := by
  revert h k
  decide

theorem lit_eq (x : Head) : x.lit = true ↔
    ((x.shown = .prepare ∨ x.shown = .go) ∧ x.good.gn = true) ∨ x.mark.gn = true := by
  rw [Head.lit, Bool.or_eq_true, driven_iff, stopping_false_iff]

theorem lostRed_iff (x : Head) : x.lostRed = true ↔ x.good.ra = false ∧ x.good.rb = false := by
  rw [Head.lostRed, Bool.and_eq_true, Bool.not_eq_true', Bool.not_eq_true']

theorem conflictUndriven_iff {p : Plant} {h : Fin 8} : conflictUndriven p h = true ↔
    ∀ k, k ∈ conflictSet h → ¬ (p.heads.nth k).driven.gn = true := by
  simp only [conflictUndriven, List.all_eq_true, Bool.not_eq_true', Bool.not_eq_true]

theorem conflictFree_iff {p : Plant} {h : Fin 8} : conflictFree p h = true ↔
    ∀ k, k ∈ conflictSet h → ¬ (p.heads.nth k).lit = true ∧ (p.heads.nth k).waved = false := by
  simp only [conflictFree, List.all_eq_true, Bool.and_eq_true, Bool.not_eq_true', Bool.not_eq_true]

theorem marginElapsed_iff {v : Base} {p : Plant} {h : Fin 8} : marginElapsed v p h = true ↔
    ∀ k, (k = h ∨ k ∈ conflictSet h) → (p.heads.nth k).goEnd + v.settings.clearMargin ≤ v.elapsed := by
  simp only [marginElapsed, List.all_eq_true, List.mem_cons, decide_eq_true_eq]

/-- The gate's part of the conditions, with the reds' for PREPARE. -/
def greenGate (p : Plant) (h : Fin 8) (a : Aspect) : Prop :=
  (a = .prepare ∧ ((p.gates.nth (gateOf h)).st = .opening ∨ (p.gates.nth (gateOf h)).st = .opened)
      ∧ ((p.heads.nth h).good.ra = true ∨ (p.heads.nth h).good.rb = true))
    ∨ (a = .go ∧ (p.gates.nth (gateOf h)).st = .opened)

theorem greenReady_iff {v : Base} {p : Plant} {h : Fin 8} {a : Aspect} : greenReady v p h a = true ↔
    greenGate p h a ∧ (p.heads.nth h).good.gn = true ∧ conflictUndriven p h = true
      ∧ ((p.heads.nth h).lit = true ∨ (conflictFree p h = true ∧ marginElapsed v p h = true)) := by
  have red : (!(p.heads.nth h).lostRed) = true ↔ ((p.heads.nth h).good.ra = true ∨ (p.heads.nth h).good.rb = true) := by
    rw [Head.lostRed, Bool.not_eq_true', Bool.and_eq_false_iff, Bool.not_eq_false', Bool.not_eq_false']
  unfold greenReady greenGate
  dsimp only
  rw [Bool.and_eq_true, Bool.and_eq_true, Bool.and_eq_true, Bool.or_eq_true, Bool.and_eq_true, and_assoc, and_assoc]
  refine and_congr_left fun _ => ?_
  cases a <;> simp [red]

/-! ## A pending green (04/R68) -/

theorem tryGreen_waits {v : Base} {h : Fin 8} {f : Flow}
    (n : (f.heads.nth h).pending = false ∨ greenReady v f.toPlant h (f.heads.nth h).staged = false) :
    tryGreen v h f = f := by
  refine if_neg ?_
  rw [Bool.and_eq_true]
  rintro ⟨c, d⟩
  obtain n | n := n
  · rw [n] at c
    cases c
  · rw [n] at d
    cases d

theorem HeadBecomes.applied {v : Base} {h : Fin 8} {f k : Flow} {x : Head} {rs : List Report} (b : HeadBecomes h f k x rs)
    (pending : x.pending = true) (ready : greenReady v k.toPlant h x.staged = true) :
    HeadBecomes h f (tryGreen v h k) (headAfter v h Head.green x) (rs ++ aspectsOf v h x (headAfter v h Head.green x)) := by
  have e : tryGreen v h k = changeHead v h Head.green k := if_pos (by rw [b.head, pending, ready]; rfl)
  rw [e]
  exact b.change v _

/-- A pending green is applied or the head stands. -/
theorem HeadBecomes.tries {v : Base} {h : Fin 8} {f k : Flow} {x : Head} {rs : List Report} (b : HeadBecomes h f k x rs) :
    (tryGreen v h k = k ∧ HeadBecomes h f (tryGreen v h k) x rs)
      ∨ (x.pending = true ∧ HeadBecomes h f (tryGreen v h k) (headAfter v h Head.green x)
        (rs ++ aspectsOf v h x (headAfter v h Head.green x))) := by
  by_cases n : x.pending = false ∨ greenReady v k.toPlant h x.staged = false
  · have e : tryGreen v h k = k := tryGreen_waits (by rw [b.head]; exact n)
    refine .inl ⟨e, ?_⟩
    rw [e]
    exact b
  · obtain ⟨p, r⟩ := not_or.mp n
    rw [Bool.not_eq_false] at p r
    exact .inr ⟨p, b.applied p r⟩

theorem exec_clearanceMarginExpiry {h : Fin 8} {s : State} (hp : s.powered = true) :
    exec (.clearanceMarginExpiry h) s = .next (s.conclude (tryGreen s.base h s.flow)) := by
  show execClearanceMarginExpiry h s = _
  unfold execClearanceMarginExpiry
  rw [if_pos hp]

/-! ## A lamp reset (04/R77) -/

/-- The named lamps GOOD, the proving timers of those that were not reset. -/
def Head.mended (ls : List Lamp) (x : Head) : Head :=
  ls.foldl (fun y l => if y.good.nth l then y else { y with good := y.good.put l true, prove := y.prove.put l none }) x

theorem mended_good (ls : List Lamp) (x : Head) : (∀ l ∈ ls, (x.mended ls).good.nth l = true)
    ∧ (∀ l, (x.good.nth l = true → (x.mended ls).good.nth l = true)
      ∧ (l ∉ ls → (x.mended ls).good.nth l = x.good.nth l)) := by
  induction ls generalizing x with
  | nil => exact ⟨nofun, fun _ => ⟨id, fun _ => rfl⟩⟩
  | cons m ls ih =>
    obtain ⟨named, rest⟩ := ih
      (if x.good.nth m then x else { x with good := x.good.put m true, prove := x.prove.put m none })
    have e : x.mended (m :: ls)
      = (if x.good.nth m then x else { x with good := x.good.put m true, prove := x.prove.put m none }).mended ls := rfl
    rw [e]
    have one (l : Lamp) : (if x.good.nth m then x
        else { x with good := x.good.put m true, prove := x.prove.put m none } : Head).good.nth l
        = if l = m then true else x.good.nth l := by
      by_cases h : x.good.nth m = true
      · rw [if_pos h]
        split
        · next k => rw [k, h]
        · rfl
      · rw [if_neg h]
        split
        · next k => rw [k]; exact lamps_nth_put_same _ _ _
        · next k => exact lamps_nth_put_other _ k _
    refine ⟨fun l hl => ?_, fun l => ⟨fun good => ?_, fun hl => ?_⟩⟩
    · obtain k | hl := List.mem_cons.mp hl
      · exact (rest l).1 (by rw [one, if_pos k])
      · exact named l hl
    · refine (rest l).1 ?_
      rw [one, good]
      exact ite_self _
    · rw [List.mem_cons, not_or] at hl
      rw [(rest l).2 hl.2, one, if_neg hl.1]

theorem mended_shown (ls : List Lamp) (x : Head) : (x.mended ls).shown = x.shown := by
  induction ls generalizing x with
  | nil => rfl
  | cons m ls ih =>
    rw [show x.mended (m :: ls) = (if x.good.nth m then x
      else { x with good := x.good.put m true, prove := x.prove.put m none }).mended ls from rfl, ih]
    split <;> rfl

theorem mem_aspectsOf {v : Base} {h : Fin 8} {old x : Head} {r : Report} (hr : r ∈ aspectsOf v h old x) :
    r = aspectNow v h x := by
  unfold aspectsOf at hr
  split at hr
  · exact List.mem_singleton.mp hr
  · cases hr

/-- Where no ASPECT was raised, the head shows and drives what it did. -/
theorem aspectsOf_eq_nil {v : Base} {h : Fin 8} {old x : Head} (e : aspectsOf v h old x = []) :
    x.shown = old.shown ∧ x.driven = old.driven := by
  unfold aspectsOf at e
  split at e
  · cases e
  · next n => simpa only [not_or, not_not] using n

/-- The reset is one change of the head, or two. -/
theorem headBecomes_resetLamps (v : Base) (h : Fin 8) (ls : List Lamp) (f : Flow) : ∃ x rs,
    HeadBecomes h f (resetLamps v h ls f) x rs ∧ x.good = ((f.heads.nth h).mended ls).good
    ∧ (∀ r ∈ rs, ∃ y : Head, r = aspectNow v h y ∧ y.good = x.good)
    ∧ (rs = [] → x.shown = (f.heads.nth h).shown ∧ x.driven = (f.heads.nth h).driven) := by
  have b := (headBecomes_refl h f).change v (Head.mended ls)
  have e : resetLamps v h ls f = tryGreen v h (changeHead v h (Head.mended ls) f) := rfl
  rw [e]
  have good := good_headAfter v h (Head.mended ls) (f.heads.nth h)
  obtain ⟨-, b⟩ | ⟨-, b⟩ := b.tries (v := v)
  · exact ⟨_, _, b, good, fun r hr => ⟨_, mem_aspectsOf hr, rfl⟩, fun e => aspectsOf_eq_nil e⟩
  · have again : (headAfter v h Head.green (headAfter v h (Head.mended ls) (f.heads.nth h))).good
        = ((f.heads.nth h).mended ls).good := (good_headAfter _ _ _ _).trans good
    refine ⟨_, _, b, again, fun r hr => ?_, fun e => ?_⟩
    · obtain hr | hr := List.mem_append.mp hr
      · exact ⟨_, mem_aspectsOf hr, good.trans again.symm⟩
      · exact ⟨_, mem_aspectsOf hr, rfl⟩
    · obtain ⟨e1, e2⟩ := List.append_eq_nil_iff.mp e
      obtain ⟨s1, d1⟩ := aspectsOf_eq_nil e1
      obtain ⟨s2, d2⟩ := aspectsOf_eq_nil e2
      exact ⟨s2.trans s1, d2.trans d1⟩

/-- Settles O42: the reset of lamps; the conditions of a green; the expiry of the margin. -/
theorem lampResetAndMarginExpiry : Obligations.LampResetAndMarginExpiry := by
  refine ⟨fun rq h code ls s adm named => ?reset, fun v p h a => ?ready, fun h s hp n => ?_, fun h s hp pending ready => ?applied⟩
  case reset =>
    obtain ⟨x, rs, b, good, reports, still⟩ := headBecomes_resetLamps s.base h ls s.flow
    obtain ⟨all, rest⟩ := mended_good ls (s.flow.heads.nth h)
    refine ⟨resetLamps s.base h ls s.flow, ?_, b.only, fun l hl => ?_, fun l hl => ?_, fun r hr => ?_, fun changed => ?_⟩
    · exact congrArg _ (serve_accept adm (by simp only [unit?_val, named]; rfl))
    · rw [b.head, good]
      exact all l hl
    · rw [b.head, good]
      exact (rest l).2 hl
    · rw [b.head]
      rw [b.out] at hr
      exact reports r hr
    · rw [b.head] at changed
      rw [b.out]
      intro e
      obtain ⟨hs, hd⟩ := still e
      exact changed.elim (fun c => c hs) fun c => c hd
  case ready =>
    intro x gate rival drives lit
    have dr (k : Fin 8) : (p.heads.nth k).driven.gn = true ↔ drives k := by rw [driven_iff, stopping_false_iff]
    have lt (k : Fin 8) : (p.heads.nth k).lit = true ↔ lit k := lit_eq _
    have rv (k : Fin 8) : k ∈ conflictSet h ↔ rival k := mem_conflictSet
    have undriven : conflictUndriven p h = true ↔ ∀ k, rival k → ¬ drives k := by
      simp only [conflictUndriven_iff, dr, rv]
    have free : conflictFree p h = true ↔ ∀ k, rival k → ¬ lit k ∧ (p.heads.nth k).waved = false := by
      simp only [conflictFree_iff, lt, rv]
    have margin : marginElapsed v p h = true ↔
        ∀ k, (k = h ∨ rival k) → (p.heads.nth k).goEnd + v.settings.clearMargin ≤ v.elapsed := by
      simp only [marginElapsed_iff, rv]
    exact greenReady_iff.trans (and_congr_right fun _ => and_congr_right fun _ =>
      and_congr undriven (or_congr (lt h) (and_congr free margin)))
  · rw [exec_clearanceMarginExpiry hp, tryGreen_waits (f := s.flow) n]
  case applied =>
    have b := (headBecomes_refl h s.flow).applied pending ready
    obtain ⟨-, pend, -, waved, -⟩ := headAfter_keeps s.base h Head.green (s.plant.heads.nth h)
    refine ⟨_, exec_clearanceMarginExpiry hp, b.only, ?_, ?_, ?_, ?_⟩
    · rw [b.head]
      exact shown_headAfter _ _ _ _
    · rw [b.head]
      exact pend
    · rw [b.head]
      exact waved
    · rw [b.out, b.head, aspectsOf_after (fn := Head.green) (by rfl)]
      exact if_congr eq_comm rfl rfl

end Sys2Proof.Machine
end

section
/-! The keeper's commands to the heads (04/R67, R68, R71 to R73, R78). -/

namespace Sys2Proof.Machine

/-! ## The timers of a head that is commanded (04/R72, R73) -/

/-- The lamp timers of `y`, which was `x`: off where their condition fails, fresh where it begins. -/
def FreshTimers (v : Base) (h : Fin 8) (x y : Head) : Prop := ∀ l : Lamp,
  ((y.driven.nth l = false ∨ (v.pins.lampCurrent.nth h).nth l = true) → y.prove.nth l = none)
  ∧ ((y.driven.nth l = true ∨ (v.pins.lampCurrent.nth h).nth l = false) → y.stray.nth l = none)
  ∧ (x.driven.nth l = false → y.driven.nth l = true → x.prove.nth l = none →
    (v.pins.lampCurrent.nth h).nth l = false → y.prove.nth l = some ⟨v.elapsed, v.settings.lampProving⟩)
  ∧ (x.driven.nth l = true → y.driven.nth l = false → x.stray.nth l = none →
    (v.pins.lampCurrent.nth h).nth l = true → y.stray.nth l = some ⟨v.elapsed, v.settings.lampProving⟩)

theorem freshTimers_headAfter {v : Base} {h : Fin 8} {fn : Head → Head} {x : Head} (hp : (fn x).prove = x.prove)
    (hs : (fn x).stray = x.stray) : FreshTimers v h x (headAfter v h fn x) := by
  intro l
  rw [driven_headAfter, prove_headAfter, stray_headAfter, hp, hs]
  refine ⟨fun c => if_neg ?_, fun c => if_neg ?_, fun _ on fresh off => ?_, fun _ off fresh on => ?_⟩
  · rintro ⟨d, e⟩
    rw [d, e] at c
    simp at c
  · rintro ⟨d, e⟩
    rw [d, e] at c
    simp at c
  · rw [if_pos ⟨on, off⟩, fresh]
    rfl
  · rw [if_pos ⟨off, on⟩, fresh]
    rfl

/-- A change of the lamps driven that follows one that leaves them. -/
theorem FreshTimers.trans {v : Base} {h : Fin 8} {x z y : Head} (a : FreshTimers v h x z) (b : FreshTimers v h z y)
    (e : z.driven = x.driven) : FreshTimers v h x y := by
  intro l
  obtain ⟨prove, stray, -, -⟩ := a l
  obtain ⟨off, out, lit, gone⟩ := b l
  rw [e] at prove stray lit gone
  exact ⟨off, out, fun d on _ => lit d on (prove (.inl d)), fun d no _ => gone d no (stray (.inl d))⟩

/-! ## What the keeper stages (04/R67, R68, R78) -/

/-- A stopping aspect staged and applied, and the head's holder with it. -/
def Head.stopFor (v : Base) (a : Aspect) (o : Owner) (x : Head) : Head := { x.stop v a with holder := o }

section Stage

variable {v : Base} {h : Fin 8} {a : Aspect} {f : Flow}

theorem keeperStage_stops (st : a.stopping = true) :
    keeperStage v h a f = changeHead v h (Head.stopFor v a .keeper) f := if_pos st

/-- A change of a head that keeps the health and the timers of its lamps. -/
theorem headBecomes_shows {fn : Head → Head} (hg : (fn (f.heads.nth h)).good = (f.heads.nth h).good)
    (hp : (fn (f.heads.nth h)).prove = (f.heads.nth h).prove) (hs : (fn (f.heads.nth h)).stray = (f.heads.nth h).stray) :
    HeadBecomes h f (changeHead v h fn f) (headAfter v h fn (f.heads.nth h))
      (if (headAfter v h fn (f.heads.nth h)).shown = (f.heads.nth h).shown then []
        else [aspectNow v h (headAfter v h fn (f.heads.nth h))])
    ∧ FreshTimers v h (f.heads.nth h) (headAfter v h fn (f.heads.nth h)) := by
  have b := (headBecomes_refl h f).change v fn
  rw [aspectsOf_same_health ((good_headAfter _ _ _ _).trans hg)] at b
  exact ⟨b, freshTimers_headAfter hp hs⟩

/-- A head that is stopped shows the aspect at once (04/R67). -/
theorem changeHead_stopFor (v : Base) (h : Fin 8) (a : Aspect) (o : Owner) (f : Flow) :
    let k := changeHead v h (Head.stopFor v a o) f
    OnlyHead h f.toPlant k.toPlant ∧ (k.heads.nth h).holder = o ∧ (k.heads.nth h).shown = a ∧ (k.heads.nth h).staged = a
      ∧ (k.heads.nth h).pending = false ∧ (k.heads.nth h).waved = false
      ∧ k.out = f.out ++ (if (k.heads.nth h).shown = (f.heads.nth h).shown then [] else [aspectNow v h (k.heads.nth h)])
      ∧ FreshTimers v h (f.heads.nth h) (k.heads.nth h) := by
  obtain ⟨b, timers⟩ := headBecomes_shows (v := v) (h := h) (f := f) (fn := Head.stopFor v a o) rfl rfl rfl
  obtain ⟨staged, pend, holder, waved, -⟩ := headAfter_keeps v h (Head.stopFor v a o) (f.heads.nth h)
  have shown := shown_headAfter v h (Head.stopFor v a o) (f.heads.nth h)
  intro k
  rw [b.head]
  exact ⟨b.only, holder, shown, staged, pend, waved, b.out, timers⟩

section Green

variable (st : a.stopping = false)

include st

/-- A green already shown, nothing pending: the holder alone changes. -/
theorem keeperStage_takes (shown : (f.heads.nth h).shown = a) (none : (f.heads.nth h).pending = false) :
    keeperStage v h a f = changeHead v h (fun x => { x with holder := .keeper }) f := by
  rw [keeperStage, if_neg (by rw [st]; decide)]
  exact if_pos ⟨shown, none⟩

theorem keeperStage_stages (n : ¬ ((f.heads.nth h).shown = a ∧ (f.heads.nth h).pending = false)) :
    keeperStage v h a f = tryGreen v h (changeHead v h (Head.stageGreen a .keeper) f) := by
  rw [keeperStage, if_neg (by rw [st]; decide)]
  exact if_neg n

/-- A green staged by the keeper: the aspect is shown, or waits on a head that shows what it showed. -/
theorem headBecomes_keeperGreen : ∃ x, HeadBecomes h f (keeperStage v h a f) x
      (if x.shown = (f.heads.nth h).shown then [] else [aspectNow v h x])
    ∧ x.holder = .keeper ∧ (x.pending = false → x.shown = a)
    ∧ (x.pending = true → x.shown = (f.heads.nth h).shown ∧ x.staged = a) ∧ FreshTimers v h (f.heads.nth h) x := by
  by_cases n : (f.heads.nth h).shown = a ∧ (f.heads.nth h).pending = false
  · obtain ⟨shown, pending⟩ := n
    obtain ⟨b, timers⟩ := headBecomes_shows (v := v) (h := h) (f := f) (fn := fun x => { x with holder := .keeper }) rfl rfl rfl
    obtain ⟨-, pend, holder, -, -⟩ := headAfter_keeps v h (fun x => { x with holder := .keeper }) (f.heads.nth h)
    have same := shown_headAfter v h (fun x => { x with holder := .keeper }) (f.heads.nth h)
    rw [keeperStage_takes st shown pending]
    refine ⟨_, b, holder, fun _ => same.trans shown, fun c => ?_, timers⟩
    rw [show _ = (f.heads.nth h).pending from pend, pending] at c
    cases c
  · have b := (headBecomes_refl h f).change v (Head.stageGreen a .keeper)
    have timers : FreshTimers v h (f.heads.nth h) (headAfter v h (Head.stageGreen a .keeper) (f.heads.nth h)) :=
      freshTimers_headAfter rfl rfl
    have lamps : (headAfter v h (Head.stageGreen a .keeper) (f.heads.nth h)).driven = (f.heads.nth h).driven :=
      driven_headAfter _ _ _ _
    obtain ⟨staged, pend, holder, -, -⟩ := headAfter_keeps v h (Head.stageGreen a .keeper) (f.heads.nth h)
    have same := shown_headAfter v h (Head.stageGreen a .keeper) (f.heads.nth h)
    have good := good_headAfter v h (Head.stageGreen a .keeper) (f.heads.nth h)
    rw [aspectsOf_still (by rfl) (by rfl)] at b
    rw [keeperStage_stages st n]
    generalize headAfter v h (Head.stageGreen a .keeper) (f.heads.nth h) = x at *
    obtain ⟨-, b⟩ | ⟨-, b⟩ := b.tries (v := v)
    · refine ⟨x, ?_, holder, fun c => ?_, fun _ => ⟨same, staged⟩, timers⟩
      · rw [if_pos (show x.shown = (f.heads.nth h).shown from same)]
        exact b
      · rw [pend] at c
        cases c
    · obtain ⟨-, pend, keep, -, -⟩ := headAfter_keeps v h Head.green x
      have shown := shown_headAfter v h Head.green x
      rw [aspectsOf_same_health (old := x) (good_headAfter v h Head.green x), show x.shown = (f.heads.nth h).shown from same] at b
      refine ⟨_, b, keep.trans holder, fun _ => shown.trans staged, fun c => ?_,
        timers.trans (freshTimers_headAfter rfl rfl) lamps⟩
      rw [pend] at c
      cases c

end Green

end Stage

theorem aspectBarred_iff {x : Head} {a : Aspect} : aspectBarred x a = true ↔
    (a.stopping = false ∧ x.good.gn = false) ∨ (a = .prepare ∧ x.good.ra = false ∧ x.good.rb = false) := by
  rw [aspectBarred, Bool.or_eq_true, Bool.and_eq_true, Bool.and_eq_true, Bool.not_eq_true', Bool.not_eq_true', beq_iff_eq,
    lostRed_iff]

section Commands

variable {rq : Rq} {h : Fin 8} {s : State} (adm : Admitted s rq 0)

include adm

theorem exec_headCmdAspect_barred {code : Nat} {a : Aspect} (ha : aspect? code = some a)
    (bar : s.plant.regime.mode = .auto ∨ aspectBarred (s.plant.heads.nth h) a = true) :
    exec (.headCmdAspect rq h.val code) s = .next (s.no rq 0x29 .state []) :=
  congrArg _ (serve_refuse adm (by simp only [unit?_val, ha]; exact if_pos bar))

theorem exec_headCmdAspect {code : Nat} {a : Aspect} (ha : aspect? code = some a) (man : s.plant.regime.mode = .manual)
    (bar : ¬ aspectBarred (s.plant.heads.nth h) a = true) :
    exec (.headCmdAspect rq h.val code) s = .next ((s.conclude (keeperStage s.base h a s.flow)).ok rq 0x29
      (u1 ((keeperStage s.base h a s.flow).heads.nth h).shown.code
        ++ b1 ((keeperStage s.base h a s.flow).heads.nth h).pending)) := by
  refine congrArg _ (serve_accept adm ?_)
  simp only [unit?_val, ha]
  refine if_neg fun c => c.elim (fun auto => ?_) bar
  rw [man] at auto
  cases auto

end Commands

/-- Settles O43: the refusals; a stopping and a green aspect; the release. -/
theorem keeperStagesAndReleasesHeads : Obligations.KeeperStagesAndReleasesHeads := by
  refine ⟨fun rq n code s adm => ⟨fun hn => ?unknown, fun hn hc => ?noAspect⟩, fun rq h s adm => ?commands⟩
  case unknown =>
    have e : unit? 8 n = none := by simp [unit?]; omega
    exact ⟨congrArg _ (serve_refuse adm (by simp only [e]; rfl)), congrArg _ (serve_refuse adm (by simp only [e]; rfl))⟩
  case noAspect =>
    have e : unit? 8 n = some ⟨n, hn⟩ := by simp [unit?, hn]
    have c : aspect? code = none := by
      unfold aspect?
      split <;> first | omega | rfl
    exact congrArg _ (serve_refuse adm (by simp only [e, c]; rfl))
  case commands =>
    intro told timed
    refine ⟨fun code a ha => ⟨fun auto => exec_headCmdAspect_barred adm ha (.inl auto), fun man st => ?stops,
      fun man st gn red => ?greens, fun st gn => exec_headCmdAspect_barred adm ha (.inr (aspectBarred_iff.mpr (.inl ⟨st, gn⟩))),
      fun pr ra rb => exec_headCmdAspect_barred adm ha (.inr (aspectBarred_iff.mpr (.inr ⟨pr, ra, rb⟩)))⟩,
      fun man keeper => ?release, fun bar => ?barred⟩
    case stops =>
      have run := exec_headCmdAspect (h := h) adm ha man (by
        rw [aspectBarred_iff]
        rintro (⟨c, -⟩ | ⟨rfl, -⟩)
        · rw [st] at c
          cases c
        · cases st)
      rw [keeperStage_stops st] at run
      obtain ⟨only, holder, shown, staged, pend, waved, out, timers⟩ := changeHead_stopFor s.base h a .keeper s.flow
      rw [shown, pend] at run
      exact ⟨_, run, only, holder, shown, staged, pend, waved, out, timers⟩
    case greens =>
      obtain ⟨x, b, holder, applied, waits, timers⟩ := headBecomes_keeperGreen (v := s.base) (h := h) (f := s.flow) st
      have run := exec_headCmdAspect (h := h) adm ha man (by
        rw [aspectBarred_iff]
        rintro (⟨-, c⟩ | c)
        · rw [gn] at c
          cases c
        · exact red c)
      generalize keeperStage s.base h a s.flow = k at *
      refine ⟨k, run, b.only, ?_, ?_, ?_, ?_, ?_⟩
      · rw [b.head]; exact holder
      · rw [b.head]; exact applied
      · rw [b.head]; exact waits
      · show k.out = if (k.heads.nth h).shown = _ then [] else [aspectNow s.base h (k.heads.nth h)]
        rw [b.head]
        exact b.out
      · show FreshTimers s.base h (s.plant.heads.nth h) (k.heads.nth h)
        rw [b.head]
        exact timers
    case release =>
      obtain ⟨only, holder, shown, -, pend, -, out, timers⟩ :=
        changeHead_stopFor s.base h (restAspect s.plant.regime.condition h) .none s.flow
      have run : exec (.headCmdRelease rq h.val) s = .next ((s.conclude (giveHead s.base h s.flow)).ok rq 0x29
          (u1 ((giveHead s.base h s.flow).heads.nth h).shown.code ++ b1 ((giveHead s.base h s.flow).heads.nth h).pending)) := by
        refine congrArg _ (serve_accept adm ?_)
        simp only [unit?_val]
        refine if_neg fun c => c.elim (fun auto => ?_) fun n => n keeper
        rw [man] at auto
        cases auto
      have give : giveHead s.base h s.flow
          = changeHead s.base h (Head.stopFor s.base (restAspect s.plant.regime.condition h) .none) s.flow := rfl
      rw [give, shown, pend] at run
      exact ⟨_, run, only, holder, pend, shown, out, timers⟩
    case barred =>
      exact congrArg _ (serve_refuse adm (by simp only [unit?_val]; exact if_pos bar))

end Sys2Proof.Machine
end

section
/-! The log, the period, the settings, the tariff and the accounts as the requests change them (08/R140, R147, R154, R155;
10/R178). -/

namespace Sys2Proof.Machine

/-! ## The log and the period (08/R154, R155) -/

theorem oldestDiffers_iff {log : List LogRec} {oldest : Option Nat} : oldestDiffers log oldest = true ↔
    ∃ k r rest, oldest = some k ∧ log = r :: rest ∧ r.number ≠ k := by
  unfold oldestDiffers
  split
  · next n r rest =>
    refine bne_iff_ne.trans ⟨fun h => ⟨n, r, rest, rfl, rfl, h⟩, ?_⟩
    rintro ⟨_, _, _, ⟨⟩, ⟨⟩, h⟩
    exact h
  · next none =>
    refine ⟨nofun, ?_⟩
    rintro ⟨k, r, rest, rfl, rfl, -⟩
    exact absurd rfl (none k r rest rfl)

/-- Settles O57: a drop by its count and the oldest record; the close of the period. -/
theorem logDropAndPeriodCloseAct : Obligations.LogDropAndPeriodCloseAct := by
  refine ⟨fun rq n oldest s adm => ?drop, fun rq s adm => ?close⟩
  case drop =>
    intro log differs
    refine ⟨fun h => congrArg _ (serve_refuse adm (if_pos h)), fun h1 h2 few => congrArg _ (serve_refuse adm ?_),
      fun h1 h2 h3 d => congrArg _ (serve_refuse adm ?_), fun h1 h2 h3 same => ?_⟩
    · exact (if_neg (by omega)).trans (if_pos few)
    · exact (if_neg (by omega)).trans ((if_neg (not_lt.mpr h3)).trans (if_pos (oldestDiffers_iff.mpr d)))
    · exact ⟨_, congrArg _ (serve_accept adm ((if_neg (by omega)).trans ((if_neg (not_lt.mpr h3)).trans
        (if_neg fun d => same (oldestDiffers_iff.mp d))))), rfl, rfl⟩
  case close => exact ⟨_, _, congrArg _ (serve_accept adm rfl), rfl, rfl, rfl⟩

/-! ## What a setting is refused for (01/R13; 03/R45; 05/R98; 06/R104) -/

theorem min3_lt_iff (t : Tbl 3 Nat) (n : Nat) : min (t.nth 0) (min (t.nth 1) (t.nth 2)) < n ↔ ∃ j, t.nth j < n := by
  constructor
  · intro h
    obtain h | h | h : t.nth 0 < n ∨ t.nth 1 < n ∨ t.nth 2 < n := by omega
    · exact ⟨0, h⟩
    · exact ⟨1, h⟩
    · exact ⟨2, h⟩
  · rintro ⟨j, h⟩
    obtain rfl | rfl | rfl : j = 0 ∨ j = 1 ∨ j = 2 := by omega
    all_goals omega

theorem flightLength_lt_iff (v : Settings) (n : Nat) : v.flightLength < n ↔ ∃ j, v.usableLength.nth j < n :=
  min3_lt_iff v.usableLength n

theorem flightWidth_lt_iff (v : Settings) (n : Nat) : v.flightWidth < n ↔ ∃ j, v.usableWidth.nth j < n :=
  min3_lt_iff v.usableWidth n

section Refusal

variable (v : Settings) (ps : List Passage) (k : Setting) (x : Int)

theorem settingRefusal_together : settingRefusal v ps k x = some .together ↔
    (∃ b, (k = .lowLimit b ∨ k = .highLimit b)
      ∧ (v.write k x).highLimit.nth b - (v.write k x).lowLimit.nth b < 100)
    ∨ ((k = .nearBand ∨ k = .openTol) ∧ (v.write k x).nearBand ≤ (v.write k x).openTol) := by
  cases k <;> simp [settingRefusal]

theorem settingRefusal_state : settingRefusal v ps k x = some .state ↔ ∃ y ∈ ps,
    ((∃ i, k = .usableLength i) ∧ ∃ j, (v.write k x).usableLength.nth j < y.length)
    ∨ ((∃ i, k = .usableWidth i) ∧ ∃ j, (v.write k x).usableWidth.nth j < y.beam)
    ∨ (k = .maxBeam ∧ (v.write k x).maxBeam < y.beam) ∨ (k = .bypassLimit ∧ (v.write k x).bypassLimit < y.bypass) := by
  cases k <;> simp [settingRefusal, flightLength_lt_iff, flightWidth_lt_iff] <;> rfl

end Refusal

/-! ## What a setting does at once (01/R19; 03/R61; 06/R115, R116) -/

theorem settingTaken_other {s : State} {k : Setting} (hg : ¬ ∃ c, k = .gain c ∨ k = .offset c) (hi : k ≠ .idleHold)
    (hc : k ≠ .drawCount) (hw : k ≠ .drawWindow) : s.settingTaken k = s := by
  unfold State.settingTaken
  split
  · exact absurd ⟨_, .inl rfl⟩ hg
  · exact absurd ⟨_, .inr rfl⟩ hg
  · exact absurd rfl hi
  · exact absurd rfl hc
  · exact absurd rfl hw
  · rfl

theorem scanner_settingTaken {s : State} {k : Setting} (hg : ¬ ∃ c, k = .gain c ∨ k = .offset c) :
    (s.settingTaken k).base.scanner = s.base.scanner := by
  unfold State.settingTaken
  split
  · exact absurd ⟨_, .inl rfl⟩ hg
  · exact absurd ⟨_, .inr rfl⟩ hg
  all_goals rfl

theorem settingTaken_gauge {s : State} {k : Setting} {c : Fin 8} (h : k = .gain c ∨ k = .offset c) :
    s.settingTaken k = s.recalibrated c := by
  obtain rfl | rfl := h <;> rfl

/-- The idle-hold timer judged by the value now set (06/R116). -/
def idleAfter (v : Base) : IdleTimer → IdleTimer
  | .running since => if since + 10 * v.settings.idleHold ≤ v.elapsed then .expired else .running since
  | .stopped => .stopped
  | .expired => .expired

theorem toPlant_testIdle (v : Base) (f : Flow) :
    (testIdle v f).toPlant = { f.toPlant with sched := { f.sched with idle := idleAfter v f.sched.idle } } := by
  have kept {i : IdleTimer} (h : f.sched.idle = i) :
      f.toPlant = { f.toPlant with sched := { f.sched with idle := i } } := by rw [← h]
  unfold testIdle
  cases h : f.sched.idle with
  | stopped => exact kept h
  | expired => exact kept h
  | running since =>
    unfold idleAfter
    dsimp only
    split
    · rfl
    · exact kept h

theorem redecidePermit_none {v : Base} {f : Flow} (h : f.sched.permit = none) : redecidePermit v f = f := by
  unfold redecidePermit
  rw [h]

/-! ## The tariff and the accounts (08/R140, R147) -/

theorem badTariff_iff {t : Tariff} : badTariff t = none ↔ t.inRange := by
  unfold badTariff Tariff.inRange
  (repeat' split) <;> simp <;> omega

theorem badAccountSet_none {id presence st limit : Nat} (h1 : 1 ≤ id) (h2 : id ≤ 64) (hp : presence ≤ 3) (hs : st ≤ 1)
    (hl : limit ≤ 99999999) : badAccountSet id presence st limit = none := by
  unfold badAccountSet
  rw [if_neg (by rw [accountIdOk_iff.mpr ⟨h1, h2⟩]; decide), if_neg (by omega), if_neg (by omega), if_neg (by omega)]

theorem apply_eq (a : Account) {presence st : Nat} (limit : Nat) (hp : presence ≤ 3) : a.apply presence st limit = { a with
    blocked := if presence = 1 ∨ presence = 3 then decide (st = 1) else a.blocked
    limit := if presence = 2 ∨ presence = 3 then (limit : Int) else a.limit } := by
  have state : presence % 2 = 1 ↔ presence = 1 ∨ presence = 3 := by omega
  have bound : presence / 2 % 2 = 1 ↔ presence = 2 ∨ presence = 3 := by omega
  unfold Account.apply
  simp only [state, bound, beq_eq_decide]

theorem id_apply (a : Account) (presence st limit : Nat) : (a.apply presence st limit).id = a.id := rfl

/-- The account put in its place is found by its id. -/
theorem find?_putAccount_same (a : Account) (xs : List Account) :
    (putAccount a xs).find? (fun x => x.id == a.id) = some a := by
  have before : (xs.filter fun x => decide (x.id < a.id)).find? (fun x => x.id == a.id) = none := by
    rw [List.find?_eq_none]
    intro x hx
    have lt := of_decide_eq_true (List.mem_filter.mp hx).2
    simp
    omega
  rw [putAccount, List.find?_append, before, List.find?_cons_of_pos (by simp)]
  rfl

/-- Every other account is found where it was. -/
theorem find?_putAccount_other (a : Account) (xs : List Account) {k : Nat} (hk : k ≠ a.id) :
    (putAccount a xs).find? (fun x => x.id == k) = xs.find? (fun x => x.id == k) := by
  have kept (p : Account → Bool) (hp : ∀ x : Account, x.id = k → p x = true) :
      (xs.filter p).find? (fun x => x.id == k) = xs.find? (fun x => x.id == k) := by
    rw [List.find?_filter]
    congr 1
    funext x
    by_cases h : x.id = k
    · simp [h, hp x h]
    · simp [h]
  have gone (p : Account → Bool) (hp : ∀ x : Account, x.id = k → p x = false) :
      (xs.filter p).find? (fun x => x.id == k) = none := by
    rw [List.find?_eq_none]
    intro x hx e
    have no := (List.mem_filter.mp hx).2
    rw [hp x (by simpa using e)] at no
    cases no
  have self : (a.id == k) = false := by simpa using Ne.symm hk
  rw [putAccount, List.find?_append, List.find?_cons_of_neg (by rw [self]; decide)]
  by_cases lt : k < a.id
  · rw [kept _ fun x e => by simpa [e] using lt, gone _ fun x e => by simp [e]; omega]
    exact Option.or_none
  · rw [gone _ fun x e => by simp [e]; omega, kept _ fun x e => by simp [e]; omega]
    exact Option.none_or

/-- Settles O15: a setting written and what it does at once; a tariff row; what a setting is refused for; an account set. -/
theorem settingSetWritesOneSetting : Obligations.SettingSetWritesOneSetting := by
  refine ⟨fun rq ident x s adm => ?setting, fun rq c t s adm => ?tariff, fun v ps k x => ?refusal,
    fun rq id presence st limit s adm => ?account⟩
  case refusal => exact ⟨settingRefusal_together v ps k x, settingRefusal_state v ps k x⟩
  case tariff =>
    refine ⟨fun ok => congrArg _ (serve_accept adm ?_), fun bad => ?_⟩
    · simp only [unit?_val, badTariff_iff.mpr ok]
      rfl
    · cases e : badTariff t with
      | none => exact absurd (badTariff_iff.mp e) bad
      | some k => exact ⟨k, congrArg _ (serve_refuse adm (by simp only [unit?_val, e]; rfl))⟩
  case account =>
    refine ⟨fun h => congrArg _ (serve_refuse adm ?_), fun h1 h2 hp hs hl => ?_⟩
    · have e : badAccountSet id presence st limit = some 1 := if_pos (by rw [← Bool.not_eq_true, accountIdOk_iff]; omega)
      simp only [e]
      rfl
    · intro old a
      have ha : old.apply presence st limit = a := apply_eq old limit hp
      have hid : a.id = id := by
        rw [← ha, id_apply]
        cases e : s.plant.account? id with
        | none => exact congrArg (fun o => (Option.getD o (newAccount id)).id) e
        | some b => exact (congrArg (fun o => (Option.getD o (newAccount id)).id) e).trans (id_of_account? e)
      have none := badAccountSet_none h1 h2 hp hs hl
      by_cases same : s.plant.account? id = some a
      · refine ⟨s.flow, congrArg _ (serve_accept adm ?_), rfl, same, fun _ _ => rfl, (if_pos same).symm⟩
        simp only [none]
        rw [show ((s.plant.account? id).getD (newAccount id)).apply presence st limit = a from ha, if_pos same]
        rfl
      · refine ⟨accountReport s.base a { s.flow with accounts := putAccount a s.plant.accounts },
          congrArg _ (serve_accept adm ?_), rfl, ?_, fun k hk => ?_, (if_neg same).symm⟩
        · simp only [none]
          rw [show ((s.plant.account? id).getD (newAccount id)).apply presence st limit = a from ha, if_neg same]
        · have e := find?_putAccount_same a s.plant.accounts
          rw [hid] at e
          exact e
        · exact find?_putAccount_other a s.plant.accounts (by rw [hid]; exact hk)
  case setting =>
    refine ⟨fun e => congrArg _ (serve_refuse adm (by simp only [e]; rfl)), fun k hk => ⟨fun bad => ?_, fun ok r => ?_,
      fun ok r => ?_, fun ok r => ?taken⟩⟩
    · exact congrArg _ (serve_refuse adm (by simp only [hk]; exact if_pos bad))
    · refine congrArg _ (serve_refuse adm ?_)
      simp only [hk, r]
      exact if_neg (by rw [ok]; decide)
    · refine congrArg _ (serve_refuse adm ?_)
      simp only [hk, r]
      exact if_neg (by rw [ok]; decide)
    case taken =>
      intro w gauge
      obtain ⟨sc, base, link⟩ := settingTaken_keeps w k
      have settings : (w.settingTaken k).base.settings = s.base.settings.write k x := by rw [base]; rfl
      have run : exec (.settingSet rq ident x) s =
          .next ((w.settingTaken k).reply rq.port 0x05 rq.tag .ok (s4 x) (rateAfter s.base.settings k x)) := by
        refine congrArg _ ((serve_admitted adm).trans ?_)
        simp only [hk, r]
        rw [if_neg (by rw [ok]; decide)]
        rfl
      refine ⟨w.settingTaken k, run, ?_, link, ?_, fun j hj => ?_, ?_, fun c hc => ?gaugeTaken,
        fun no => scanner_settingTaken no, fun no hi hc hw => settingTaken_other no hi hc hw, fun hi => ?idle, fun hd => ?draws⟩
      · rw [base]
      · rw [settings]
        exact value_write_same _ _ _ ok
      · rw [settings]
        exact value_write_other _ _ _ _ hj
      · rw [settings]
        exact tariff_write _ _ _
      case gaugeTaken =>
        rw [settingTaken_gauge hc, recalibrated_eq]
        exact ⟨rfl, rfl, channels_calibrationChanged w.base (bodyOf c) w.flow⟩
      case idle =>
        subst hi
        refine ⟨testIdle w.base w.flow, rfl, ?_⟩
        rw [toPlant_testIdle]
        refine congrArg (fun i => { s.plant with sched := { s.plant.sched with idle := i } }) ?_
        show idleAfter w.base s.plant.sched.idle = _
        cases s.plant.sched.idle <;> rfl
      case draws =>
        have e : w.settingTaken k = w.conclude (redecidePermit w.base w.flow) := by
          obtain rfl | rfl := hd <;> rfl
        have water := ((watery_rules w.flow).redecidePermit (Watery.refl w.flow) w.base trivial).water
        refine ⟨redecidePermit w.base w.flow, e, water, fun none => ?_⟩
        rw [redecidePermit_none (f := w.flow) none]
        rfl

end Sys2Proof.Machine
end

section
/-! A request to the queue: its fields, its number, its hull, its place (05/R83 to R86, R91; 08/R145). -/

namespace Sys2Proof.Machine

/-! ## The fields of a request (05/R84) -/

/-- Field `k` of a declaration is out of range. -/
def FieldOut (d : Declaration) (k : Nat) : Prop :=
  (k = 1 ∧ ¬ (d.mark.length = 8 ∧ ∀ c ∈ d.mark,
    (65 ≤ c.toNat ∧ c.toNat ≤ 90) ∨ (48 ≤ c.toNat ∧ c.toNat ≤ 57)))
  ∨ (k = 2 ∧ 1 < d.direction) ∨ (k = 3 ∧ ¬ (100 ≤ d.length ∧ d.length ≤ 1500))
  ∨ (k = 4 ∧ ¬ (30 ≤ d.beam ∧ d.beam ≤ 200)) ∨ (k = 5 ∧ ¬ (500 ≤ d.draught ∧ d.draught ≤ 4000))
  ∨ (k = 6 ∧ 4000 < d.tonnes) ∨ (k = 7 ∧ 7 < d.cls) ∨ (k = 8 ∧ 64 < d.payment) ∨ (k = 9 ∧ 1 < d.priority)

theorem hullMarkOk_iff {m : List Byte} : hullMarkOk m = true ↔ m.length = 8 ∧ ∀ c ∈ m,
    (65 ≤ c.toNat ∧ c.toNat ≤ 90) ∨ (48 ≤ c.toNat ∧ c.toNat ≤ 57) := by
  simp only [hullMarkOk, Bool.and_eq_true, decide_eq_true_eq, List.all_eq_true, Bool.or_eq_true]

theorem dir?_isNone {x : Nat} : (dir? x).isNone = true ↔ 1 < x := by
  match x with
  | 0 => exact ⟨nofun, fun h => by omega⟩
  | 1 => exact ⟨nofun, fun h => by omega⟩
  | x + 2 => exact ⟨fun _ => by omega, fun _ => rfl⟩

theorem payment?_isNone {x : Nat} : (payment? x).isNone = true ↔ 64 < x := by
  unfold payment?
  split
  · simp
    omega
  · split <;> simp <;> omega

/-- The first of the fields from `k` on that the predicate finds. -/
def firstField (P : Nat → Prop) [DecidablePred P] : Nat → Nat → Option Nat
  | 0, _ => none
  | m + 1, k => if P k then some k else firstField P m (k + 1)

section First

variable {P : Nat → Prop} [DecidablePred P]

theorem firstField_some {m lo k : Nat} (h : P k) (first : ∀ j, j < k → ¬ P j) (hlo : lo ≤ k) (hm : k < lo + m) :
    firstField P m lo = some k := by
  induction m generalizing lo with
  | zero => omega
  | succ m ih =>
    rw [firstField]
    obtain rfl | lt := Nat.eq_or_lt_of_le hlo
    · exact if_pos h
    · rw [if_neg (first lo lt)]
      exact ih lt (by omega)

theorem firstField_none (h : ∀ k, ¬ P k) (m lo : Nat) : firstField P m lo = none := by
  induction m generalizing lo with
  | zero => rfl
  | succ m ih =>
    rw [firstField, if_neg (h lo)]
    exact ih (lo + 1)

end First

theorem badDeclaration_eq (d : Declaration) [DecidablePred (FieldOut d)] : badDeclaration d = firstField (FieldOut d) 9 1 := by
  have c1 : hullMarkOk d.mark = false ↔ FieldOut d 1 := by
    rw [← Bool.not_eq_true, hullMarkOk_iff]
    simp [FieldOut]
  have c2 : (dir? d.direction).isNone = true ↔ FieldOut d 2 := by
    rw [dir?_isNone]
    simp [FieldOut]
  have c3 : (d.length < 100 ∨ 1500 < d.length) ↔ FieldOut d 3 := by simp [FieldOut]; omega
  have c4 : (d.beam < 30 ∨ 200 < d.beam) ↔ FieldOut d 4 := by simp [FieldOut]; omega
  have c5 : (d.draught < 500 ∨ 4000 < d.draught) ↔ FieldOut d 5 := by simp [FieldOut]; omega
  have c6 : 4000 < d.tonnes ↔ FieldOut d 6 := by simp [FieldOut]
  have c7 : 8 ≤ d.cls ↔ FieldOut d 7 := by simp [FieldOut]; omega
  have c8 : (payment? d.payment).isNone = true ↔ FieldOut d 8 := by
    rw [payment?_isNone]
    simp [FieldOut]
  have c9 : 1 < d.priority ↔ FieldOut d 9 := by simp [FieldOut]
  unfold badDeclaration
  simp only [c1, c2, c3, c4, c5, c6, c7, c8, c9, firstField]

theorem badDeclaration_some {d : Declaration} {k : Nat} (h : FieldOut d k) (first : ∀ j, j < k → ¬ FieldOut d j) :
    badDeclaration d = some k := by
  have range : 1 ≤ k ∧ k < 10 := by
    unfold FieldOut at h
    omega
  classical
  rw [badDeclaration_eq]
  exact firstField_some h first range.1 range.2

theorem badDeclaration_none {d : Declaration} (h : ∀ k, ¬ FieldOut d k) : badDeclaration d = none := by
  classical
  rw [badDeclaration_eq]
  exact firstField_none h 9 1

/-! ## The counter (05/R83) -/

/-- Up to 33 steps of the counter, in closed form. -/
theorem iterate_nextNumber (n i : Nat) (hi : i ≤ 33) :
    nextNumber^[i] n = if 4294967295 < n ∨ n + i ≤ 4294967295 then n + i else n + i - 4294967295 := by
  induction i with
  | zero => simp
  | succ i ih =>
    rw [Function.iterate_succ_apply', ih (by omega), nextNumber]
    split_ifs <;> omega

theorem iterate_nextNumber_injective {n i j : Nat} (hi : i ≤ 33) (hj : j ≤ 33) (e : nextNumber^[i] n = nextNumber^[j] n) :
    i = j := by
  rw [iterate_nextNumber n i hi, iterate_nextNumber n j hj] at e
  split_ifs at e <;> omega

/-- One of 33 successive values is none of 32 numbers. -/
theorem exists_unused (used : List Nat) (hu : used.length ≤ 32) (n : Nat) :
    ∃ j, j < 33 ∧ nextNumber^[j + 1] n ∉ used := by
  by_contra all
  have all : ∀ j, j < 33 → nextNumber^[j + 1] n ∈ used := by
    intro j hj
    by_contra c
    exact all ⟨j, hj, c⟩
  have inj : Set.InjOn (fun j => nextNumber^[j + 1] n) (Finset.range 33) := by
    intro i hi j hj e
    have hi := Finset.mem_range.mp hi
    have hj := Finset.mem_range.mp hj
    have := iterate_nextNumber_injective (i := i + 1) (j := j + 1) (by omega) (by omega) e
    omega
  have card := Finset.card_le_card_of_injOn (t := used.toFinset) (fun j => nextNumber^[j + 1] n)
    (fun j hj => List.mem_toFinset.mpr (all j (Finset.mem_range.mp hj))) inj
  have len := List.toFinset_card_le used
  rw [Finset.card_range] at card
  omega

theorem advanceNumber_first (used : List Nat) (m n : Nat) (h : ∃ j, j < m ∧ nextNumber^[j + 1] n ∉ used) :
    ∃ k, k < m ∧ advanceNumber used m n = nextNumber^[k + 1] n ∧ nextNumber^[k + 1] n ∉ used
      ∧ ∀ j, j < k → nextNumber^[j + 1] n ∈ used := by
  induction m generalizing n with
  | zero =>
    obtain ⟨j, hj, -⟩ := h
    omega
  | succ m ih =>
    rw [advanceNumber]
    by_cases c : nextNumber n ∈ used
    · rw [if_pos (List.contains_iff_mem.mpr c)]
      obtain ⟨j, hj, out⟩ := h
      obtain rfl | ⟨i, rfl⟩ : j = 0 ∨ ∃ i, j = i + 1 := by
        cases j with
        | zero => exact .inl rfl
        | succ i => exact .inr ⟨i, rfl⟩
      · exact absurd c out
      · obtain ⟨k, hk, e, free, before⟩ := ih (nextNumber n) ⟨i, by omega, out⟩
        refine ⟨k + 1, by omega, e, free, fun j hj => ?_⟩
        cases j with
        | zero => exact c
        | succ j => exact before j (by omega)
    · rw [if_neg fun h => c (List.contains_iff_mem.mp h)]
      exact ⟨0, by omega, rfl, c, fun j hj => by omega⟩

/-! ## The hull of a request (08/R145) -/

/-- DECLARATION_CHANGED of a hull declared otherwise, none where nothing changed. -/
def declaredNow (v : Base) (h : Hull) (d : Passage) : List Report :=
  if h.length = d.length ∧ h.beam = d.beam ∧ h.draught = d.draught ∧ h.cls = d.cls then []
  else [⟨.passage, u1 0x26 ++ stampBytes v.clock ++ declarationFields h d, some d.origin⟩]

section Hull

variable {v : Base} {d : Passage} {f : Flow}

theorem lookUpHull_known {h : Hull} (known : v.books.hulls.find? (fun h => h.mark == d.mark) = some h) :
    (lookUpHull v d f).1 = hullOf d h.passages h.last :: v.books.hulls.filter (fun x => x.mark != d.mark)
    ∧ (lookUpHull v d f).2.out = f.out ++ declaredNow v h d := by
  unfold lookUpHull declaredNow
  simp only [known]
  refine ⟨trivial, ?_⟩
  split
  · rw [List.append_nil]
  · rfl

theorem find?_unknown {hs : List Hull} {m : List Byte} (h : ∀ x ∈ hs, x.mark ≠ m) :
    hs.find? (fun x => x.mark == m) = none := by
  rw [List.find?_eq_none]
  intro x hx e
  exact h x hx (by simpa using e)

theorem lookUpHull_new (unknown : ∀ x ∈ v.books.hulls, x.mark ≠ d.mark) (room : v.books.hulls.length < 128) :
    lookUpHull v d f = (hullOf d 0 none :: v.books.hulls, f) := by
  unfold lookUpHull
  simp only [find?_unknown unknown]
  exact if_pos room

/-- The last hull without an open passage leaves. -/
theorem evictable_last {marks : List (List Byte)} {a b : List Hull} {e : Hull} (he : e.mark ∉ marks)
    (hb : ∀ y ∈ b, y.mark ∈ marks) : evictable marks (a ++ e :: b) = some e := by
  have after : b.reverse.find? (fun h => !marks.contains h.mark) = none := by
    rw [List.find?_eq_none]
    intro y hy
    simpa using hb y (List.mem_reverse.mp hy)
  rw [evictable, List.reverse_append, List.reverse_cons, List.append_assoc, List.find?_append, after, List.singleton_append,
    List.find?_cons_of_pos (by simpa using he)]
  rfl

theorem lookUpHull_full {a b : List Hull} {e : Hull} (unknown : ∀ x ∈ v.books.hulls, x.mark ≠ d.mark)
    (full : 128 ≤ v.books.hulls.length) (hs : v.books.hulls = a ++ e :: b) (he : ∀ x ∈ f.passages, x.mark ≠ e.mark)
    (hb : ∀ y ∈ b, ∃ x ∈ f.passages, x.mark = y.mark) :
    lookUpHull v d f = (hullOf d 0 none :: v.books.hulls.filter (fun x => x.mark != e.mark),
      raise v .account 0x71 (e.mark ++ u2 e.passages) f) := by
  have last : evictable (f.passages.map (·.mark)) v.books.hulls = some e := by
    rw [hs]
    refine evictable_last (fun c => ?_) fun y hy => ?_
    · obtain ⟨x, hx, e⟩ := List.mem_map.mp c
      exact he x hx e
    · obtain ⟨x, hx, e⟩ := hb y hy
      exact List.mem_map.mpr ⟨x, hx, e⟩
  unfold lookUpHull
  simp only [find?_unknown unknown, last]
  exact if_neg (not_lt.mpr full)

theorem toPlant_lookUpHull (v : Base) (d : Passage) (f : Flow) : (lookUpHull v d f).2.toPlant = f.toPlant := by
  unfold lookUpHull
  dsimp only
  (repeat' split) <;> rfl

end Hull

/-! ## The place of a passage (05/R86, R91) -/

theorem find?_tail {ps : List Passage} {p : Passage} (fresh : ∀ x ∈ ps, x.number ≠ p.number) :
    (ps ++ [p]).find? (fun x => x.number == p.number) = some p := by
  have before : ps.find? (fun x => x.number == p.number) = none := by
    rw [List.find?_eq_none]
    intro x hx e
    exact fresh x hx (by simpa using e)
  rw [List.find?_append, before, List.find?_cons_of_pos (by simp)]
  rfl

theorem queuePosition_tail {ps : List Passage} {p : Passage} (fresh : ∀ x ∈ ps, x.number ≠ p.number) :
    queuePosition (ps ++ [p]) p.number = ps.length + 1 := by
  have before : ps.findIdx (fun x => x.number == p.number) = ps.length := by
    rw [List.findIdx_eq_length]
    intro x hx
    simpa using fresh x hx
  rw [queuePosition, List.findIdx_append, before]
  simp

theorem toPlant_passageReport (v : Base) (n old : Nat) (c : PassCause) (f : Flow) :
    (passageReport v n old c f).toPlant = f.toPlant := by
  unfold passageReport
  split <;> rfl

theorem out_passageReport {v : Base} {n old : Nat} {c : PassCause} {f : Flow} {p : Passage}
    (h : f.toPlant.passage? n = some p) : (passageReport v n old c f).out = f.out ++ [passageNow v p 0x20
      (u1 old ++ u1 p.st.code ++ u1 (queuePosition f.passages n) ++ opt1 p.batch ++ opt1 p.chamber ++ u1 c.code)] := by
  unfold passageReport passageNow
  simp only [h, out_raiseTo, List.append_assoc]

section Joined

variable (s : State) (p : Passage)

theorem joined_state : (s.joined p).1 = s.withBooks { s.base.books with hulls := (lookUpHull s.base p s.flow).1 } := rfl

theorem joined_plant : (s.joined p).2.toPlant = { s.plant with
    passages := s.plant.passages ++ [p]
    nextPassage := advanceNumber ((s.plant.passages ++ [p]).map (·.number)) 33 p.number } := by
  have e := toPlant_lookUpHull s.base p s.flow
  unfold State.joined
  rcases h : lookUpHull s.base p s.flow with ⟨hulls, f⟩
  rw [h] at e
  have e : f.toPlant = s.plant := e
  dsimp only
  rw [toPlant_askOpportunity, toPlant_passageReport]
  exact congrArg (fun q : Plant => { q with
    passages := q.passages ++ [p]
    nextPassage := advanceNumber ((q.passages ++ [p]).map Passage.number) 33 p.number }) e

theorem joined_opp : (s.joined p).2.opp = true := rfl

theorem joined_out (fresh : ∀ x ∈ s.plant.passages, x.number ≠ p.number) (none : p.batch = none ∧ p.chamber = none)
    (st : p.st = .waiting) : (s.joined p).2.out = (lookUpHull s.base p s.flow).2.out ++ [passageNow s.base p 0x20
      (u1 0xFF ++ u1 0 ++ u1 (s.plant.passages.length + 1) ++ u1 0 ++ u1 0 ++ u1 7)] := by
  have e := toPlant_lookUpHull s.base p s.flow
  unfold State.joined
  rcases h : lookUpHull s.base p s.flow with ⟨hulls, f⟩
  rw [h] at e
  have e := congrArg Plant.passages e
  have e : f.passages = s.plant.passages := e
  dsimp only
  rw [out_askOpportunity, out_passageReport (p := p)]
  · rw [e, queuePosition_tail fresh, none.1, none.2, st]
    rfl
  · show (f.passages ++ [p]).find? (fun x => x.number == p.number) = some p
    rw [e]
    exact find?_tail fresh

end Joined

end Sys2Proof.Machine
end

section
/-! PASS_REQUEST answered (05/R84 to R86, R91; 08/R145). -/

namespace Sys2Proof.Machine

/-! ## The checks of the flight (05/R85) -/

section Check

variable {s : State} {d : Declaration} {pay : Option Nat}

theorem flightCheck_full (h : 32 ≤ s.plant.passages.length) : flightCheck s d pay = some (refuse s .full) := if_pos h

section Room

variable (room : s.plant.passages.length < 32)

include room

theorem flightCheck_duplicate (dup : ∃ x ∈ s.plant.passages, x.mark = d.mark) :
    flightCheck s d pay = some (refuse s .duplicate) := by
  refine (if_neg (not_le.mpr room)).trans (if_pos ?_)
  rw [List.any_eq_true]
  obtain ⟨x, hx, e⟩ := dup
  exact ⟨x, hx, by simpa using e⟩

section Single

variable (single : ¬ ∃ x ∈ s.plant.passages, x.mark = d.mark)

include single

theorem flightCheck_single : flightCheck s d pay =
    if s.base.settings.flightLength < d.length then some (badField s 3)
    else if min s.base.settings.maxBeam s.base.settings.flightWidth < d.beam then some (badField s 4)
    else
      match pay with
      | none => none
      | some id =>
        match s.plant.account? id with
        | none => some (refuse s .notFound)
        | some a => if a.blocked then some (refuse s .state) else none := by
  refine (if_neg (not_le.mpr room)).trans (if_neg ?_)
  rw [List.any_eq_true]
  rintro ⟨x, hx, e⟩
  exact single ⟨x, hx, by simpa using e⟩

theorem flightCheck_misfit (n : ¬ (d.beam ≤ s.base.settings.maxBeam ∧ d.beam ≤ s.base.settings.flightWidth
    ∧ d.length ≤ s.base.settings.flightLength)) : ∃ k, flightCheck s d pay = some (badField s k) := by
  rw [flightCheck_single room single]
  by_cases long : s.base.settings.flightLength < d.length
  · exact ⟨3, if_pos long⟩
  · exact ⟨4, (if_neg long).trans (if_pos (by omega))⟩

section Fits

variable (fits : d.beam ≤ s.base.settings.maxBeam ∧ d.beam ≤ s.base.settings.flightWidth
  ∧ d.length ≤ s.base.settings.flightLength)

include fits

theorem flightCheck_missing {id : Nat} (hp : pay = some id) (ha : s.plant.account? id = none) :
    flightCheck s d pay = some (refuse s .notFound) := by
  rw [flightCheck_single room single, if_neg (by omega), if_neg (by omega)]
  simp only [hp, ha]

theorem flightCheck_blocked {id : Nat} {a : Account} (hp : pay = some id) (ha : s.plant.account? id = some a)
    (hb : a.blocked = true) : flightCheck s d pay = some (refuse s .state) := by
  rw [flightCheck_single room single, if_neg (by omega), if_neg (by omega)]
  simp only [hp, ha, hb, if_true]

theorem flightCheck_passes (h : ∀ id, pay = some id → ∃ a, s.plant.account? id = some a ∧ a.blocked = false) :
    flightCheck s d pay = none := by
  rw [flightCheck_single room single, if_neg (by omega), if_neg (by omega)]
  cases hp : pay with
  | none => rfl
  | some id =>
    obtain ⟨a, ha, hb⟩ := h id hp
    simp only [ha, hb]
    rfl

end Fits

end Single

end Room

end Check

/-! ## The answer -/

section Answer

variable {rq : Rq} {d : Declaration} {s : State} (adm : Admitted s rq 2)

include adm

theorem exec_passRequest_bad {k : Nat} (h : badDeclaration d = some k) :
    exec (.passRequest rq d) s = .next (s.no rq 0x30 .badField (u1 k)) :=
  congrArg _ (serve_refuse adm (by simp only [passRequest, h]; rfl))

section InRange

variable (ok : ∀ k, ¬ FieldOut d k) {dir : Dir} {cls : Fin 8} {pay : Option Nat} (hd : dir? d.direction = some dir)
  (hc : unit? 8 d.cls = some cls) (hp : payment? d.payment = some pay)

include ok hd hc hp

theorem exec_passRequest_denied (h : d.priority = 1 ∧ effectiveLevel s rq = 2) :
    exec (.passRequest rq d) s = .next (s.no rq 0x30 .denied []) := by
  refine congrArg _ (serve_refuse adm ?_)
  simp only [passRequest, badDeclaration_none ok, hd, hc, hp]
  exact if_pos h

section Allowed

variable (may : ¬ (d.priority = 1 ∧ effectiveLevel s rq = 2))

include may

theorem exec_passRequest_refused {st : Status} {body : List Byte}
    (h : flightCheck s d pay = some ⟨s, some (st, body), .nothing⟩) :
    exec (.passRequest rq d) s = .next (s.no rq 0x30 st body) := by
  refine congrArg _ (serve_refuse adm ?_)
  simp only [passRequest, badDeclaration_none ok, hd, hc, hp, h]
  exact if_neg may

theorem exec_passRequest_joins (h : flightCheck s d pay = none) :
    let p := passageFrom d s.plant.nextPassage s.base.clock rq.port dir cls pay
    exec (.passRequest rq d) s = .next (((s.joined p).1.conclude (s.joined p).2).ok rq 0x30
      (u4 p.number ++ u1 (s.plant.passages.length + 1) ++ u4 (quote (s.joined p).1.base s.plant p).1)) := by
  intro p
  have saving : quote (s.joined p).1.base (s.joined p).2.toPlant p = quote (s.joined p).1.base s.plant p := by
    rw [joined_plant]
    rfl
  rw [← saving]
  refine congrArg _ (serve_accept adm ?_)
  simp only [passRequest, badDeclaration_none ok, hd, hc, hp, h]
  exact if_neg may

end Allowed

end InRange

end Answer

/-- The changed fields of a declaration against its hull entry (08/R145). -/
def changedFields (h : Hull) (d : Passage) : List Byte :=
  (if h.length = d.length then [] else u1 0 ++ u2 h.length ++ u2 d.length)
    ++ (if h.beam = d.beam then [] else u1 1 ++ u1 h.beam ++ u1 d.beam)
    ++ (if h.draught = d.draught then [] else u1 2 ++ u2 h.draught ++ u2 d.draught)
    ++ (if h.cls = d.cls then [] else u1 3 ++ u1 h.cls.val ++ u1 d.cls.val)

theorem changedFields_nil {h : Hull} {d : Passage} : changedFields h d = [] ↔
    h.length = d.length ∧ h.beam = d.beam ∧ h.draught = d.draught ∧ h.cls = d.cls := by
  have one (c : Prop) [Decidable c] (k : Nat) (a b : List Byte) :
      (if c then [] else u1 k ++ a ++ b) = [] ↔ c := by
    split <;> simp [u1, *]
  simp only [changedFields, List.append_eq_nil_iff, one, and_assoc]

theorem declarationFields_eq (h : Hull) (d : Passage) : declarationFields h d = h.mark ++ changedFields h d := by
  unfold declarationFields changedFields
  simp only [List.append_assoc, Fin.val_inj]

theorem declaredNow_eq (v : Base) (h : Hull) (d : Passage) : declaredNow v h d = if changedFields h d = [] then []
    else [⟨.passage, u1 0x26 ++ stampBytes v.clock ++ h.mark ++ changedFields h d, some d.origin⟩] := by
  unfold declaredNow
  rw [declarationFields_eq, List.append_assoc (_ ++ _) h.mark]
  exact if_congr changedFields_nil.symm rfl rfl

/-- Settles O47: the fields; the checks of the flight; the passage, its number and its hull. -/
theorem passRequestJoinsTheQueue : Obligations.PassRequestJoinsTheQueue := by
  unfold Obligations.PassRequestJoinsTheQueue
  intro bad
  refine ⟨fun rq d s adm => ⟨fun k h first => exec_passRequest_bad adm (badDeclaration_some h first), fun ok pr lev => ?denied⟩,
    fun rq d dir cls pay s adm ok hd hc hp may => ?ranged⟩
  case denied =>
    have named {α : Type} {o : Option α} {c : Prop} (h : o.isNone = true ↔ c) (n : ¬ c) : ∃ x, o = some x := by
      cases o with
      | none => exact absurd (h.mp rfl) n
      | some x => exact ⟨x, rfl⟩
    obtain ⟨dir, hd⟩ := named dir?_isNone fun c => ok 2 (.inr (.inl ⟨rfl, c⟩))
    obtain ⟨pay, hp⟩ := named payment?_isNone fun (c : 64 < d.payment) => ok 8 (by simp [bad, c])
    have hc : unit? 8 d.cls = some ⟨d.cls, Nat.lt_of_not_le fun c => ok 7 (by simp [bad]; omega)⟩ := dif_pos _
    exact exec_passRequest_denied adm ok hd hc hp ⟨pr, lev⟩
  case ranged =>
    intro n dup set fits
    refine ⟨fun full => exec_passRequest_refused adm ok hd hc hp may (flightCheck_full full),
      fun room d => exec_passRequest_refused adm ok hd hc hp may (flightCheck_duplicate room d),
      fun room single n => ?_,
      fun room single f id e ha => exec_passRequest_refused adm ok hd hc hp may (flightCheck_missing room single f e ha),
      fun room single f id a e ha hb => exec_passRequest_refused adm ok hd hc hp may
        (flightCheck_blocked room single f e ha hb), fun room single f acc => ?joins⟩
    · obtain ⟨k, e⟩ := flightCheck_misfit (pay := pay) room single n
      exact ⟨k, exec_passRequest_refused adm ok hd hc hp may e⟩
    case joins =>
      intro p
      have run := exec_passRequest_joins adm ok hd hc hp may (flightCheck_passes room single f acc)
      refine ⟨(s.joined p).2, (lookUpHull s.base p s.flow).1, run, ?_, joined_opp s p, ?number, ?hulls⟩
      · rw [joined_plant]
      case number =>
        have len : ((s.plant.passages ++ [p]).map (·.number)).length ≤ 32 := by
          rw [List.length_map, List.length_append]
          exact room
        obtain ⟨k, hk, e, free, before⟩ := advanceNumber_first _ 33 p.number (exists_unused _ len p.number)
        have next : (s.joined p).2.nextPassage = nextNumber^[k + 1] p.number := by
          have e' := congrArg Plant.nextPassage (joined_plant s p)
          exact e'.trans e
        exact ⟨k, by omega, next, by rw [next]; exact free, before⟩
      case hulls =>
        intro hs fresh changed told known unknown
        have tells (before : List Report) (e : (lookUpHull s.base p s.flow).2.out = before) : told before := by
          intro new
          rw [joined_out s p new ⟨rfl, rfl⟩ rfl, e]
        refine ⟨fun h k => ?_, fun u few => ?_, fun a e b u full cut he hb => ?_⟩
        · obtain ⟨table, out⟩ := lookUpHull_known (d := p) (f := s.flow) (v := s.base) k
          refine ⟨table, tells _ (out.trans ?_)⟩
          rw [declaredNow_eq]
          rfl
        · have e := lookUpHull_new (d := p) (f := s.flow) (v := s.base) u few
          exact ⟨congrArg Prod.fst e, tells _ (by rw [e]; rfl)⟩
        · have e := lookUpHull_full (d := p) (f := s.flow) (v := s.base) u full cut he hb
          exact ⟨congrArg Prod.fst e, tells _ (by rw [e]; rfl)⟩

end Sys2Proof.Machine
end

section
/-! A passage that leaves its batch, and a batch that ends (07/R132 to R134); PASS_WITHDRAW (05/R94, R95). -/

namespace Sys2Proof.Machine

/-! ## Requests to the gates, and what an ended batch gives up -/

namespace PartRules

variable {P : Flow → Prop} (r : PartRules P) {f : Flow} (h : P f) (v : Base)

include r h

theorem moveGate (g : Fin 4) (fn : Gate → Gate) : P (moveGate v g fn f) := r.cancel.raise (r.gate h g fn) v _ _ _

theorem setOwner (g : Fin 4) (o : Owner) : P (setOwner g o f) := r.gate h g _

theorem startOpening (g : Fin 4) : P (startOpening v g f) := r.moveGate h v g _

theorem startClosing (g : Fin 4) : P (startClosing v g f) := r.moveGate h v g _

theorem obstruct (g : Fin 4) : P (obstruct v g f) := r.cancel.raise (r.gate h g _) v _ _ _

theorem takeClose (g : Fin 4) : P (takeClose v g f) := by
  have k := r.gate h g fun x => { x with obstructions := 0, hold := false, limit := v.settings.travelLimit }
  exact ite_of (r.obstruct k v g) (r.startClosing k v g)

theorem takeCloseFor (g : Fin 4) (o : Owner) : P (takeCloseFor v g o f) :=
  r.takeClose (ite_of (r.ownGate h v g o) (r.setOwner h g o)) v g

theorem askClose (b : Nat) (g : Fin 4) : P (askClose v b g f).2 := by
  have own := r.ownGate h v g (.batch b)
  have wait := r.gate own g fun x => { x with ask := some (.closeFor b) }
  unfold Machine.askClose
  split
  · exact h
  · dsimp only
    split
    · exact ite_of wait (r.takeCloseFor h v g _)
    · exact wait
    · exact own

theorem askOpen (b : Nat) (g : Fin 4) : P (askOpen v b g f).2 := by
  have own := r.ownGate h v g (.batch b)
  unfold Machine.askOpen
  split
  · exact h
  · dsimp only
    split
    · exact ite_of (r.startOpening (r.setOwner h g _) v g) (r.gate own g _)
    · exact own
    · exact own
    · exact h

theorem releaseGate (b : Nat) (g : Fin 4) : P (releaseGate v b g f) := ite_of (r.ownGate h v g _) h

theorem yieldGate (b : Nat) (g : Fin 4) : P (yieldGate v b g f) := ite_of (r.ownGate h v g _) h

theorem releaseHeads (b : Nat) : P (releaseHeads v b f) :=
  overAll_of (P := P) (fun k _ _ hx => r.releaseHead hx v b k) h

theorem withdrawAsks (b : Nat) : P (withdrawAsks b f) := overAll_of (P := P) (fun g _ _ hx => r.gate hx g _) h

end PartRules

/-- The predicate withstands the close errands too. -/
structure EndRules (P : Flow → Prop) : Prop extends PartRules P where
  errands : ∀ {f}, P f → ∀ x, P { f with errands := x }

namespace EndRules

variable {P : Flow → Prop} (r : EndRules P) {f : Flow} (h : P f) (v : Base)

include r h

theorem closeErrand (b : Nat) (g : Fin 4) : P (closeErrand v b g f) := by
  have asked := r.askClose h v b g
  unfold Machine.closeErrand
  split <;> next e =>
    rw [e] at asked
    first | exact r.releaseGate asked v b g | exact ite_of (r.errands asked _) (r.releaseGate asked v b g)

theorem partGate (b : Nat) (g : Fin 4) : P (partGate v b g f) :=
  ite_of h (ite_of (r.releaseGate h v b g) (r.closeErrand h v b g))

theorem partGates (b : Nat) (e : BatchEnd) :
    P (if e = .removed then overAll allGates (yieldGate v b) f else overAll allGates (Machine.partGate v b) f) :=
  ite_of (overAll_of (P := P) (fun g _ _ hx => r.yieldGate hx v b g) h)
    (overAll_of (P := P) (fun g _ _ hx => r.partGate hx v b g) h)

end EndRules

/-! ## What stands when a batch gives up what it holds -/

/-- The passages, the batches, the accounts, the counters and the regime record stand; of the scheduler a permit request
alone changes; the reports are added to. -/
structure Parted (a f : Flow) : Prop where
  passages : f.passages = a.passages
  nextPassage : f.nextPassage = a.nextPassage
  batches : f.batches = a.batches
  nextBatch : f.nextBatch = a.nextBatch
  accounts : f.accounts = a.accounts
  regime : f.regime = a.regime
  sched : f.sched = { a.sched with permit := f.sched.permit }
  opp : f.opp = a.opp
  out : a.out <+: f.out

theorem Parted.refl (f : Flow) : Parted f f := ⟨rfl, rfl, rfl, rfl, rfl, rfl, rfl, rfl, List.prefix_refl _⟩

/-- The fields that an update of the others leaves. -/
theorem Parted.of_same {a f g : Flow} (h : Parted a f) (hp : g.toPlant = { f.toPlant with
      gates := g.gates, sluices := g.sluices, grants := g.grants, waiting := g.waiting, channels := g.channels
      heads := g.heads, errands := g.errands }) (hopp : g.opp = f.opp) (ho : f.out <+: g.out) : Parted a g := by
  have e {α : Type} (x : Plant → α) : x g.toPlant = x { f.toPlant with
      gates := g.gates, sluices := g.sluices, grants := g.grants, waiting := g.waiting, channels := g.channels
      heads := g.heads, errands := g.errands } := congrArg x hp
  have s : g.sched = f.sched := e (·.sched)
  exact ⟨(e (·.passages)).trans h.passages, (e (·.nextPassage)).trans h.nextPassage, (e (·.batches)).trans h.batches,
    (e (·.nextBatch)).trans h.nextBatch, (e (·.accounts)).trans h.accounts, (e (·.regime)).trans h.regime,
    by rw [s]; exact h.sched, hopp.trans h.opp, h.out.trans ho⟩

theorem parted_cancel (a : Flow) : CancelRules (fun _ => True) (Parted a) where
  raise h _ _ _ _ := h.of_same rfl rfl (List.prefix_append _ _)
  sluice h _ _ _ := h.of_same rfl rfl (List.prefix_refl _)
  channel h _ _ _ := h.of_same rfl rfl (List.prefix_refl _)
  grants h _ _ _ := h.of_same rfl rfl (List.prefix_refl _)
  waiting h _ := h.of_same rfl rfl (List.prefix_refl _)
  permit h p := ⟨h.passages, h.nextPassage, h.batches, h.nextBatch, h.accounts, h.regime,
    congrArg (fun s : Scheduler => { s with permit := p }) h.sched, h.opp, h.out⟩

theorem opp_setGate (g : Fin 4) (fn : Gate → Gate) (f : Flow) : (setGate g fn f).opp = f.opp := by
  unfold setGate
  dsimp only
  split <;> rfl

theorem opp_changeHead (v : Base) (h : Fin 8) (fn : Head → Head) (f : Flow) : (changeHead v h fn f).opp = f.opp := by
  rw [changeHead_eq]
  dsimp only
  split <;> rfl

theorem parted_rules (a : Flow) : EndRules (Parted a) where
  cancel := parted_cancel a
  gate h g fn := h.of_same (by rw [gates_setGate, toPlant_setGate]) (opp_setGate g fn _) (by rw [out_setGate])
  head {f} h v k fn := by
    have only := headsOnly_changeHead v k fn f
    have opp := opp_changeHead v k fn f
    generalize changeHead v k fn f = g at only opp ⊢
    refine h.of_same ?_ opp only.out
    have gates : g.gates = f.gates := only.same (·.gates) fun _ _ => rfl
    have sluices : g.sluices = f.sluices := only.same (·.sluices) fun _ _ => rfl
    have grants : g.grants = f.grants := only.same (·.grants) fun _ _ => rfl
    have waiting : g.waiting = f.waiting := only.same (·.waiting) fun _ _ => rfl
    have channels : g.channels = f.channels := only.same (·.channels) fun _ _ => rfl
    have errands : g.errands = f.errands := only.same (·.errands) fun _ _ => rfl
    rw [gates, sluices, grants, waiting, channels, errands]
    exact only.plant
  errands h _ := h.of_same rfl rfl (List.prefix_refl _)

/-! ## A batch record and its id -/

section Lookup

variable {p q : Plant} {id : Nat} {fn : Batch → Batch}

theorem batch?_map (hfn : ∀ b, (fn b).id = b.id) (hq : q.batches = p.batches.map fn) (k : Nat) :
    q.batch? k = (p.batch? k).map fn := by
  rw [Plant.batch?, Plant.batch?, hq, List.find?_map]
  congr 2
  funext b
  simp [hfn]

theorem batch?_setBatch_same (hfn : ∀ b, (fn b).id = b.id) {f : Flow} {b : Batch} (h : f.toPlant.batch? id = some b) :
    (setBatch id fn f).toPlant.batch? id = some (fn b) := by
  rw [batch?_map (p := f.toPlant) (fn := fun b => if b.id = id then fn b else b) (fun b => by split <;> simp [hfn]) rfl, h,
    Option.map_some, if_pos (id_of_batch? h)]

theorem batch?_setBatch_other (hfn : ∀ b, (fn b).id = b.id) (f : Flow) {k : Nat} (hk : k ≠ id) :
    (setBatch id fn f).toPlant.batch? k = f.toPlant.batch? k := by
  rw [batch?_map (p := f.toPlant) (fn := fun b => if b.id = id then fn b else b) (fun b => by split <;> simp [hfn]) rfl]
  cases h : f.toPlant.batch? k with
  | none => rfl
  | some b => simp [id_of_batch? h, hk]

theorem batch?_deleted (hq : q.batches = p.batches.filter fun x => x.id ≠ id) (k : Nat) :
    q.batch? k = if k = id then none else p.batch? k := by
  rw [Plant.batch?, hq, List.find?_filter]
  by_cases h : k = id
  · rw [if_pos h, List.find?_eq_none]
    intro x _
    simp [h]
  · rw [if_neg h, Plant.batch?]
    congr 1
    funext x
    by_cases e : x.id = k <;> simp [e, h]

end Lookup

/-! ## The end of a batch (07/R134) -/

/-- What stands when a batch has ended, and the batch is gone. -/
structure Ended (id : Nat) (a f : Flow) : Prop where
  passages : f.passages = a.passages
  nextPassage : f.nextPassage = a.nextPassage
  batches : f.batches = a.batches.filter fun x => x.id ≠ id
  nextBatch : f.nextBatch = a.nextBatch
  accounts : f.accounts = a.accounts
  regime : f.regime = a.regime
  sched : f.sched = { a.sched with permit := f.sched.permit }
  opp : f.opp = true
  out : a.out <+: f.out

theorem ended_endBatch {v : Base} {id : Nat} {e : BatchEnd} {f : Flow} {b : Batch} (h : f.toPlant.batch? id = some b) :
    Ended id f (endBatch v id e f) := by
  have r := parted_rules f
  have k := r.partGates (r.withdrawAsks (r.cancelOwn (r.releaseHeads (Parted.refl f) v id) v b) id) v id e
  unfold endBatch
  simp only [h]
  generalize (if e = .removed then overAll allGates (yieldGate v id) (withdrawAsks id (cancelOwn v b (releaseHeads v id f)))
    else overAll allGates (partGate v id) (withdrawAsks id (cancelOwn v b (releaseHeads v id f)))) = m at k ⊢
  exact ⟨k.passages, k.nextPassage, congrArg (List.filter fun x : Batch => decide (x.id ≠ id)) k.batches, k.nextBatch, k.accounts,
    k.regime, k.sched, rfl, k.out.trans (List.prefix_append _ _)⟩

/-! ## A member that leaves (07/R132, R133) -/

/-- What a passage's leaving its batch keeps. -/
structure Left (a f : Flow) : Prop where
  passages : f.passages = a.passages
  nextPassage : f.nextPassage = a.nextPassage
  nextBatch : f.nextBatch = a.nextBatch
  accounts : f.accounts = a.accounts
  regime : f.regime = a.regime
  sched : f.sched = { a.sched with permit := f.sched.permit }
  opp : a.opp = true → f.opp = true
  out : a.out <+: f.out

/-- The batch without member `n`. -/
def Batch.without (n : Nat) (b : Batch) : Batch := { b with members := b.members.filter fun m => m.number ≠ n }

theorem without_isEmpty {n : Nat} {b : Batch} : (b.without n).members.isEmpty = true ↔ ∀ m ∈ b.members, m.number = n := by
  simp [Batch.without]

section Leave

variable {v : Base} {id n : Nat} {e : BatchEnd} {f : Flow}

theorem leaveBatch_missing (h : f.toPlant.batch? id = none) : leaveBatch v id n e f = setBatch id (Batch.without n) f := by
  have gone : (setBatch id (Batch.without n) f).toPlant.batch? id = none := by
    rw [batch?_map (p := f.toPlant) (fn := fun b => if b.id = id then b.without n else b)
      (fun b => by split <;> rfl) rfl, h]
    rfl
  unfold leaveBatch
  show (match (setBatch id (Batch.without n) f).toPlant.batch? id with | some b => _ | none => _) = _
  simp only [gone]
  rfl

theorem leaveBatch_goesOn {b : Batch} (h : f.toPlant.batch? id = some b) (some_ : ∃ m ∈ b.members, m.number ≠ n) :
    leaveBatch v id n e f = setBatch id (Batch.without n) f := by
  have found := batch?_setBatch_same (fn := Batch.without n) (fun _ => rfl) h
  have full : ¬ (b.without n).members.isEmpty = true := by
    rw [without_isEmpty]
    obtain ⟨m, hm, ne⟩ := some_
    exact fun all => ne (all m hm)
  unfold leaveBatch
  show (match (setBatch id (Batch.without n) f).toPlant.batch? id with | some b => _ | none => _) = _
  simp only [found]
  exact if_neg full

theorem leaveBatch_ends {b : Batch} (h : f.toPlant.batch? id = some b) (all : ∀ m ∈ b.members, m.number = n) :
    leaveBatch v id n e f = endBatch v id e (setBatch id (Batch.without n) f) := by
  have found := batch?_setBatch_same (fn := Batch.without n) (fun _ => rfl) h
  unfold leaveBatch
  show (match (setBatch id (Batch.without n) f).toPlant.batch? id with | some b => _ | none => _) = _
  simp only [found]
  exact if_pos (without_isEmpty.mpr all)

end Leave

theorem Left.refl (f : Flow) : Left f f := ⟨rfl, rfl, rfl, rfl, rfl, rfl, fun h => h, List.prefix_refl _⟩

theorem left_setBatch (id : Nat) (fn : Batch → Batch) (f : Flow) : Left f (setBatch id fn f) :=
  ⟨rfl, rfl, rfl, rfl, rfl, rfl, fun h => h, List.prefix_refl _⟩

theorem left_leaveItsBatch (v : Base) (x : Passage) (e : BatchEnd) (f : Flow) :
    Left f (leaveItsBatch v x e f) ∧ LeavesBatch x.number x f.toPlant (leaveItsBatch v x e f).toPlant := by
  unfold leaveItsBatch LeavesBatch
  cases hx : x.batch with
  | none => exact ⟨Left.refl f, fun _ => rfl, nofun⟩
  | some id =>
    have other {k : Nat} (hk : k ≠ id) := batch?_setBatch_other (fn := Batch.without x.number) (fun _ => rfl) f hk
    dsimp only
    cases hb : f.toPlant.batch? id with
    | none =>
      rw [leaveBatch_missing hb]
      refine ⟨left_setBatch id _ f, nofun, fun j hj => ?_⟩
      obtain rfl := Option.some.inj hj
      exact ⟨fun k hk => other hk, fun b c => by rw [hb] at c; cases c⟩
    | some b =>
      by_cases all : ∀ m ∈ b.members, m.number = x.number
      · have found := batch?_setBatch_same (fn := Batch.without x.number) (fun _ => rfl) hb
        have ended := ended_endBatch (v := v) (e := e) found
        have gone := batch?_deleted (p := (setBatch id (Batch.without x.number) f).toPlant) ended.batches
        rw [leaveBatch_ends hb all]
        refine ⟨⟨ended.passages, ended.nextPassage, ended.nextBatch, ended.accounts, ended.regime, ended.sched,
          fun _ => ended.opp, ended.out⟩, nofun, fun j hj => ?_⟩
        obtain rfl := Option.some.inj hj
        refine ⟨fun k hk => (gone k).trans ((if_neg hk).trans (other hk)), fun c hc => ?_⟩
        obtain rfl := Option.some.inj (hb.symm.trans hc)
        refine ⟨fun rest => ?_, fun _ => (gone id).trans (if_pos rfl)⟩
        obtain ⟨m, hm, ne⟩ := rest
        exact absurd (all m hm) ne
      · have rest : ∃ m ∈ b.members, m.number ≠ x.number := by simpa using all
        rw [leaveBatch_goesOn hb rest]
        refine ⟨left_setBatch id _ f, nofun, fun j hj => ?_⟩
        obtain rfl := Option.some.inj hj
        refine ⟨fun k hk => other hk, fun c hc => ?_⟩
        obtain rfl := Option.some.inj (hb.symm.trans hc)
        exact ⟨fun _ => batch?_setBatch_same (fn := Batch.without x.number) (fun _ => rfl) hb, fun c => absurd c all⟩

/-! ## A passage that ends (05/R94) -/

theorem number_of_passage? {p : Plant} {n : Nat} {x : Passage} (h : p.passage? n = some x) : x.number = n := by
  simpa using List.find?_some h

/-- A payment moves accounts alone. -/
structure Paid (a f : Flow) : Prop where
  plant : f.toPlant = { a.toPlant with accounts := f.accounts }
  opp : f.opp = a.opp
  out : a.out <+: f.out

theorem paid_reserve (payment : Option Nat) (by_ : Int) (f : Flow) : Paid f (reserve payment by_ f) := by
  unfold reserve
  split <;> exact ⟨rfl, rfl, List.prefix_refl _⟩

theorem out_reserve (payment : Option Nat) (by_ : Int) (f : Flow) : (reserve payment by_ f).out = f.out := by
  unfold reserve
  split <;> rfl

theorem out_endPassage (v : Base) (x : Passage) (e : PassEnd) (charge : Nat) (f : Flow) :
    (endPassage v x e charge f).out = f.out ++ [endedNow v x e charge] := by
  unfold endPassage endedNow passageNow
  rw [out_askOpportunity, out_raiseTo]
  simp only [List.append_assoc]

theorem plant_endPassage (v : Base) (x : Passage) (e : PassEnd) (charge : Nat) {a f : Flow} (paid : Paid a f) :
    (endPassage v x e charge f).toPlant
      = { a.toPlant with accounts := f.accounts, passages := a.passages.filter fun y => y.number ≠ x.number } :=
  congrArg (fun p : Plant => { p with passages := p.passages.filter fun y => y.number ≠ x.number }) paid.plant

/-- A passage paid for, ended and out of its batch. -/
theorem passageGone_ended {v : Base} {x : Passage} {e : PassEnd} {be : BatchEnd} {charge : Nat} {a f : Flow} (paid : Paid a f) :
    let g := leaveItsBatch v x be (endPassage v x e charge f)
    PassageGone x.number a.toPlant g.toPlant ∧ LeavesBatch x.number x a.toPlant g.toPlant ∧ g.opp = true
      ∧ g.accounts = f.accounts ∧ f.out ++ [endedNow v x e charge] <+: g.out := by
  intro g
  obtain ⟨left, leaves⟩ := left_leaveItsBatch v x be (endPassage v x e charge f)
  have plant := plant_endPassage v x e charge paid
  have same {α : Type} (fn : Plant → α) := congrArg fn plant
  have batches : (endPassage v x e charge f).batches = a.batches := same (·.batches)
  refine ⟨⟨?_, ?_, ?_, ?_, ?_⟩, ?_, left.opp rfl, left.accounts, ?_⟩
  · exact left.passages.trans (same (·.passages))
  · exact left.nextPassage.trans (same (·.nextPassage))
  · exact left.nextBatch.trans (same (·.nextBatch))
  · exact left.regime.trans (same (·.regime))
  · have s : (endPassage v x e charge f).sched = a.sched := same (·.sched)
    exact left.sched.trans (by rw [s])
  · unfold LeavesBatch Plant.batch? at leaves ⊢
    rw [batches] at leaves
    exact leaves
  · rw [← out_endPassage]
    exact left.out

theorem leaveItsBatch_none {v : Base} {x : Passage} {e : BatchEnd} {f : Flow} (h : x.batch = none) :
    leaveItsBatch v x e f = f := by
  rw [leaveItsBatch, h]

/-- Settles O48: the refusals; the passage gone, its batch left, its reservation released. -/
theorem passWithdrawEndsThePassage : Obligations.PassWithdrawEndsThePassage := by
  refine fun rq n s adm => ⟨fun none => congrArg _ (serve_refuse adm (by simp only [none]; rfl)), fun x hx =>
    ⟨fun lev other => ?_, fun may ns nc => ?_, fun may st => ?taken⟩⟩
  · exact congrArg _ (serve_refuse adm (by simp only [hx]; exact if_pos ⟨lev, other⟩))
  · refine congrArg _ (serve_refuse adm ?_)
    simp only [hx]
    rw [if_neg fun c => may.elim (fun n => n c.1) c.2, if_neg (by rw [ns]; simpa using nc)]
    rfl
  case taken =>
    have number := number_of_passage? hx
    have paid : Paid s.flow (releaseReserve x s.flow) := paid_reserve _ _ _
    obtain ⟨gone, leaves, opp, accounts, out⟩ := passageGone_ended (v := s.base) (x := x) (e := .withdrawn)
      (be := .dissolved) (charge := 0) paid
    rw [show (releaseReserve x s.flow).out = [] from out_reserve _ _ _] at out
    have run : exec (.passWithdraw rq n) s = .next ((s.conclude (withdrawPassage s.base x s.flow)).ok rq 0x31
        (u4 n ++ u1 x.st.code)) := by
      refine congrArg _ (serve_accept adm ?_)
      simp only [hx]
      rw [if_neg fun c => may.elim (fun n => n c.1) c.2, if_pos st, number]
    rw [number] at gone leaves
    refine ⟨withdrawPassage s.base x s.flow, run, gone, accounts, leaves, opp, ?_, fun nb => ?_, fun nb => ?_⟩
    · obtain ⟨more, e⟩ := out
      have e : (withdrawPassage s.base x s.flow).out = _ := e.symm
      rw [e]
      rfl
    · rw [withdrawPassage, leaveItsBatch_none nb, out_endPassage, show (releaseReserve x s.flow).out = [] from out_reserve _ _ _]
      rfl
    · have plant := plant_endPassage s.base x .withdrawn 0 paid
      have same {α : Type} (fn : Plant → α) := congrArg fn plant
      rw [withdrawPassage, leaveItsBatch_none nb]
      exact ⟨same (·.gates), same (·.heads), same (·.channels), same (·.batches)⟩

end Sys2Proof.Machine
end

section
/-! CLEARED, EJECT and REMOVE (07/R127, R132, R133; 08/R146, R151, R152). -/

namespace Sys2Proof.Machine

/-! ## The step of a passage's batch -/

/-- The batch is in a step, or held in it. -/
theorem effective_eq_iff {b : Batch} {st : Step} (h : st ≠ .held) :
    b.effective = st ↔ b.step = st ∨ (b.step = .held ∧ b.heldStep = some st) := by
  unfold Batch.effective
  cases hs : b.heldStep with
  | none => simp
  | some s =>
    by_cases held : b.step = .held
    · simp [held, Ne.symm h]
    · simp [held]

theorem batchOf_eq_some {p : Plant} {x : Passage} {b : Batch} :
    p.batchOf x = some b ↔ ∃ id, x.batch = some id ∧ p.batch? id = some b := by
  simp [Plant.batchOf, Option.bind_eq_some_iff]

theorem stepOf_eq_some {p : Plant} {x : Passage} {st : Step} :
    p.stepOf x = some st ↔ ∃ b, (∃ id, x.batch = some id ∧ p.batch? id = some b) ∧ b.effective = st := by
  simp only [Plant.stepOf, Option.map_eq_some_iff, batchOf_eq_some]

theorem mayEject_iff {p : Plant} {x : Passage} : mayEject p x = true ↔ (x.st = .called ∨ x.st = .berthed)
    ∧ ∃ b, (∃ id, x.batch = some id ∧ p.batch? id = some b) ∧ (b.effective = .entering ∨ b.effective = .sealing)
      ∧ b.chamber = some b.dir.entryChamber := by
  unfold mayEject
  rw [Bool.and_eq_true, Bool.or_eq_true, beq_iff_eq, beq_iff_eq]
  refine and_congr_right fun _ => ?_
  cases h : p.batchOf x with
  | none =>
    refine ⟨nofun, ?_⟩
    rintro ⟨b, hb, -⟩
    rw [batchOf_eq_some.mpr hb] at h
    cases h
  | some b =>
    dsimp only
    rw [Bool.and_eq_true, Bool.or_eq_true, beq_iff_eq, beq_iff_eq, beq_iff_eq]
    refine ⟨fun c => ⟨b, batchOf_eq_some.mp h, c⟩, ?_⟩
    rintro ⟨k, hk, c⟩
    obtain rfl := Option.some.inj (h.symm.trans (batchOf_eq_some.mpr hk))
    exact c

/-! ## A charge posted (08/R151) -/

/-- An account with a charge posted. -/
def Account.charged (x : Passage) (charge : Nat) (a : Account) : Account := { a with
  balance := max (a.balance - charge) (-99999999), reserved := a.reserved - x.amount,
  posted := if a.posted = 65535 then 65535 else a.posted + 1 }

/-- ACCOUNT_POSTED. -/
def postedNow (v : Base) (x : Passage) (id charge : Nat) (a : Account) : Report :=
  reportNow v .account 0x73 (u1 id ++ u4 x.number ++ u4 charge ++ s4 (max (a.balance - charge) (-99999999))
    ++ u4 (a.reserved - x.amount).toNat)

section Post

variable {v : Base} {x : Passage} {charge : Nat} {f : Flow}

theorem postCharge_cash (h : x.payment = none) : postCharge v x charge f = f := by
  unfold postCharge
  rw [h]

theorem postCharge_account {id : Nat} {a : Account} (h : x.payment = some id) (ha : f.toPlant.account? id = some a) :
    (postCharge v x charge f).toPlant.account? id = some (a.charged x charge)
    ∧ postedNow v x id charge a ∈ (postCharge v x charge f).out := by
  have found := account?_setAccount_same (fn := fun _ => a.charged x charge) (fun _ _ => id_of_account? (a := a) ha) ha
  unfold postCharge
  simp only [h, ha]
  refine ⟨?_, ?_⟩
  · rw [toPlant_raise]
    split <;> exact found
  · rw [out_raise]
    exact List.mem_append_right _ List.mem_cons_self

theorem paid_postCharge (v : Base) (x : Passage) (charge : Nat) (f : Flow) : Paid f (postCharge v x charge f) := by
  unfold postCharge
  split
  · exact ⟨rfl, rfl, List.prefix_refl _⟩
  · split
    · exact ⟨rfl, rfl, List.prefix_refl _⟩
    · dsimp only
      split
      · exact ⟨rfl, rfl, (List.prefix_append _ _).trans (List.prefix_append _ _)⟩
      · exact ⟨rfl, rfl, List.prefix_append _ _⟩

end Post

theorem countHull_eq (mark : List Byte) (now : Clock) (b : Books) : countHull mark now b = { b with
    hulls := b.hulls.map fun h => if h.mark = mark then
      { h with passages := if h.passages = 65535 then 65535 else h.passages + 1, last := some now } else h } := rfl

/-- Settles O52: CLEARED, REMOVE and EJECT by the state of the passage and the step of its batch. -/
theorem clearedEjectedAndRemovedPassages : Obligations.ClearedEjectedAndRemovedPassages := by
  intro rq n x s adm hx batchIn leaving ejectable low fee ends posted
  have number := number_of_passage? hx
  have inStep {st : Step} (ne : st ≠ .held) (b : Batch) :
      (∃ id, x.batch = some id ∧ s.plant.batch? id = some b) ∧ b.effective = st ↔ batchIn st b :=
    and_congr_right fun _ => effective_eq_iff ne
  have leavingIff : (x.st = .leaving ∧ s.plant.stepOf x = some .leaving) ↔ leaving := by
    rw [stepOf_eq_some]
    exact and_congr_right fun _ => exists_congr fun b => inStep (by decide) b
  have ejectIff : mayEject s.plant x = true ↔ ejectable := by
    rw [mayEject_iff]
    refine and_congr_right fun _ => exists_congr fun b => ?_
    have entry : b.dir.entryChamber = if b.dir = .up then 1 else 3 := by cases b.dir <;> rfl
    rw [entry, ← and_assoc, and_or_left]
    exact and_congr_left fun _ => or_congr (inStep (by decide) b) (inStep (by decide) b)
  have endsOf {v : Base} {e : PassEnd} {be : BatchEnd} {charge : Nat} {f : Flow} (hv : v.clock = s.base.clock)
      (paid : Paid s.flow f) : ends e charge (leaveItsBatch v x be (endPassage v x e charge f)) := by
    obtain ⟨gone, leaves, opp, -, out⟩ := passageGone_ended (v := v) (x := x) (e := e) (be := be) (charge := charge) paid
    rw [number] at gone leaves
    refine ⟨gone, leaves, opp, ?_⟩
    have told : endedNow s.base x e charge = endedNow v x e charge := by
      unfold endedNow passageNow
      rw [hv]
    rw [told]
    exact out.subset (List.mem_append_right _ List.mem_cons_self)
  have postedOf {v : Base} {e : PassEnd} {be : BatchEnd} {charge : Nat} (hv : v.clock = s.base.clock) :
      posted charge (endCharged v x e be charge s.flow) := by
    have paid := paid_postCharge v x charge s.flow
    obtain ⟨-, -, -, accounts, out⟩ := passageGone_ended (v := v) (x := x) (e := e) (be := be) (charge := charge) paid
    refine ⟨fun cash => accounts.trans (by rw [postCharge_cash cash]; rfl), fun id a pay acc => ?_⟩
    obtain ⟨found, told⟩ := postCharge_account (v := v) (charge := charge) (f := s.flow) pay acc
    refine ⟨?_, ?_⟩
    · rw [Plant.account?, show (endCharged v x e be charge s.flow).accounts = _ from accounts]
      exact found
    · have same : postedNow s.base x id charge a = postedNow v x id charge a := by
        unfold postedNow reportNow
        rw [hv]
      have mem : postedNow s.base x id charge a ∈ (endCharged v x e be charge s.flow).out := by
        rw [same]
        exact out.subset (List.mem_append_left _ told)
      exact mem
  refine ⟨fun h => ?cleared, fun h => ?_, fun ns => ?removed, fun w => ?_, fun h => ?ejected, fun h => ?_⟩
  case cleared =>
    refine ⟨endCharged (s.withBooks (clearedBooks s.base x fee)).base x .completed .completed fee s.flow, _,
      congrArg _ (serve_accept adm ?_), endsOf rfl (paid_postCharge _ _ _ _), postedOf rfl, rfl⟩
    simp only [hx]
    exact if_pos (leavingIff.mpr h)
  case removed =>
    refine ⟨endCharged (s.withBooks (removedBooks s.base x low)).base x .removed .removed low s.flow,
      congrArg _ (serve_accept adm ?_), endsOf rfl (paid_postCharge _ _ _ _), postedOf rfl⟩
    simp only [hx]
    exact if_neg (by rw [ns]; decide)
  case ejected =>
    have paid : Paid s.flow (releaseReserve x s.flow) := paid_reserve _ _ _
    obtain ⟨-, -, -, accounts, -⟩ := passageGone_ended (v := s.base) (x := x) (e := .ejected) (be := .dissolved)
      (charge := 0) paid
    refine ⟨_, congrArg _ (serve_accept adm ?_), endsOf rfl paid, accounts⟩
    simp only [hx]
    exact if_pos (ejectIff.mpr h)
  · exact congrArg _ (serve_refuse adm (by simp only [hx]; exact if_neg fun c => h (leavingIff.mp c)))
  · exact congrArg _ (serve_refuse adm (by simp only [hx]; exact if_pos w))
  · exact congrArg _ (serve_refuse adm (by simp only [hx]; exact if_neg fun c => h (ejectIff.mp c)))

end Sys2Proof.Machine
end

section
/-! A member that berths, and one that is missed (05/R91 to R93; 07/R122, R126; 08/R144). -/

namespace Sys2Proof.Machine

/-! ## A passage record changed (05/R91) -/

section Change

variable {n : Nat} {fn : Passage → Passage} (hfn : ∀ x, (fn x).number = x.number)

include hfn

theorem passage?_setPassage_same {f : Flow} {x : Passage} (h : f.toPlant.passage? n = some x) :
    (setPassage n fn f).toPlant.passage? n = some (fn x) := by
  rw [Plant.passage?, show (setPassage n fn f).passages = f.passages.map fun y => if y.number = n then fn y else y from rfl,
    List.find?_map]
  have e : ((fun y : Passage => y.number == n) ∘ fun y => if y.number = n then fn y else y) = fun y => y.number == n := by
    funext y
    by_cases c : y.number = n <;> simp [c, hfn]
  rw [e, show f.passages.find? (fun y => y.number == n) = some x from h, Option.map_some, if_pos (number_of_passage? h)]

theorem passage?_setPassage_other (f : Flow) {m : Nat} (hm : m ≠ n) :
    (setPassage n fn f).toPlant.passage? m = f.toPlant.passage? m := by
  rw [Plant.passage?, show (setPassage n fn f).passages = f.passages.map fun y => if y.number = n then fn y else y from rfl,
    List.find?_map]
  have e : ((fun y : Passage => y.number == m) ∘ fun y => if y.number = n then fn y else y) = fun y => y.number == m := by
    funext y
    by_cases c : y.number = n <;> simp [c, hfn]
  rw [e, Plant.passage?]
  cases h : f.passages.find? (fun y => y.number == m) with
  | none => rfl
  | some y =>
    have number : y.number = m := by simpa using List.find?_some h
    rw [Option.map_some, if_neg (number ▸ hm)]

theorem queuePosition_setPassage (f : Flow) (m : Nat) :
    queuePosition (setPassage n fn f).passages m = queuePosition f.passages m := by
  rw [queuePosition, queuePosition,
    show (setPassage n fn f).passages = f.passages.map fun y => if y.number = n then fn y else y from rfl, List.findIdx_map]
  congr 2
  funext y
  by_cases c : y.number = n <;> simp [c, hfn]

theorem toPlant_changePassage {v : Base} {c : PassCause} {f : Flow} {x : Passage} (h : f.toPlant.passage? n = some x) :
    (changePassage v n c fn f).toPlant = (setPassage n fn f).toPlant
    ∧ (changePassage v n c fn f).opp = f.opp
    ∧ (changePassage v n c fn f).out = f.out ++ [passageNow v (fn x) 0x20 (u1 x.st.code ++ u1 (fn x).st.code
      ++ u1 (queuePosition f.passages n) ++ opt1 (fn x).batch ++ opt1 (fn x).chamber ++ u1 c.code)] := by
  have found := passage?_setPassage_same hfn h
  unfold changePassage
  simp only [h]
  refine ⟨toPlant_passageReport _ _ _ _ _, ?_, ?_⟩
  · unfold passageReport
    split <;> rfl
  · rw [out_passageReport found, queuePosition_setPassage hfn]
    rfl

end Change

/-! ## A first berthing (05/R92; 08/R144) -/

/-- FEE_FIXED of a passage whose toll is now `q`. -/
def feeNow (v : Base) (x : Passage) (q : Nat × Basis) : Report :=
  reportNow v .account 0x70 (u4 x.number ++ x.mark ++ paymentByte x.payment ++ u4 x.amount ++ u4 q.1 ++ basisByte (some q.2))

/-- The fee fixed: the passage's record, its reservation, FEE_FIXED. -/
theorem fixFee_found {v : Base} {n : Nat} {x : Passage} {f : Flow} (h : f.toPlant.passage? n = some x) :
    let q := quote v f.toPlant x
    fixFee v n f = raise v .account 0x70
        (u4 x.number ++ x.mark ++ paymentByte x.payment ++ u4 x.amount ++ u4 q.1 ++ basisByte (some q.2))
      (setPassage n (fun p => { p with committed := some (.fee, q.1), basis := some q.2 })
        (reserve x.payment ((q.1 : Int) - x.amount) f)) := by
  unfold fixFee
  simp only [h]

theorem toPlant_reserve (payment : Option Nat) (by_ : Int) (f : Flow) :
    (reserve payment by_ f).toPlant = { f.toPlant with accounts := (reserve payment by_ f).accounts } := by
  unfold reserve
  split <;> rfl

theorem flagMember_leaves (x : Passage) (f : Flow) :
    (flagMember x f).toPlant = { f.toPlant with batches := (flagMember x f).batches } ∧ (flagMember x f).out = f.out := by
  unfold flagMember
  split <;> exact ⟨rfl, rfl⟩

/-- The reservation of a payment moved depends on the accounts alone. -/
theorem accounts_reserve_congr (payment : Option Nat) (by_ : Int) {f g : Flow} (h : f.accounts = g.accounts) :
    (reserve payment by_ f).accounts = (reserve payment by_ g).accounts := by
  unfold reserve
  split
  · exact h
  · next id =>
    exact congrArg (List.map fun a : Account => if a.id = id then { a with reserved := a.reserved + by_ } else a) h

/-- A passage that berths again. -/
def Passage.berthedAgain (x : Passage) : Passage := { x with st := .berthed }

/-- A passage that berths for the first time. -/
def Passage.berthedFirst (v : Base) (x : Passage) : Passage := { x with st := .berthed, berthedAt := some v.clock }

section Berth

variable {v : Base} {n : Nat} {x : Passage} {f : Flow} (h : f.toPlant.passage? n = some x)

include h

/-- A member flagged, and its record changed, with PASSAGE_STATE. -/
theorem movedMember_leaves {fn : Passage → Passage} (hfn : ∀ y, (fn y).number = y.number) :
    let g := changePassage v n .movement fn (flagMember x f)
    g.toPlant = { f.toPlant with passages := g.passages, batches := g.batches }
    ∧ g.toPlant.passage? n = some (fn x)
    ∧ (∀ m, m ≠ n → g.toPlant.passage? m = f.toPlant.passage? m)
    ∧ g.out = f.out ++ [passageNow v (fn x) 0x20 (u1 x.st.code ++ u1 (fn x).st.code
      ++ u1 (queuePosition f.passages n) ++ opt1 (fn x).batch ++ opt1 (fn x).chamber ++ u1 6)] := by
  intro g
  obtain ⟨flagged, out⟩ := flagMember_leaves x f
  have passages : (flagMember x f).passages = f.passages := by
    have e := congrArg Plant.passages flagged
    exact e
  have found : (flagMember x f).toPlant.passage? n = some x := by
    rw [Plant.passage?, passages]
    exact h
  obtain ⟨plant, -, told⟩ := toPlant_changePassage hfn (v := v) (c := .movement) found
  have plant : g.toPlant = _ := plant
  have told : g.out = _ := told
  rw [told, plant, out, passages]
  refine ⟨?_, passage?_setPassage_same hfn found, fun m hm => (passage?_setPassage_other hfn _ hm).trans ?_, rfl⟩
  · rw [toPlant_setPassage, flagged]
  · rw [Plant.passage?, passages]
    rfl

/-- A berthing beyond entry: the record alone, and PASSAGE_STATE. -/
theorem berthAhead_leaves : OnlyMembers f.toPlant (berthAhead v x f).toPlant ∧ (berthAhead v x f).accounts = f.accounts
    ∧ (berthAhead v x f).toPlant.passage? n = some x.berthedAgain
    ∧ (berthAhead v x f).out = f.out ++ [passageNow v x 0x20 (u1 x.st.code ++ u1 PassSt.berthed.code
      ++ u1 (queuePosition f.passages n) ++ opt1 x.batch ++ opt1 x.chamber ++ u1 6)]
    ∧ ∀ m, m ≠ n → (berthAhead v x f).toPlant.passage? m = f.toPlant.passage? m := by
  obtain ⟨plant, found, other, told⟩ := movedMember_leaves (v := v) h (fn := Passage.berthedAgain) fun _ => rfl
  have e : berthAhead v x f = changePassage v n .movement Passage.berthedAgain (flagMember x f) := by
    rw [berthAhead, number_of_passage? h]
    rfl
  have acc := congrArg Plant.accounts plant
  rw [e]
  refine ⟨?_, acc, found, told, other⟩
  unfold OnlyMembers
  rw [acc]
  exact plant

/-- A first berthing: the record, the fee, and the two reports. -/
theorem berthFirst_leaves :
    let q := quote v f.toPlant x
    OnlyMembers f.toPlant (berthFirst v x f).toPlant
    ∧ (berthFirst v x f).toPlant.passage? n = some { x with
        st := .berthed, berthedAt := some v.clock, committed := some (.fee, q.1), basis := some q.2 }
    ∧ (∀ m, m ≠ n → (berthFirst v x f).toPlant.passage? m = f.toPlant.passage? m)
    ∧ (berthFirst v x f).accounts = (reserve x.payment ((q.1 : Int) - x.amount) f).accounts
    ∧ (berthFirst v x f).out = f.out ++ [passageNow v x 0x20 (u1 x.st.code ++ u1 PassSt.berthed.code
      ++ u1 (queuePosition f.passages n) ++ opt1 x.batch ++ opt1 x.chamber ++ u1 6), feeNow v x q] := by
  intro q
  obtain ⟨plant, found, other, told⟩ := movedMember_leaves (v := v) h (fn := Passage.berthedFirst v) fun _ => rfl
  have e : berthFirst v x f = fixFee v n (changePassage v n .movement (Passage.berthedFirst v) (flagMember x f)) := by
    rw [berthFirst, number_of_passage? h]
    rfl
  generalize changePassage v n .movement (Passage.berthedFirst v) (flagMember x f) = k at *
  have toll : quote v k.toPlant (x.berthedFirst v) = q := by
    rw [plant]
    rfl
  have fee := fixFee_found (v := v) found
  rw [toll] at fee
  let paid := reserve x.payment ((q.1 : Int) - x.amount) k
  let fix : Passage → Passage := fun p => { p with committed := some (.fee, q.1), basis := some q.2 }
  have paidPlant : paid.toPlant = { k.toPlant with accounts := paid.accounts } := toPlant_reserve _ _ _
  have plant' : (berthFirst v x f).toPlant = (setPassage n fix paid).toPlant := by rw [e, fee]; rfl
  have foundPaid : paid.toPlant.passage? n = some (x.berthedFirst v) := by rw [paidPlant]; exact found
  have accounts : paid.accounts = (reserve x.payment ((q.1 : Int) - x.amount) f).accounts := by
    have acc := congrArg Plant.accounts plant
    exact accounts_reserve_congr _ _ acc
  rw [plant']
  refine ⟨?_, passage?_setPassage_same (fn := fix) (fun _ => rfl) foundPaid, fun m hm => ?_, accounts, ?_⟩
  · unfold OnlyMembers
    rw [toPlant_setPassage, paidPlant, plant]
  · rw [passage?_setPassage_other (fn := fix) (fun _ => rfl) _ hm, paidPlant]
    exact other m hm
  · have out : (berthFirst v x f).out = paid.out ++ [feeNow v x q] := by rw [e, fee]; rfl
    rw [out, show paid.out = k.out from out_reserve _ _ _, told, List.append_assoc]
    rfl

end Berth

end Sys2Proof.Machine
end

section
/-! A member missed, and the expiry of the berth timer in ENTERING (05/R93; 07/R122, R126). -/

namespace Sys2Proof.Machine

/-- What a passage's leaving its batch makes of the batches depends on the batches alone. -/
theorem LeavesBatch.of_batches {n : Nat} {x : Passage} {p p' q : Plant} (h : LeavesBatch n x p q)
    (e : p'.batches = p.batches) : LeavesBatch n x p' q := by
  unfold LeavesBatch Plant.batch? at *
  rw [e]
  exact h

section Miss

variable {v : Base} {n : Nat} {x : Passage} {f : Flow} (h : f.toPlant.passage? n = some x)

include h

theorem missPassage_first (m : x.misses = 0) : missPassage v n f = leaveItsBatch v x .dissolved
    (askOpportunity (changePassage v n .missed Passage.uncalled (releaseReserve x f))) := by
  unfold missPassage
  simp only [h]
  rw [if_pos (by omega)]

theorem missPassage_second (m : 1 ≤ x.misses) :
    missPassage v n f = leaveItsBatch v x .dissolved (endPassage v x .missed 0 (releaseReserve x f)) := by
  unfold missPassage
  simp only [h]
  rw [if_neg (by omega)]
  rfl

theorem missPassage_leaves :
    let g := missPassage v n f
    g.accounts = (releaseReserve x f).accounts ∧ g.regime = f.regime ∧ g.nextPassage = f.nextPassage
    ∧ g.opp = true ∧ LeavesBatch n x f.toPlant g.toPlant
    ∧ (x.misses = 0 → ∃ more, g.out = f.out ++ passageNow v x 0x20 (u1 x.st.code ++ u1 PassSt.waiting.code
      ++ u1 (queuePosition f.passages n) ++ u1 0 ++ u1 0 ++ u1 3) :: more)
    ∧ (1 ≤ x.misses → ∃ more, g.out = f.out ++ endedNow v x .missed 0 :: more)
    ∧ (x.misses = 0 → g.toPlant.passage? n = some { x with
        batch := none, chamber := none, committed := none, misses := 1, st := .waiting })
    ∧ (1 ≤ x.misses → PassageGone n f.toPlant g.toPlant) := by
  intro g
  have number := number_of_passage? h
  have paid : Paid f (releaseReserve x f) := paid_reserve _ _ _
  have out : (releaseReserve x f).out = f.out := out_reserve _ _ _
  obtain m | m : x.misses = 0 ∨ 1 ≤ x.misses := by omega
  · have found : (releaseReserve x f).toPlant.passage? n = some x := by
      rw [paid.plant]
      exact h
    obtain ⟨plant, -, told⟩ := toPlant_changePassage (fn := Passage.uncalled) (fun _ => rfl) (v := v) (c := .missed) found
    have found := passage?_setPassage_same (fn := Passage.uncalled) (fun _ => rfl) found
    obtain ⟨left, leaves⟩ := left_leaveItsBatch v x .dissolved
      (askOpportunity (changePassage v n .missed Passage.uncalled (releaseReserve x f)))
    rw [← missPassage_first h m] at left leaves
    have same {α : Type} (fn : Plant → α) := congrArg fn (plant.trans (toPlant_setPassage _ n _))
    have paidSame {α : Type} (fn : Plant → α) := congrArg fn paid.plant
    have regime : (releaseReserve x f).regime = f.regime := paidSame (·.regime)
    have counter : (releaseReserve x f).nextPassage = f.nextPassage := paidSame (·.nextPassage)
    have batches : (releaseReserve x f).batches = f.batches := paidSame (·.batches)
    have passages : (releaseReserve x f).passages = f.passages := paidSame (·.passages)
    rw [number] at leaves
    refine ⟨left.accounts.trans (same (·.accounts)), left.regime.trans ((same (·.regime)).trans regime),
      left.nextPassage.trans ((same (·.nextPassage)).trans counter), left.opp rfl,
      leaves.of_batches ((same (·.batches)).trans batches).symm, fun _ => ?_, fun c => by omega, fun _ => ?_, fun c => by omega⟩
    · obtain ⟨more, e⟩ := left.out
      have e : _ = g.out := e
      refine ⟨more, ?_⟩
      rw [← e, out_askOpportunity, told, out, passages, List.append_assoc]
      rfl
    · have e := left.passages.trans (congrArg Plant.passages plant)
      rw [Plant.passage?, show g.passages = _ from e]
      refine Eq.trans found ?_
      rw [Passage.uncalled, m]
  · obtain ⟨gone, leaves, opp, accounts, more, e⟩ := passageGone_ended (v := v) (x := x) (e := .missed) (be := .dissolved)
      (charge := 0) paid
    rw [← missPassage_second h m] at gone leaves opp accounts e
    rw [number] at gone leaves
    have regime := gone.2.2.2.1
    have counter := gone.2.1
    refine ⟨accounts, regime, counter, opp, leaves, fun c => by omega, fun _ => ⟨more, ?_⟩, fun c => by omega, fun _ => gone⟩
    have e : _ = g.out := e
    rw [← e, out, List.append_assoc]
    rfl

end Miss

/-! ## Late members, and the berth timer (07/R122, R126) -/

/-- The numbers of the members in a state. -/
theorem members_in_state (p : Plant) (b : Batch) (st : PassSt) :
    (b.members.filter fun m => p.memberSt m == some st).map (·.number)
      = (b.members.map (·.number)).filter fun n => decide ((p.passage? n).map (·.st) = some st) := by
  have same : (fun m : Member => p.memberSt m == some st)
      = (fun n => decide ((p.passage? n).map (·.st) = some st)) ∘ (·.number) := by
    funext m
    exact beq_eq_decide _ _
  rw [List.filter_map, same]

theorem berthDue_iff {v : Base} {p : Plant} {st : Step} {b : Batch} : berthDue v p st b = true ↔
    b.step = st ∧ b.frozen = false ∧ p.regime.mode = .auto
      ∧ ∃ t, b.berth.since = some t ∧ 10 * v.settings.berthLimit ≤ b.berth.run + (v.elapsed - t) := by
  unfold berthDue BerthTimer.value
  cases b.berth.since <;> simp [and_assoc]

/-! ## The answers -/

theorem entering_iff {p : Plant} {x : Passage} : p.stepOf x = some .entering ↔ ∃ id b, x.batch = some id ∧ p.batch? id = some b
    ∧ (b.step = .entering ∨ (b.step = .held ∧ b.heldStep = some .entering)) := by
  rw [stepOf_eq_some]
  constructor
  · rintro ⟨b, ⟨id, hid, hb⟩, e⟩
    exact ⟨id, b, hid, hb, (effective_eq_iff (by decide)).mp e⟩
  · rintro ⟨id, b, hid, hb, e⟩
    exact ⟨b, ⟨id, hid, hb⟩, (effective_eq_iff (by decide)).mpr e⟩

section Answers

variable {rq : Rq} {n : Nat} {x : Passage} {s : State} (adm : Admitted s rq 0) (hx : s.plant.passage? n = some x)

include adm hx

theorem exec_berthed {f : Flow} (hf : berthing s.base x s.flow = some f) {y : Passage}
    (hy : f.toPlant.passage? n = some y) :
    exec (.berthed rq n) s = .next ((s.conclude f).ok rq 0x41 (u1 PassSt.berthed.code ++ u4 y.amount)) := by
  refine congrArg _ (serve_accept adm ?_)
  simp only [hx, hf, hy]
  rfl

theorem exec_berthed_refused (hf : berthing s.base x s.flow = none) :
    exec (.berthed rq n) s = .next (s.no rq 0x41 .state []) :=
  congrArg _ (serve_refuse adm (by simp only [hx, hf]; rfl))

end Answers

/-- Settles O50: BERTHED and MISSED by the state of the member; a member missed; the expiry. -/
theorem berthedAndMissedMoveAMember : Obligations.BerthedAndMissedMoveAMember := by
  refine ⟨fun rq n x s adm hx => ?requests, fun v n x f hx => missPassage_leaves hx, fun id b s hp hb => ?expiry⟩
  case requests =>
    intro q entering moved
    have isEntering : s.flow.toPlant.stepOf x = some .entering ↔ entering := entering_iff
    refine ⟨fun st en => ?first, fun st => ?again, fun ns n => ?refused, fun st en => ?missed, fun n => ?_⟩
    case first =>
      have hf : berthing s.base x s.flow = some (berthFirst s.base x s.flow) := by
        unfold berthing
        simp only [st]
        exact if_pos (isEntering.mpr en)
      obtain ⟨only, found, other, accounts, out⟩ := berthFirst_leaves (v := s.base) (f := s.flow) hx
      rw [st] at out
      have run := exec_berthed adm hx hf found
      generalize berthFirst s.base x s.flow = k at *
      exact ⟨k, run, only, found, other, accounts, out⟩
    case again =>
      have hf : berthing s.base x s.flow = some (berthAhead s.base x s.flow) := by
        unfold berthing
        simp only [st]
      obtain ⟨only, accounts, found, out, other⟩ := berthAhead_leaves (v := s.base) (f := s.flow) hx
      rw [st] at out
      have run := exec_berthed adm hx hf found
      exact ⟨_, run, only, accounts, found, out, other⟩
    case refused =>
      refine exec_berthed_refused adm hx ?_
      unfold berthing
      split
      · next st => exact if_neg fun c => n.elim (fun k => k st) fun k => k (isEntering.mp c)
      · next st => exact absurd st ns
      · rfl
    case missed =>
      refine ⟨optFF (((missPassage s.base n s.flow).toPlant.passage? n).map fun p => p.st.code),
        congrArg _ (serve_accept adm ?_)⟩
      simp only [hx]
      exact if_pos ⟨st, isEntering.mpr en⟩
    · refine congrArg _ (serve_refuse adm ?_)
      simp only [hx]
      exact if_neg fun c => n.elim (fun k => k c.1) fun k => k (isEntering.mp c.2)
  case expiry =>
    intro due late
    have members : lateMembers s.plant b = late := members_in_state s.plant b .called
    refine ⟨fun d => ?_, fun d => ?_⟩
    · show execEntryBerthExpiry id s = _
      unfold execEntryBerthExpiry
      simp only [hp, hb]
      rw [if_pos (berthDue_iff.mpr d), members]
    · show execEntryBerthExpiry id s = _
      unfold execEntryBerthExpiry
      simp only [hp, hb]
      rw [if_neg fun c => d (berthDue_iff.mp c)]

end Sys2Proof.Machine
end

section
/-! A batch held, a shift overdue, and a batch waved on (07/R119, R126, R129, R131). -/

namespace Sys2Proof.Machine

/-! ## The reports of a batch (07/R119, R129) -/

theorem toPlant_stepReport (v : Base) (id : Nat) (f : Flow) : (stepReport v id f).toPlant = f.toPlant := by
  unfold stepReport
  split <;> rfl

theorem toPlant_heldReport (v : Base) (id : Nat) (f : Flow) : (heldReport v id f).toPlant = f.toPlant := by
  unfold heldReport
  split <;> rfl

theorem opp_stepReport (v : Base) (id : Nat) (f : Flow) : (stepReport v id f).opp = f.opp := by
  unfold stepReport
  split <;> rfl

theorem opp_heldReport (v : Base) (id : Nat) (f : Flow) : (heldReport v id f).opp = f.opp := by
  unfold heldReport
  split <;> rfl

section Reports

variable {v : Base} {id : Nat} {f : Flow} {b : Batch} (h : f.toPlant.batch? id = some b)

include h

theorem out_stepReport : (stepReport v id f).out = f.out ++ [batchNow v f.toPlant b] := by
  unfold stepReport
  simp only [h]
  rfl

theorem out_heldReport : (heldReport v id f).out = f.out ++ [heldNow v b] := by
  unfold heldReport
  simp only [h]
  rfl

end Reports

/-- BATCH_STEP reads the passages alone. -/
theorem batchNow_congr (v : Base) {p q : Plant} (h : p.passages = q.passages) (b : Batch) : batchNow v p b = batchNow v q b := by
  unfold batchNow memberFields Plant.memberSt Plant.passage?
  rw [h]

/-! ## Holding (07/R129) -/

/-- A batch put into HELD for a cause. -/
def Batch.heldFor (v : Base) (c : HeldCause) (x : Batch) : Batch := { x with
  step := .held, heldStep := some x.step, causes := x.causes.put c true, stepStart := v.elapsed
  berth := if c = .overdue then x.berth else x.berth.pause v.elapsed }

/-- A gate whose pending OPEN for a batch is withdrawn. -/
def Gate.withdrawn (id : Nat) (x : Gate) : Gate := if x.ask = some (.openFor id) then { x with ask := none } else x

theorem withdrawn_withdrawn (id : Nat) (x : Gate) : (x.withdrawn id).withdrawn id = x.withdrawn id := by
  unfold Gate.withdrawn
  split <;> simp [*]

theorem st_withdrawn (id : Nat) (x : Gate) : (x.withdrawn id).st = x.st := by
  unfold Gate.withdrawn
  split <;> rfl

theorem opp_overAll_setGate (fn : Gate → Gate) (gs : List (Fin 4)) (f : Flow) :
    (overAll gs (fun g => setGate g fn) f).opp = f.opp := by
  induction gs generalizing f with
  | nil => rfl
  | cons g gs ih => rw [overAll_cons, ih, opp_setGate]

/-- Every pending OPEN for a batch withdrawn. -/
def withdrawAll (id : Nat) : Flow → Flow := overAll allGates (fun g => setGate g (Gate.withdrawn id))

theorem gates_withdrawAll (id : Nat) (f : Flow) (g : Fin 4) :
    (withdrawAll id f).gates.nth g = (f.gates.nth g).withdrawn id := by
  rw [withdrawAll, gates_overAll_setGate (withdrawn_withdrawn id)]

theorem toPlant_withdrawAll (id : Nat) (f : Flow) :
    (withdrawAll id f).toPlant = { f.toPlant with gates := (withdrawAll id f).gates } := by
  have plant := toPlant_overAll_setGate (Gate.withdrawn id) allGates f
  have gates : (withdrawAll id f).gates = _ := congrArg Plant.gates plant
  rw [gates]
  exact plant

theorem batch?_withdrawAll (id i : Nat) (f : Flow) : (withdrawAll id f).toPlant.batch? i = f.toPlant.batch? i := by
  unfold Plant.batch?
  rw [toPlant_withdrawAll]

theorem out_withdrawAll (id : Nat) (f : Flow) : (withdrawAll id f).out = f.out := out_overAll_setGate _ _ _

theorem opp_withdrawAll (id : Nat) (f : Flow) : (withdrawAll id f).opp = f.opp := opp_overAll_setGate _ _ _

theorem hold_first {v : Base} {id : Nat} (c : HeldCause) {f : Flow} {b : Batch} (h : f.toPlant.batch? id = some b)
    (st : b.step ≠ .held) :
    hold v id c f = heldReport v id (stepReport v id (withdrawAll id (setBatch id (Batch.heldFor v c) f))) := by
  unfold hold
  simp only [h]
  rw [if_neg fun k => st k.1]
  simp only [st, ne_eq, not_false_eq_true, decide_true, if_true]
  rfl

/-- A batch that meets its first cause: its record, the OPEN it withdraws, and the two reports. -/
structure HeldFirst (v : Base) (id : Nat) (c : HeldCause) (b : Batch) (f k : Flow) : Prop where
  plant : k.toPlant = { f.toPlant with gates := k.gates, batches := (setBatch id (Batch.heldFor v c) f).batches }
  gates : ∀ g, k.gates.nth g = (f.gates.nth g).withdrawn id
  batch : k.toPlant.batch? id = some (b.heldFor v c)
  others : ∀ i, i ≠ id → k.toPlant.batch? i = f.toPlant.batch? i
  opp : k.opp = f.opp
  out : k.out = f.out ++ [batchNow v f.toPlant (b.heldFor v c), heldNow v (b.heldFor v c)]

theorem heldFirst_hold {v : Base} {id : Nat} {c : HeldCause} {f : Flow} {b : Batch} (h : f.toPlant.batch? id = some b)
    (st : b.step ≠ .held) : HeldFirst v id c b f (hold v id c f) := by
  have plant : (hold v id c f).toPlant = (withdrawAll id (setBatch id (Batch.heldFor v c) f)).toPlant := by
    rw [hold_first c h st, toPlant_heldReport, toPlant_stepReport]
  have found : (withdrawAll id (setBatch id (Batch.heldFor v c) f)).toPlant.batch? id = some (b.heldFor v c) := by
    rw [batch?_withdrawAll]
    exact batch?_setBatch_same (fn := Batch.heldFor v c) (fun _ => rfl) h
  have reported : (stepReport v id (withdrawAll id (setBatch id (Batch.heldFor v c) f))).toPlant.batch? id
      = some (b.heldFor v c) := by
    rw [toPlant_stepReport]
    exact found
  have passages : (withdrawAll id (setBatch id (Batch.heldFor v c) f)).passages = f.passages := by
    rw [toPlant_withdrawAll, toPlant_setBatch]
  refine ⟨?_, fun g => ?_, by rw [plant]; exact found, fun i hi => ?_, ?_, ?_⟩
  · rw [plant]
    exact toPlant_withdrawAll id _
  · rw [plant, gates_withdrawAll, toPlant_setBatch]
  · rw [plant, batch?_withdrawAll]
    exact batch?_setBatch_other (fn := Batch.heldFor v c) (fun _ => rfl) f hi
  · rw [hold_first c h st, opp_heldReport, opp_stepReport, opp_withdrawAll]
    rfl
  · rw [hold_first c h st, out_heldReport reported, out_stepReport found, out_withdrawAll, out_setBatch,
      batchNow_congr v passages, List.append_assoc]
    rfl

/-! ## A shift overdue (07/R126) -/

/-- BERTH_OVERDUE of a batch with its late members. -/
def overdueNow (v : Base) (id : Nat) (late : List Nat) : Report :=
  reportNow v .alarm 0x0A (u1 id ++ u1 late.length ++ late.flatMap u4)

/-- The numbers of the members still SHIFTING. -/
def lateShift (p : Plant) (b : Batch) : List Nat :=
  (b.members.map (·.number)).filter fun n => decide ((p.passage? n).map (·.st) = some .shifting)

theorem out_overdueReport (v : Base) (b : Batch) {p : Plant} {f : Flow} (hp : f.passages = p.passages) :
    (overdueReport v b f).out = f.out ++ [overdueNow v b.id (lateShift p b)] := by
  have same : lateShift p b = lateShift f.toPlant b := by
    unfold lateShift Plant.passage?
    rw [hp]
  rw [same, lateShift, ← members_in_state]
  unfold overdueReport overdueNow reportNow
  rw [out_raise, List.length_map, List.flatMap_map]

theorem lateShift_ne_nil {p : Plant} {b : Batch} : anyShifting p b = true ↔ lateShift p b ≠ [] := by
  rw [lateShift, ← members_in_state, ne_eq, List.map_eq_nil_iff, List.filter_eq_nil_iff, anyShifting, List.any_eq_true]
  push Not
  rfl

/-- A batch held OVERDUE. -/
theorem holdOverdue_leaves {v : Base} {id : Nat} {b : Batch} {f : Flow} (hb : f.toPlant.batch? id = some b)
    (st : b.step ≠ .held) :
    let y := b.heldFor v .overdue
    let k := holdOverdue v b f
    k.toPlant.batch? id = some { y with overdue := some v.elapsed }
    ∧ k.out = f.out ++ [batchNow v f.toPlant y, heldNow v y, overdueNow v id (lateShift f.toPlant b)]
    ∧ k.heads = f.heads ∧ k.passages = f.passages ∧ k.accounts = f.accounts
    ∧ ∀ g, (k.gates.nth g).st = (f.gates.nth g).st := by
  intro y k
  have hid := id_of_batch? hb
  have held := heldFirst_hold (v := v) (c := .overdue) hb st
  have e : k = overdueReport v b (setBatch id (fun x => { x with overdue := some v.elapsed }) (hold v id .overdue f)) := by
    show holdOverdue v b f = _
    rw [holdOverdue, hid]
  have plant : k.toPlant = (setBatch id (fun x => { x with overdue := some v.elapsed }) (hold v id .overdue f)).toPlant := by
    rw [e]
    rfl
  have same {α : Type} (x : Plant → α) := congrArg x held.plant
  have passages : (hold v id .overdue f).passages = f.passages := same (·.passages)
  rw [plant]
  refine ⟨batch?_setBatch_same (fn := fun x => { x with overdue := some v.elapsed }) (fun _ => by rfl) held.batch, ?_,
    same (·.heads), passages, same (·.accounts), fun g => ?_⟩
  · have out := out_overdueReport v b (p := f.toPlant)
      (f := setBatch id (fun x => { x with overdue := some v.elapsed }) (hold v id .overdue f)) passages
    rw [← e, out_setBatch, held.out, hid] at out
    rw [out, List.append_assoc]
    rfl
  · have gate := held.gates g
    exact (congrArg Gate.st gate).trans (st_withdrawn _ _)

end Sys2Proof.Machine
end

section
/-! Overdue, waived and confirmed batches (07/R119, R126, R129, R131, R138). -/

namespace Sys2Proof.Machine

/-! ## The waiver (04/R76; 07/R131) -/

/-- A head that carries the waved mark. -/
def Head.waive (x : Head) : Head := { x with waved := true }

theorem aspectsOf_waive (v : Base) (h : Fin 8) (x : Head) : aspectsOf v h x (headAfter v h Head.waive x) = [] := by
  have shown : (headAfter v h Head.waive x).shown = x.shown := shown_headAfter v h Head.waive x
  have driven : (headAfter v h Head.waive x).driven = x.driven := driven_headAfter v h Head.waive x
  rw [aspectsOf, shown, driven]
  simp

/-- The waiver of a batch HELD for a head that it holds and whose GN is FAILED. -/
theorem waiveBatch_leaves {v : Base} {b : Batch} {h : Fin 8} {f : Flow} (hb : f.toPlant.batch? b.id = some b)
    (head : b.headOf b.effective = some h) (holder : (f.heads.nth h).holder = .batch b.id)
    (gn : (f.heads.nth h).good.gn = false) : ∃ k, waiveBatch v b f = some k
      ∧ k.toPlant = { f.toPlant with heads := f.heads.put h (k.heads.nth h), batches := k.batches }
      ∧ (k.heads.nth h).waved = true ∧ (k.heads.nth h).shown = (f.heads.nth h).shown
      ∧ k.toPlant.batch? b.id = some { b with waved := true } ∧ k.out = f.out := by
  have becomes := (headBecomes_refl h f).change v Head.waive
  have taken : waiveHead v b.id h f = some (changeHead v h Head.waive f) := if_pos ⟨holder, gn⟩
  have same : (changeHead v h Head.waive f).toPlant.batch? b.id = f.toPlant.batch? b.id := by
    unfold Plant.batch?
    rw [becomes.plant]
  refine ⟨setBatch b.id (fun x => { x with waved := true }) (changeHead v h Head.waive f), ?_, ?_, ?_, ?_, ?_, ?_⟩
  · unfold waiveBatch
    simp only [head, taken, Option.map_some]
  · rw [toPlant_setBatch, becomes.plant, Tbl.nth_put_same]
  · rw [toPlant_setBatch, becomes.head]
    exact (headAfter_keeps v h Head.waive (f.heads.nth h)).2.2.2.1
  · rw [toPlant_setBatch, becomes.head]
    exact shown_headAfter v h Head.waive (f.heads.nth h)
  · exact batch?_setBatch_same (fn := fun x => { x with waved := true }) (fun _ => by rfl) (same.trans hb)
  · rw [out_setBatch, becomes.out, aspectsOf_waive, List.append_nil, List.append_nil]

/-! ## The water at a confirmation (02/R38) -/

/-- Only a sluice commanded to 4 has changed, with its channel. -/
structure Reduced (f k : Flow) : Prop where
  plant : k.toPlant = { f.toPlant with sluices := k.sluices, channels := k.channels }
  still : ∀ g, (f.sluices.nth g).cmd ≠ 4 → k.sluices.nth g = f.sluices.nth g ∧ k.channels.nth g = f.channels.nth g

theorem Reduced.refl (f : Flow) : Reduced f f := ⟨rfl, fun _ _ => ⟨rfl, rfl⟩⟩

theorem Reduced.trans {f k m : Flow} (h : Reduced f k) (j : Reduced k m) : Reduced f m := by
  refine ⟨j.plant.trans (by rw [h.plant]), fun g c => ?_⟩
  obtain ⟨sluice, channel⟩ := h.still g c
  obtain ⟨sluice', channel'⟩ := j.still g (by rw [sluice]; exact c)
  exact ⟨sluice'.trans sluice, channel'.trans channel⟩

theorem reduced_reduceSluice (v : Base) (g : Fin 4) (f : Flow) : Reduced f (reduceSluice v g f) := by
  unfold reduceSluice
  dsimp only
  split
  case isFalse => exact .refl f
  case isTrue c =>
    obtain ⟨y, rs, b⟩ := sluiceBecomes_command v g 3 f
    refine ⟨by rw [toPlant_setChannel, b.plant], fun i ci => ?_⟩
    have other : i ≠ g := fun e => ci (e ▸ c.2.1)
    rw [toPlant_setChannel, b.plant]
    exact ⟨Tbl.nth_put_other _ _ _ _ other.symm, Tbl.nth_upd_other _ _ _ _ other.symm⟩

theorem reduced_tellOccupied (v : Base) (change : Flow → Flow) (f : Flow) : Reduced (change f) (tellOccupied v change f) := by
  unfold tellOccupied
  refine overAll_of (P := Reduced (change f)) (fun k _ m h => ?_) (.refl _)
  split
  · exact overAll_of (P := Reduced (change f)) (fun g _ m h => h.trans (reduced_reduceSluice v g m)) h
  · exact h

/-! ## Members confirmed (05/R92; 07/R138) -/

/-- A passage confirmed in a chamber. -/
def Passage.confirmed (v : Base) (k : Nat) (x : Passage) : Passage :=
  { x with st := .berthed, chamber := some k, berthedAt := some (x.berthedAt.getD v.clock) }

/-- What a confirmation makes of the record of a member. -/
structure Confirms (v : Base) (k : Nat) (x z : Passage) : Prop where
  st : z.st = .berthed
  chamber : z.chamber = some k
  berthedAt : z.berthedAt = some (x.berthedAt.getD v.clock)
  committed : x.berthedAt.isSome = true → z.committed = x.committed

theorem Confirms.trans {v : Base} {k : Nat} {x y z : Passage} (h : Confirms v k x y) (j : Confirms v k y z) :
    Confirms v k x z :=
  ⟨j.st, j.chamber, by rw [j.berthedAt, h.berthedAt, Option.getD_some],
    fun c => (j.committed (by rw [h.berthedAt]; rfl)).trans (h.committed c)⟩

/-- Only passages and accounts have changed. -/
def OnlyBooked (f k : Flow) : Prop := k.toPlant = { f.toPlant with passages := k.passages, accounts := k.accounts }

theorem OnlyBooked.trans {f k m : Flow} (h : OnlyBooked f k) (j : OnlyBooked k m) : OnlyBooked f m :=
  Eq.trans j (by rw [show k.toPlant = _ from h])

theorem onlyBooked_changePassage {v : Base} {n : Nat} {c : PassCause} {fn : Passage → Passage}
    (hfn : ∀ x, (fn x).number = x.number) {f : Flow} {x : Passage} (h : f.toPlant.passage? n = some x) :
    OnlyBooked f (changePassage v n c fn f) := by
  have plant := (toPlant_changePassage (v := v) (c := c) hfn h).1
  unfold OnlyBooked
  rw [plant, toPlant_setPassage]

/-- A fee fixed: only its passage and the accounts have changed; the state of the passage stands. -/
theorem fixFee_leaves {v : Base} {n : Nat} {x : Passage} {f : Flow} (h : f.toPlant.passage? n = some x) :
    OnlyBooked f (fixFee v n f)
    ∧ (∃ z, (fixFee v n f).toPlant.passage? n = some z ∧ z.st = x.st ∧ z.chamber = x.chamber ∧ z.berthedAt = x.berthedAt)
    ∧ ∀ m, m ≠ n → (fixFee v n f).toPlant.passage? m = f.toPlant.passage? m := by
  rw [fixFee_found h]
  generalize quote v f.toPlant x = q
  have same (m : Nat) (r : Int) : (reserve x.payment r f).toPlant.passage? m = f.toPlant.passage? m := by
    unfold Plant.passage?
    rw [toPlant_reserve]
  refine ⟨?_, ⟨{ x with committed := some (.fee, q.1), basis := some q.2 }, ?_, rfl, rfl, rfl⟩, fun m hm => ?_⟩
  · unfold OnlyBooked
    rw [toPlant_raise, toPlant_setPassage, toPlant_reserve]
  · rw [toPlant_raise]
    exact passage?_setPassage_same (fn := fun p => { p with committed := some (.fee, q.1), basis := some q.2 })
      (fun _ => by rfl) ((same n _).trans h)
  · rw [toPlant_raise, passage?_setPassage_other (fn := fun p => { p with committed := some (.fee, q.1), basis := some q.2 })
      (fun _ => by rfl) _ hm]
    exact same m _

theorem confirmMember_missing {v : Base} {k n : Nat} {f : Flow} (h : f.toPlant.passage? n = none) :
    confirmMember v k n f = f := by
  unfold confirmMember
  simp only [h]

theorem confirmMember_found {v : Base} {k n : Nat} {f : Flow} {x : Passage} (h : f.toPlant.passage? n = some x) :
    confirmMember v k n f = if x.berthedAt.isNone
      then fixFee v n (changePassage v n .movement (Passage.confirmed v k) f)
      else changePassage v n .movement (Passage.confirmed v k) f := by
  unfold confirmMember
  simp only [h]
  rfl

/-- One member confirmed. -/
theorem confirmMember_leaves (v : Base) (k n : Nat) (f : Flow) :
    OnlyBooked f (confirmMember v k n f)
    ∧ (∀ x, f.toPlant.passage? n = some x → ∃ z, (confirmMember v k n f).toPlant.passage? n = some z ∧ Confirms v k x z)
    ∧ ∀ m, m ≠ n → (confirmMember v k n f).toPlant.passage? m = f.toPlant.passage? m := by
  cases h : f.toPlant.passage? n with
  | none =>
    rw [confirmMember_missing h]
    exact ⟨rfl, fun _ hx => absurd hx (Option.some_ne_none _).symm, fun _ _ => rfl⟩
  | some x =>
    rw [confirmMember_found h]
    generalize eg : changePassage v n .movement (Passage.confirmed v k) f = g
    have plant : g.toPlant = (setPassage n (Passage.confirmed v k) f).toPlant := by
      rw [← eg]
      exact (toPlant_changePassage (fn := Passage.confirmed v k) (fun _ => rfl) h).1
    have only : OnlyBooked f g := by
      rw [← eg]
      exact onlyBooked_changePassage (fn := Passage.confirmed v k) (fun _ => rfl) h
    have found : g.toPlant.passage? n = some (x.confirmed v k) := by
      rw [plant]
      exact passage?_setPassage_same (fn := Passage.confirmed v k) (fun _ => rfl) h
    have other (m : Nat) (hm : m ≠ n) : g.toPlant.passage? m = f.toPlant.passage? m := by
      rw [plant]
      exact passage?_setPassage_other (fn := Passage.confirmed v k) (fun _ => rfl) f hm
    by_cases first : x.berthedAt.isNone = true
    · rw [if_pos first]
      obtain ⟨booked, ⟨z, hz, st, chamber, berthedAt⟩, still⟩ := fixFee_leaves (v := v) found
      refine ⟨only.trans booked, fun y hy => ⟨z, hz, ?_⟩, fun m hm => (still m hm).trans (other m hm)⟩
      obtain rfl := Option.some.inj hy
      refine ⟨st, chamber, berthedAt, fun c => ?_⟩
      rw [Option.isNone_iff_eq_none.mp first] at c
      exact absurd c nofun
    · rw [if_neg first]
      refine ⟨only, fun y hy => ⟨_, found, ?_⟩, other⟩
      obtain rfl := Option.some.inj hy
      exact ⟨rfl, rfl, rfl, fun _ => rfl⟩

/-- All members confirmed. -/
theorem confirmMembers_leaves (v : Base) (k : Nat) (ns : List Nat) (f : Flow) :
    OnlyBooked f (overAll ns (confirmMember v k) f)
    ∧ (∀ n ∈ ns, ∀ x, f.toPlant.passage? n = some x →
      ∃ z, (overAll ns (confirmMember v k) f).toPlant.passage? n = some z ∧ Confirms v k x z)
    ∧ ∀ m, m ∉ ns → (overAll ns (confirmMember v k) f).toPlant.passage? m = f.toPlant.passage? m := by
  induction ns generalizing f with
  | nil => exact ⟨rfl, nofun, fun _ _ => rfl⟩
  | cons n ns ih =>
    obtain ⟨only, found, other⟩ := confirmMember_leaves v k n f
    obtain ⟨onlyRest, foundRest, otherRest⟩ := ih (confirmMember v k n f)
    rw [overAll_cons]
    refine ⟨only.trans onlyRest, fun m hm x hx => ?_, fun m hm => ?_⟩
    · by_cases e : m = n
      · subst e
        obtain ⟨y, hy, first⟩ := found x hx
        by_cases later : m ∈ ns
        · obtain ⟨z, hz, second⟩ := foundRest m later y hy
          exact ⟨z, hz, first.trans second⟩
        · exact ⟨y, (otherRest m later).trans hy, first⟩
      · exact foundRest m ((List.mem_cons.mp hm).resolve_left e) x ((other m e).trans hx)
    · rw [List.mem_cons, not_or] at hm
      exact (otherRest m hm.2).trans (other m hm.1)

end Sys2Proof.Machine
end

section
/-! A batch confirmed, and the requests and timers of a batch held (07/R126, R129, R131, R138). -/

namespace Sys2Proof.Machine

/-! ## Placing (07/R138) -/

/-- A batch confirmed in a chamber. -/
def Batch.placed (k : Nat) (b : Batch) : Batch := { b with chamber := some k, target := none }

/-- A batch that enters a step. -/
def Batch.entered (v : Base) (st : Step) (b : Batch) : Batch :=
  { b with step := st, heldStep := none, causes := HeldCauses.none, stepStart := v.elapsed }

theorem placeBatch_leaves {k : Nat} {f : Flow} {b : Batch} (h : f.toPlant.batch? b.id = some b) :
    (placeBatch b.id k f).toPlant = { f.toPlant with batches := (placeBatch b.id k f).batches }
    ∧ (placeBatch b.id k f).toPlant.batch? b.id = some (b.placed k) := by
  refine ⟨rfl, ?_⟩
  let fn (x : Batch) : Batch := if x.id = b.id then x.placed k
    else if x.step = .unresolved then
      { x with chamber := if x.chamber = some k then none else x.chamber,
               target := if x.target = some k then none else x.target }
    else x
  have same (x : Batch) : (fn x).id = x.id := by
    dsimp only [fn]
    (repeat' split) <;> rfl
  rw [batch?_map (p := f.toPlant) (fn := fn) same rfl, h, Option.map_some]
  exact congrArg some (if_pos rfl)

section Confirm

variable {v : Base} {b : Batch} {k : Nat} {f : Flow}

/-- The members confirmed and the water told, before the step is entered. -/
def confirmedMembers (v : Base) (b : Batch) (k : Nat) (f : Flow) : Flow :=
  overAll (b.members.map (·.number)) (confirmMember v k) (tellOccupied v (placeBatch b.id k) f)

theorem confirmedMembers_plant : (confirmedMembers v b k f).toPlant = { f.toPlant with
    batches := (placeBatch b.id k f).batches, sluices := (confirmedMembers v b k f).sluices,
    channels := (confirmedMembers v b k f).channels, passages := (confirmedMembers v b k f).passages,
    accounts := (confirmedMembers v b k f).accounts } := by
  have told := (reduced_tellOccupied v (placeBatch b.id k) f).plant
  have booked : OnlyBooked _ (confirmedMembers v b k f) :=
    (confirmMembers_leaves v k (b.members.map (·.number)) (tellOccupied v (placeBatch b.id k) f)).1
  have plant : (confirmedMembers v b k f).toPlant = _ := booked
  have sluices := congrArg Plant.sluices plant
  have channels := congrArg Plant.channels plant
  rw [plant, told]
  rfl

theorem passage?_confirmedMembers {m : Member} (hm : m ∈ b.members) {x : Passage}
    (hx : f.toPlant.passage? m.number = some x) :
    ∃ z, (confirmedMembers v b k f).toPlant.passage? m.number = some z ∧ Confirms v k x z := by
  have told := (reduced_tellOccupied v (placeBatch b.id k) f).plant
  have same : (tellOccupied v (placeBatch b.id k) f).toPlant.passage? m.number = some x := by
    unfold Plant.passage?
    rw [told]
    exact hx
  exact (confirmMembers_leaves v k _ _).2.1 m.number (List.mem_map_of_mem hm) x same

theorem confirmedMembers_still {g : Fin 4} (c : (f.sluices.nth g).cmd ≠ 4) :
    (confirmedMembers v b k f).sluices.nth g = f.sluices.nth g
    ∧ (confirmedMembers v b k f).channels.nth g = f.channels.nth g := by
  have booked : OnlyBooked _ (confirmedMembers v b k f) :=
    (confirmMembers_leaves v k (b.members.map (·.number)) (tellOccupied v (placeBatch b.id k) f)).1
  rw [show (confirmedMembers v b k f).toPlant = _ from booked]
  exact (reduced_tellOccupied v (placeBatch b.id k) f).still g c

variable (h : f.toPlant.batch? b.id = some b)

include h

/-- A batch confirmed in a chamber that no other names. -/
theorem confirmBatch_leaves :
    let g := confirmBatch v b k f
    let y := (b.placed k).entered v (confirmedStep f.toPlant b.dir k)
    OnlyPlaced f.toPlant g.toPlant ∧ g.toPlant.batch? b.id = some y
    ∧ (∃ before, g.out = before ++ [batchNow v g.toPlant y])
    ∧ ∀ m ∈ b.members, ∀ x, f.toPlant.passage? m.number = some x →
        ∃ z, g.toPlant.passage? m.number = some z ∧ Confirms v k x z := by
  intro g y
  have plant := confirmedMembers_plant (v := v) (b := b) (k := k) (f := f)
  have step : confirmedStep (confirmedMembers v b k f).toPlant b.dir k = confirmedStep f.toPlant b.dir k := by
    unfold confirmedStep
    rw [plant]
  have e : g = stepReport v b.id (setBatch b.id (Batch.entered v (confirmedStep f.toPlant b.dir k)) (confirmedMembers v b k f)) := by
    rw [← step]
    rfl
  have gplant : g.toPlant
      = (setBatch b.id (Batch.entered v (confirmedStep f.toPlant b.dir k)) (confirmedMembers v b k f)).toPlant := by
    rw [e, toPlant_stepReport]
  have placed : (confirmedMembers v b k f).toPlant.batch? b.id = some (b.placed k) := by
    unfold Plant.batch?
    rw [plant]
    exact (placeBatch_leaves h).2
  have found := batch?_setBatch_same (fn := Batch.entered v (confirmedStep f.toPlant b.dir k)) (fun _ => rfl) placed
  refine ⟨⟨?_, fun i c => ?_⟩, ?_, ⟨(confirmedMembers v b k f).out, ?_⟩, fun m hm x hx => ?_⟩
  · rw [gplant, toPlant_setBatch, plant]
  · rw [gplant, toPlant_setBatch]
    exact confirmedMembers_still c
  · rw [gplant]
    exact found
  · rw [gplant, e, out_stepReport found, out_setBatch]
  · rw [gplant]
    exact passage?_confirmedMembers hm hx

end Confirm

/-- Settles O51: the two timers of a shift; the waiver; the confirmation. -/
theorem overdueWaivedAndConfirmedBatches : Obligations.OverdueWaivedAndConfirmedBatches := by
  refine ⟨fun id b s hp hb => ?timers, fun rq id b s adm hb => ?waved, fun rq id k s adm => ?confirm⟩
  case timers =>
    intro late overdue due
    refine ⟨fun d => ?still, fun d => ?held, fun k hk ran => ?again⟩
    case still =>
      show execShiftBerthExpiry id s = _
      unfold execShiftBerthExpiry
      simp only [hp, hb]
      refine congrArg _ (if_neg fun c => d ?_)
      obtain ⟨ran, shifting⟩ := (Bool.and_eq_true _ _).mp c
      obtain ⟨st, frozen, mode, berth⟩ := berthDue_iff.mp ran
      exact ⟨st, frozen, mode, berth, lateShift_ne_nil.mp shifting⟩
    case held =>
      obtain ⟨st, frozen, mode, berth, some_late⟩ := d
      have y : b.heldFor s.base .overdue = { b with
          step := .held, heldStep := some .shifting, stepStart := s.base.elapsed,
          causes := { b.causes with overdue := true } } := by
        rw [Batch.heldFor, st]
        rfl
      obtain ⟨batch, out, heads, passages, accounts, gates⟩ :=
        holdOverdue_leaves (v := s.base) (f := s.flow) hb (by rw [st]; nofun)
      rw [y] at batch out
      refine ⟨holdOverdue s.base b s.flow, ?_, batch, ⟨_, out, rfl⟩, heads, passages, accounts, gates⟩
      show execShiftBerthExpiry id s = _
      unfold execShiftBerthExpiry
      simp only [hp, hb]
      rw [if_pos ((Bool.and_eq_true _ _).mpr ⟨berthDue_iff.mpr ⟨st, frozen, mode, berth⟩, lateShift_ne_nil.mpr some_late⟩)]
    case again =>
      let f := setBatch id (fun x => { x with overdue := some s.base.elapsed }) s.flow
      refine ⟨overdueReport s.base b f, ?_, rfl, ?_, ?_⟩
      · show execOverdueRepeat id s = _
        unfold execOverdueRepeat
        simp only [hp, hb]
        rw [if_pos (by rw [hk]; exact ranFor_iff.mpr ran)]
      · exact batch?_setBatch_same (f := s.flow) (fn := fun x => { x with overdue := some s.base.elapsed }) (fun _ => by rfl) hb
      · have out := out_overdueReport s.base b (p := s.plant) (f := f) rfl
        rw [id_of_batch? hb] at out
        exact out
  case waved =>
    obtain rfl := id_of_batch? hb
    refine ⟨fun h head st green holder gn => ?taken, fun n => ?refused⟩
    case taken =>
      obtain ⟨k, taken, only, waved, shown, batch, out⟩ := waiveBatch_leaves (v := s.base) (f := s.flow) hb head holder gn
      refine ⟨k, congrArg _ (serve_accept adm ?_), only, waved, shown, batch, out⟩
      simp only [hb]
      rw [if_pos ⟨st, green⟩]
      simp only [taken]
    case refused =>
      refine congrArg _ (serve_refuse adm ?_)
      simp only [hb]
      exact if_neg fun c => n.elim (fun k => k c.1) fun k => absurd c.2 (by rw [k]; nofun)
  case confirm =>
    refine ⟨fun c => ?field, fun lo hi hb => ?missing, fun b lo hi hb => ?found⟩
    case field => exact congrArg _ (serve_refuse adm (if_pos c))
    case missing =>
      refine congrArg _ (serve_refuse adm ?_)
      rw [if_neg (by omega)]
      simp only [hb]
      rfl
    case found =>
      intro barred
      have isBarred : (b.step ≠ .unresolved ∨ s.plant.batches.any (fun x => x.step != .unresolved && x.names k) = true)
          ↔ barred := by
        simp [barred]
      refine ⟨fun c => ?barred, fun c => ?confirmed⟩
      case barred =>
        refine congrArg _ (serve_refuse adm ?_)
        rw [if_neg (by omega)]
        simp only [hb]
        exact if_pos (isBarred.mpr c)
      case confirmed =>
        obtain rfl := id_of_batch? hb
        obtain ⟨only, found, last, members⟩ := confirmBatch_leaves (v := s.base) (f := s.flow) (k := k) hb
        refine ⟨confirmBatch s.base b k s.flow, (b.placed k).entered s.base (confirmedStep s.plant b.dir k), ?_, only,
          found, rfl, rfl, rfl, rfl, rfl, last, ?_, ?_, fun m hm x hx => ?_⟩
        · refine congrArg _ (serve_accept adm ?_)
          rw [if_neg (by omega)]
          simp only [hb]
          exact if_neg fun d => c (isBarred.mp d)
        · show confirmedStep s.plant b.dir k = .leaving ↔ _
          unfold confirmedStep
          split <;> simp [*]
        · show confirmedStep s.plant b.dir k ≠ .leaving → confirmedStep s.plant b.dir k = .waitingAhead
          unfold confirmedStep
          split <;> simp
        · obtain ⟨z, hz, c⟩ := members m hm x hx
          exact ⟨z, hz, c.st, c.chamber, c.berthedAt, c.committed⟩

end Sys2Proof.Machine
end

section
/-! The Scheduler's timers and the water-saving flag (06/R105, R108, R110 to R115). -/

namespace Sys2Proof.Machine

/-! ## A levelling asked (03/R46) -/

section Asked

variable (v : Base) (g : Fin 4) (p : Purpose) (f : Flow)

/-- A request taken: the channel is the requester's. -/
theorem requestLevelling_taken {v : Base} {g : Fin 4} {p : Purpose} {f : Flow} (h : (requestLevelling v g p f).1 = .taken) :
    ((requestLevelling v g p f).2.channels.nth g).req = some p
    ∧ ((requestLevelling v g p f).2.channels.nth g).st ≠ .idle := by
  unfold requestLevelling at h ⊢
  dsimp only at h ⊢
  split at h
  · cases h
  split at h
  · cases h
  rw [if_neg ‹_›, if_neg ‹_›]
  split at h
  · next st =>
    split at h
    · next req =>
      rw [if_pos st, if_pos req]
      exact ⟨req, st⟩
    · cases h
  · next st =>
    split at h
    · cases h
    rw [if_neg st, if_neg ‹_›]
    have started {sts : List ChanSt} (s : Started p sts g (f.sluices.nth g) (startChecks v g p f)) (hi : ChanSt.idle ∉ sts)
        (hf : ChanSt.failed ∉ sts) : ((failRefused v g (startChecks v g p f)).channels.nth g).req = some p
          ∧ ((failRefused v g (startChecks v g p f)).channels.nth g).st ≠ .idle := by
      obtain ⟨sound, failed⟩ := started_failRefused (v := v) s hi hf
      by_cases fault : (f.sluices.nth g).st = .fault
      · obtain ⟨st, -, req⟩ := failed fault
        exact ⟨req, by rw [st]; nofun⟩
      · rw [sound fault]
        exact ⟨s.req, fun c => hi (c ▸ s.st)⟩
    obtain ⟨got, queued⟩ := started_startChecks v g p f
    cases grant : (requestGrant g f).1 with
    | true => exact started (got grant) (by decide) (by decide)
    | false => exact started (queued grant) (by decide) (by decide)

theorem watery_requestLevelling : Watery f (requestLevelling v g p f).2 :=
  (watery_rules f).requestLevelling (Watery.refl f) v (g := g) trivial p

end Asked

/-! ## The TURN levelling asked again (06/R110) -/

/-- The TURN levelling asked of a channel short of LEVEL. -/
theorem askTurn_asks {v : Base} {f : Flow} (h : (f.channels.nth f.sched.dir.entryGate).st ≠ .level) :
    ∃ taken why, askTurn v f = setSched (fun s =>
        { s with prep := .asked f.sched.dir.entryGate true taken, refusal := why })
          (requestLevelling v f.sched.dir.entryGate .turn f).2
      ∧ (taken = true → (requestLevelling v f.sched.dir.entryGate .turn f).1 = .taken) := by
  unfold askTurn
  dsimp only
  rw [if_neg h]
  rcases requestLevelling v f.sched.dir.entryGate .turn f with ⟨why | _, k⟩
  · exact ⟨false, some why, rfl, nofun⟩
  · exact ⟨true, none, rfl, fun _ => rfl⟩

/-! ## The permit decided again (06/R114, R115) -/

section Redecide

variable {v : Base} {f : Flow} {r : PermitRequest} (h : f.sched.permit = some r)

include h

theorem redecidePermit_given (d : permitDeferral v f.sched = none) : redecidePermit v f =
    check5 v 3 (setChannel 3 (fun c => { c with permit := .given }) (giveDraw v r.purpose f)) := by
  unfold redecidePermit
  simp only [h, d]

theorem redecidePermit_deferred {d : Deferral} (hd : permitDeferral v f.sched = some d) : redecidePermit v f =
    if d = r.cause then f else deferReport v d (setSched (fun s => { s with permit := some { r with cause := d } }) f) := by
  unfold redecidePermit
  simp only [h, hd]

/-- A permit given: the draw recorded, the levelling of gate 3 begun. -/
theorem redecidePermit_draws (d : permitDeferral v f.sched = none) :
    let k := redecidePermit v f
    k.sched.permit = none ∧ k.sched.draws = addDraw ⟨v.elapsed, r.purpose⟩ f.sched.draws
    ∧ (k.channels.nth 3).permit = .given
    ∧ ((k.channels.nth 3).st = .running ∨ (k.channels.nth 3).st = .suspended)
    ∧ f.out ++ [reportNow v .water 0x4D (u1 r.purpose.code ++ u1 (countingDraws v k.sched.draws).length)] <+: k.out := by
  intro k
  let drawn := setChannel 3 (fun c => { c with permit := .given }) (giveDraw v r.purpose f)
  have e : k = check5 v 3 drawn := redecidePermit_given h d
  have begun : ∃ c y rs, ChannelBecomes 3 drawn k c y rs ∧ c.permit = .given ∧ (c.st = .running ∨ c.st = .suspended) := by
    have still := channelBecomes_refl 3 drawn
    have given : (drawn.channels.nth 3).permit = .given := by
      rw [toPlant_setChannel, Tbl.nth_upd_same]
    rw [e]
    by_cases usable : levelsUsable v 3 (drawn.channels.nth 3).req = true
    · obtain ⟨z, qs, -, b⟩ := still.begins v usable
      exact ⟨_, _, _, b, given, .inl rfl⟩
    · obtain ⟨z, qs, -, b⟩ := still.begins_suspended v usable
      exact ⟨_, _, _, b, given, .inr rfl⟩
  obtain ⟨c, y, rs, b, given, st⟩ := begun
  have sched : k.sched = { f.sched with permit := none, draws := addDraw ⟨v.elapsed, r.purpose⟩ f.sched.draws } := b.sched
  refine ⟨by rw [sched], by rw [sched], by rw [b.channel]; exact given, by rw [b.channel]; exact st, rs, ?_⟩
  rw [b.out, sched]
  rfl

end Redecide

/-- The report of a deferral. -/
theorem out_deferReport_low (v : Base) (f : Flow) :
    (deferReport v .upstreamLow f).out = f.out ++ [reportNow v .water 0x4E (u1 Deferral.upstreamLow.code)] := by
  unfold deferReport
  rw [out_raise]
  rfl

theorem out_deferReport_window {v : Base} {f : Flow} {e : Draw} {rest : List Draw}
    (h : countingDraws v f.sched.draws = e :: rest) : (deferReport v .window f).out = f.out ++ [reportNow v .water 0x4E
      (u1 Deferral.window.code ++ u4 (secondsLeft v.elapsed (e.start + 10 * v.settings.drawWindow)))] := by
  unfold deferReport
  rw [out_raise, h]
  rfl

/-- Settles O49: the idle hold; the preparation's retry; a draw that leaves the window; the deferrals; old draws; REGIME. -/
theorem schedulerTimersAndRegimeOrder : Obligations.SchedulerTimersAndRegimeOrder := by
  refine ⟨fun k s hp run => ?idle, fun g isTurn k s hp failed => ?retry, fun r s hp asked none => ?given, fun s hp => ?window,
    fun v x => ?deferral, fun s hp => ?entry, fun rq x s adm => ?regime⟩
  case idle =>
    refine ⟨fun due => ⟨askOpportunity (setSched (fun x => { x with idle := .expired }) s.flow), ?_, rfl, rfl, rfl⟩,
      fun early => ?_⟩
    · show execIdleHoldExpiry s = _
      unfold execIdleHoldExpiry
      simp only [hp, run]
      rw [if_pos due]
    · show execIdleHoldExpiry s = _
      unfold execIdleHoldExpiry
      simp only [hp, run]
      rw [if_neg (by omega)]
  case retry =>
    have waits : retryWaits s.base s.plant = decide (s.base.elapsed < k + 1200) := by
      unfold retryWaits
      rw [failed]
      rfl
    have acts : exec .preparationRetryExpiry s = .next (if s.base.elapsed < k + 1200 then s
        else if isTurn then s.conclude (if s.plant.sched.st = .turning then askTurn s.base s.flow else s.flow)
        else s.conclude (askOpportunity s.flow)) := by
      show execPreparationRetryExpiry s = _
      unfold execPreparationRetryExpiry
      simp only [hp, failed, waits, decide_eq_true_eq]
    rw [acts]
    refine ⟨fun early => by rw [if_pos early], fun due entry => ⟨askOpportunity s.flow, ?_, rfl, rfl⟩, fun due turn st c => ?turn⟩
    · rw [if_neg (by omega), entry]
      rfl
    case turn =>
      obtain ⟨taken, why, e, -⟩ := askTurn_asks (v := s.base) (f := s.flow) c
      refine ⟨askTurn s.base s.flow, taken, ?_, ?_, ?_⟩
      · rw [if_neg (by omega), turn, if_pos rfl, if_pos st]
      · rw [e]
        exact (watery_requestLevelling s.base _ .turn s.flow).water
      · rw [e]
        rfl
  case given =>
    obtain ⟨permit, draws, given, st, out⟩ := redecidePermit_draws (v := s.base) (f := s.flow) asked none
    refine ⟨redecidePermit s.base s.flow, ?_, ((watery_rules s.flow).redecidePermit (Watery.refl s.flow) s.base trivial).water,
      permit, draws, given, st, head?_of_prefix out⟩
    exact congrArg _ (if_pos hp)
  case window =>
    refine ⟨redecidePermit s.base s.flow, congrArg _ (if_pos hp), fun none => ?_, fun r d asked hd => ?_⟩
    · rw [redecidePermit_none (f := s.flow) none]
      exact ⟨rfl, rfl⟩
    · rw [redecidePermit_deferred (f := s.flow) asked hd]
      by_cases same : d = r.cause
      · rw [if_pos same]
        subst same
        refine ⟨?_, fun _ => rfl, fun c => absurd rfl c, fun _ _ c => absurd rfl c⟩
        show s.plant = { s.plant with sched := { s.plant.sched with permit := some r } }
        rw [← asked]
      · rw [if_neg same]
        refine ⟨rfl, fun c => absurd c same, fun _ low => ?_, fun e rest _ window counting => ?_⟩
        · rw [low, out_deferReport_low]
          rfl
        · rw [window, out_deferReport_window (e := e) (rest := rest) counting]
          rfl
  case deferral =>
    refine ⟨fun low => if_pos low, fun high => ?_⟩
    unfold permitDeferral
    rw [if_neg (by rw [high]; decide)]
    rfl
  case entry => exact ⟨_, congrArg _ (if_pos hp), rfl⟩
  case regime =>
    refine ⟨fun bad => congrArg _ (serve_refuse adm (if_pos bad)), fun ok => ?_⟩
    have run : exec (.regime rq x) s =
        .next ((s.conclude (setSaving s.base (decide (x = 1)) s.flow)).ok rq 0x39 (u1 x)) :=
      congrArg _ (serve_accept adm (if_neg (not_lt.mpr ok)))
    generalize decide (x = 1) = saving at run ⊢
    refine ⟨setSaving s.base saving s.flow, run, ?_⟩
    by_cases same : s.plant.sched.saving = saving
    · have e : setSaving s.base saving s.flow = s.flow := if_pos same
      rw [e]
      exact ⟨(Watery.refl s.flow).water, same, rfl, rfl, fun _ => ⟨rfl, rfl⟩, fun c => absurd same c⟩
    · let told := raise s.base .water 0x4C (b1 saving) (setSched (fun s => { s with saving := saving }) s.flow)
      have e : setSaving s.base saving s.flow = redecidePermit s.base told := if_neg same
      have watery := (watery_rules told).redecidePermit (Watery.refl told) s.base trivial
      rw [e]
      have sched := watery.sched
      refine ⟨watery.water, by rw [sched]; rfl, by rw [sched]; rfl, by rw [sched]; rfl, fun c => absurd c same,
        fun _ => head?_of_prefix watery.out⟩

end Sys2Proof.Machine
end

section
/-! What the Scheduler reads and what one passage's check does (05/R87 to R89; 06/R100 to R104, R106). -/

namespace Sys2Proof.Machine

/-! ## Whether an opportunity is open (06/R100, R101, R105) -/

theorem works_iff {p : Plant} : p.works = true ↔ p.regime.condition = .running ∧ p.regime.mode = .auto := by
  rw [Plant.works, Bool.and_eq_true, beq_iff_eq, beq_iff_eq]

theorem logRoom_iff {v : Base} {p : Plant} {n : Nat} :
    logRoom v p n = true ↔ v.books.log.length + p.memberCount + n ≤ 256 := decide_eq_true_iff

theorem retryWaits_false {v : Base} {p : Plant} : retryWaits v p = false ↔
    ∀ g isTurn t, p.sched.prep = .failed g isTurn t → t + 1200 ≤ v.elapsed := by
  unfold retryWaits
  cases p.sched.prep with
  | failed g isTurn t =>
    rw [decide_eq_false_iff_not, not_lt]
    refine ⟨fun h => ?_, fun h => h g isTurn t rfl⟩
    rintro _ _ _ ⟨⟩
    exact h
  | absent => simp
  | asked g isTurn b => simp

theorem opportunityOpen_iff {v : Base} {p : Plant} :
    let c := p.channels.nth p.sched.dir.entryGate
    opportunityOpen v p = true ↔ p.regime.condition = .running ∧ p.regime.mode = .auto
      ∧ (p.sched.st = .serving ∨ p.sched.st = .idleHold) ∧ p.occupants p.sched.dir.entryChamber = []
      ∧ ¬ ((c.req = some .entry ∨ c.req = some .turn) ∧ c.st ≠ .level)
      ∧ ∀ g isTurn t, p.sched.prep = .failed g isTurn t → t + 1200 ≤ v.elapsed := by
  intro c
  unfold opportunityOpen
  simp only [Bool.and_eq_true, works_iff, Bool.or_eq_true, beq_iff_eq, List.isEmpty_iff, Bool.not_eq_true',
    Bool.and_eq_false_iff, retryWaits_false, and_assoc]
  simp only [Bool.or_eq_false_iff, beq_eq_false_iff_ne, bne_eq_false_iff_eq, not_and_or, not_or, not_not]
  rfl

/-! ## Depth and account (05/R87, R88) -/

theorem depthAvailable_read {v : Base} {a b : Int} (ha : (v.scanner.bodies.nth 0).level = some a)
    (hb : (v.scanner.bodies.nth 4).level = some b) : depthAvailable v =
      if (v.scanner.bodies.nth 0).status.usable = true ∧ (v.scanner.bodies.nth 4).status.usable = true then
        some (min (a - v.settings.sill0) (min (b - v.settings.sill3) v.settings.minInnerDepth))
      else none := by
  unfold depthAvailable
  simp only [ha, hb]
  cases (v.scanner.bodies.nth 0).status.usable <;> cases (v.scanner.bodies.nth 4).status.usable <;> rfl

theorem depthPasses_iff {v : Base} {x : Passage} : depthPasses v x = true ↔
    ∃ d, depthAvailable v = some d ∧ (x.draught : Int) + v.settings.keelMargin ≤ d := by
  unfold depthPasses
  cases depthAvailable v <;> simp

theorem accountPasses_iff {v : Base} {p : Plant} {x : Passage} : accountPasses v p x = true ↔
    ∀ id, x.payment = some id → ∃ a, p.account? id = some a ∧ a.blocked = false
      ∧ -a.limit ≤ a.balance - a.reserved - (quote v p x).1 := by
  unfold accountPasses
  cases x.payment with
  | none => simp
  | some id => cases h : p.account? id <;> simp [h]

theorem checkedState_cases (v : Base) (p : Plant) (x : Passage) :
    (depthPasses v x = false → checkedState v p x = .heldDepth)
    ∧ (depthPasses v x = true → accountPasses v p x = false → checkedState v p x = .heldAccount)
    ∧ (depthPasses v x = true → accountPasses v p x = true → checkedState v p x = .waiting) := by
  unfold checkedState
  refine ⟨fun h => by rw [h]; rfl, fun h k => by rw [h, k]; rfl, fun h k => by rw [h, k]; rfl⟩

/-- The check of a passage that does not wait. -/
theorem checkPassage_idle {v : Base} {n : Nat} {x : Passage} {f : Flow} (h : f.toPlant.passage? n = some x)
    (w : x.st.waits = false) : checkPassage v n f = f := by
  unfold checkPassage
  simp only [h]
  exact if_pos (.inl w)

/-- The check of a waiting passage gives it the state checked, with PASSAGE_STATE where that is another one. -/
theorem checkPassage_leaves {v : Base} {n : Nat} {x : Passage} {f : Flow} (h : f.toPlant.passage? n = some x)
    (w : x.st.waits = true) :
    let k := checkPassage v n f
    let st := checkedState v f.toPlant x
    k.toPlant.passage? n = some { x with st := st } ∧ (∀ m, m ≠ n → k.toPlant.passage? m = f.toPlant.passage? m)
    ∧ k.toPlant = { f.toPlant with passages := k.passages }
    ∧ k.out = f.out ++ if st = x.st then [] else [passageNow v x 0x20 (u1 x.st.code ++ u1 st.code
      ++ u1 (queuePosition f.passages n) ++ opt1 x.batch ++ opt1 x.chamber ++ u1 (checkedCause st).code)] := by
  intro k st
  have e : k = if st = x.st then f else changePassage v n (checkedCause st) (fun p => { p with st := st }) f := by
    show checkPassage v n f = _
    unfold checkPassage
    simp only [h, w, reduceCtorEq, false_or]
    rfl
  rw [e]
  by_cases same : st = x.st
  · rw [if_pos same, if_pos same, same]
    exact ⟨h, fun _ _ => rfl, rfl, (List.append_nil _).symm⟩
  · rw [if_neg same, if_neg same]
    obtain ⟨plant, -, out⟩ := toPlant_changePassage (v := v) (c := checkedCause st)
      (fn := fun p => { p with st := st }) (fun _ => by rfl) h
    rw [plant]
    exact ⟨passage?_setPassage_same (fn := fun p => { p with st := st }) (fun _ => by rfl) h,
      fun m hm => passage?_setPassage_other (fn := fun p => { p with st := st }) (fun _ => by rfl) f hm, rfl, out⟩

/-! ## The oldest passage (06/R102) -/

theorem oldestOf_priority {a b : List Passage} {x : Passage} (ha : ∀ y ∈ a, y.priority = false) (hx : x.priority = true) :
    oldestOf (a ++ x :: b) = some x := by
  have before : a.find? (·.priority) = none := List.find?_eq_none.mpr fun y hy => by simp [ha y hy]
  have found : (a ++ x :: b).find? (·.priority) = some x := by
    rw [List.find?_append, before, List.find?_cons_of_pos hx, Option.none_or]
  unfold oldestOf
  rw [found]

theorem oldestOf_first {ps : List Passage} (h : ∀ y ∈ ps, y.priority = false) : oldestOf ps = ps.head? := by
  have none : ps.find? (·.priority) = none := List.find?_eq_none.mpr fun y hy => by simp [h y hy]
  unfold oldestOf
  rw [none]

theorem oldestOf_none {ps : List Passage} : oldestOf ps = none ↔ ps = [] := by
  unfold oldestOf
  cases h : ps.find? (·.priority) with
  | none => exact List.head?_eq_none_iff
  | some x =>
    have mem := List.mem_of_find?_eq_some h
    simp only [reduceCtorEq, false_iff]
    rintro rfl
    cases mem

/-- One of the present direction among the eligible. -/
theorem anyMine_iff {ps : List Passage} {d : Dir} : (ps.any fun p => p.dir == d) = true ↔ ∃ p ∈ ps, p.dir = d := by
  simp

/-! ## The decisions (06/R103, R108) -/

section Decide

variable {v : Base} {ps : List Passage} {f : Flow}

theorem decideServing_none (h : ps = []) : decideServing v ps f =
    if f.batches = [] then followIdle v (schedTo v .idleHold .noEligible f) else f := by
  unfold decideServing
  rw [oldestOf_none.mpr h]
  simp only [Plant.flightEmpty, List.isEmpty_iff]

theorem decideServing_some {o : Passage} (h : oldestOf ps = some o) : decideServing v ps f =
    if o.dir = f.sched.dir then prepareEntry v ps none f
    else if o.priority = true then drain v .priority f
    else if v.settings.bypassLimit ≤ o.bypass then drain v .bypassLimit f
    else if ∃ p ∈ ps, p.dir = f.sched.dir then prepareEntry v ps (some o) f
    else drain v .otherWay f := by
  unfold decideServing
  rw [h]
  simp only [anyMine_iff]

theorem decideIdle_eq : decideIdle v ps f =
    if ∃ p ∈ ps, p.dir = f.sched.dir then prepareEntry v ps none (schedTo v .serving .unnamed f)
    else if f.sched.idle = .expired ∧ (ps ≠ [] ∨ f.sched.dir ≠ v.settings.restDir) then drain v .holdExpired f
    else f := by
  unfold decideIdle
  simp only [anyMine_iff, Bool.and_eq_true, Bool.or_eq_true, beq_iff_eq, bne_iff_ne, Bool.not_eq_true', List.isEmpty_eq_false_iff,
    ne_eq]

end Decide

/-! ## Log room (06/R101) -/

theorem followLogRoom_still {v : Base} {f : Flow} (h : f.sched.short = false ∨ logRoom v f.toPlant 1 = false) :
    followLogRoom v f = f := by
  unfold followLogRoom
  refine if_neg fun c => ?_
  rw [c.1, c.2] at h
  simp at h

/-! ## Packing (06/R104, R106) -/

theorem with_eq (m : Packing) (n : Nat) : m.with_ n = if m.members = [] then n else m.length + 20 + n := by
  unfold Packing.with_
  simp only [List.isEmpty_iff]
  rfl

section Pack

variable {v : Base} {x : Passage} {m : Packing} {f : Flow}

/-- What keeps a candidate out of a packing, its account apart. -/
def packStops (v : Base) (p : Plant) (x : Passage) (m : Packing) : Prop :=
  4 ≤ m.members.length ∨ v.settings.flightLength < m.with_ x.length ∨ logRoom v p (m.members.length + 1) = false

theorem packOne_stops (h : packStops v f.toPlant x m) : packOne v x (m, f) = (m, f) := by
  unfold packOne
  dsimp only
  split
  · rfl
  split
  · rfl
  split
  · rfl
  · exact absurd h (by unfold packStops; simp only [not_or]; exact ⟨‹_›, ‹_›, ‹_›⟩)

theorem packOne_goes (h : ¬ packStops v f.toPlant x m) : packOne v x (m, f) =
    if accountPasses v f.toPlant x = false then
      (m, changePassage v x.number .account (fun p => { p with st := .heldAccount }) f)
    else (⟨m.members ++ [(x.number, (quote v f.toPlant x).1)], m.with_ x.length⟩,
      reserve x.payment (quote v f.toPlant x).1 f) := by
  unfold packStops at h
  simp only [not_or] at h
  obtain ⟨few, fits, room⟩ := h
  unfold packOne
  exact (if_neg few).trans ((if_neg fits).trans (if_neg room))

theorem countBypass_some : (countBypass v (some x) f).out
      = f.out ++ [passageNow v x 0x23 (u1 (x.bypass + 1) ++ u1 v.settings.bypassLimit)] := by
  unfold countBypass bypassReport passageNow
  rw [out_raiseTo, out_setPassage]
  simp only [List.append_assoc]

theorem passage?_countBypass {y : Passage} (h : f.toPlant.passage? x.number = some y) :
    (countBypass v (some x) f).toPlant.passage? x.number = some { y with bypass := y.bypass + 1 } :=
  passage?_setPassage_same (fn := fun p => { p with bypass := p.bypass + 1 }) (fun _ => by rfl) h

end Pack

end Sys2Proof.Machine
end

section
/-! How the Scheduler prepares, drains and turns (06/R103, R105, R109, R110). -/

namespace Sys2Proof.Machine

/-! ## A change of scheduler state (06/R103) -/

theorem toPlant_schedTo (v : Base) (st : SchedSt) (c : SchedCause) (f : Flow) : (schedTo v st c f).toPlant =
    { f.toPlant with sched := { f.sched with st := st, idle := .stopped } } := rfl

theorem out_schedTo (v : Base) (st : SchedSt) (c : SchedCause) (f : Flow) : (schedTo v st c f).out = f.out ++
    [reportNow v .passage 0x22 (u1 f.sched.st.code ++ u1 st.code ++ u1 f.sched.dir.code ++ u1 c.code)] := rfl

/-! ## A levelling cancelled for its requester (03/R59) -/

theorem cancelFor_other {v : Base} {g : Fin 4} {p : Purpose} {f : Flow} (h : (f.channels.nth g).req ≠ some p) :
    cancelFor v g p f = f := if_neg h

theorem cancelFor_own {v : Base} {g : Fin 4} {p : Purpose} {f : Flow} (h : (f.channels.nth g).req = some p) :
    cancelFor v g p f = cancelChannel v g f := if_pos h

/-- The Scheduler's levelling of a gate cancelled. -/
def cancelEntry (v : Base) (g : Fin 4) (f : Flow) : Flow := cancelFor v g .turn (cancelFor v g .entry f)

theorem watery_cancelEntry (v : Base) (g : Fin 4) (f : Flow) : Watery f (cancelEntry v g f) := by
  have r := watery_rules f
  exact r.cancelFor (r.cancelFor (Watery.refl f) v (g := g) trivial .entry) v (g := g) trivial .turn

/-- A levelling for entry or for a turn, whichever it is, ends in a cancelled channel. -/
theorem cancelEntry_ours {v : Base} {g : Fin 4} {f : Flow} (st : (f.channels.nth g).st ≠ .idle)
    (req : (f.channels.nth g).req = some .entry ∨ (f.channels.nth g).req = some .turn) :
    (cancelEntry v g f).channels.nth g = Channel.idle ∧ (cancelEntry v g f).grants.nth g = false := by
  obtain ⟨idle, grant, -⟩ := cancelChannel_leaves (v := v) st
  have e : cancelEntry v g f = cancelChannel v g f := by
    unfold cancelEntry
    obtain entry | turn := req
    · rw [cancelFor_own entry, cancelFor_other]
      rw [idle]
      nofun
    · have other : (f.channels.nth g).req ≠ some .entry := by rw [turn]; nofun
      rw [cancelFor_other other, cancelFor_own turn]
  rw [e]
  exact ⟨idle, grant⟩

/-- Another's levelling, or none, stands. -/
theorem cancelEntry_still {v : Base} {g : Fin 4} {f : Flow} (h : ¬ ((f.channels.nth g).st ≠ .idle
    ∧ ((f.channels.nth g).req = some .entry ∨ (f.channels.nth g).req = some .turn))) : cancelEntry v g f = f := by
  have still (p : Purpose) (hp : p = .entry ∨ p = .turn) : cancelFor v g p f = f := by
    by_cases req : (f.channels.nth g).req = some p
    · rw [cancelFor_own req]
      refine cancelChannel_idle (not_not.mp fun st => h ⟨st, ?_⟩)
      obtain rfl | rfl := hp
      · exact .inl req
      · exact .inr req
    · exact cancelFor_other req
  rw [cancelEntry, still .entry (.inl rfl), still .turn (.inr rfl)]

/-! ## Draining (06/R109) -/

/-- The flow of a flight sent to DRAINING before the change of state is told. -/
def drained (v : Base) (f : Flow) : Flow :=
  setSched (fun s => { s with prep := .absent }) (cancelEntry v f.sched.dir.entryGate f)

theorem drain_eq (v : Base) (c : SchedCause) (f : Flow) : drain v c f = schedTo v .draining c (drained v f) := rfl

theorem sched_drained (v : Base) (f : Flow) : (drained v f).sched.st = f.sched.st ∧ (drained v f).sched.dir = f.sched.dir := by
  have e : (drained v f).sched = { (cancelEntry v f.sched.dir.entryGate f).sched with prep := .absent } := rfl
  rw [e, (watery_cancelEntry v f.sched.dir.entryGate f).sched]
  exact ⟨rfl, rfl⟩

/-! ## Preparing (06/R105, R110) -/

section Prepare

variable {v : Base} {ps : List Passage} {o : Option Passage} {f : Flow}

theorem prepareEntry_level (h : (f.channels.nth f.sched.dir.entryGate).st = .level) :
    prepareEntry v ps o f = formBatch v ps o f := by
  unfold prepareEntry
  exact if_pos h

theorem prepareEntry_busy (h : (f.channels.nth f.sched.dir.entryGate).st ≠ .level)
    (k : (f.channels.nth f.sched.dir.entryGate).st ≠ .idle) : prepareEntry v ps o f = f := by
  unfold prepareEntry
  exact (if_neg h).trans (if_neg k)

variable (idle : (f.channels.nth f.sched.dir.entryGate).st = .idle)

include idle

theorem prepareEntry_taken (h : (requestLevelling v f.sched.dir.entryGate .entry f).1 = .taken) :
    prepareEntry v ps o f = setSched (fun s => { s with prep := .asked f.sched.dir.entryGate false true, refusal := none })
      (requestLevelling v f.sched.dir.entryGate .entry f).2 := by
  unfold prepareEntry
  rw [if_neg (by rw [idle]; nofun), if_pos idle]
  rcases e : requestLevelling v f.sched.dir.entryGate .entry f with ⟨_ | _, k⟩
  · rw [e] at h
    cases h
  · rfl

theorem prepareEntry_refused {why : AskRefusal} (h : requestLevelling v f.sched.dir.entryGate .entry f = (.refused why, f)) :
    prepareEntry v ps o f = setSched (fun s => { s with prep := .absent, refusal := some why }) f := by
  unfold prepareEntry
  rw [if_neg (by rw [idle]; nofun), if_pos idle, h]

end Prepare

section Idle

variable {v : Base} {g : Fin 4} {p : Purpose} {f : Flow} (auto : f.regime.mode = .auto)
  (up : f.regime.condition ≠ .stoodDown) (idle : (f.channels.nth g).st = .idle)

include auto up idle

theorem requestLevelling_idle : requestLevelling v g p f =
    if (f.gates.nth g).st ≠ .shut ∨ levelsUsable v g (some p) = false then (.refused .state, f)
    else (.taken, failRefused v g (startChecks v g p f)) := by
  unfold requestLevelling
  rw [if_neg (by rw [auto]; nofun), if_neg up, if_neg (not_not.mpr idle)]

end Idle

/-! ## Turning (06/R109, R110) -/

section Turn

variable {v : Base} {f : Flow}

/-- The flight turned, before its TURN levelling is asked. -/
def turned (v : Base) (f : Flow) : Flow :=
  schedTo v .turning .flightEmpty (setSched (fun s => { s with dir := s.dir.flip }) f)

theorem turn_ready (h : f.sched.st = .draining ∧ f.batches = [] ∧ f.regime.condition = .running ∧ f.regime.mode = .auto) :
    turn v f = askTurn v (turned v f) := by
  obtain ⟨st, empty, running, auto⟩ := h
  exact if_pos ⟨st, by rw [Plant.flightEmpty, empty]; rfl, works_iff.mpr ⟨running, auto⟩⟩

theorem turn_still (h : ¬ (f.sched.st = .draining ∧ f.batches = [] ∧ f.regime.condition = .running ∧ f.regime.mode = .auto)) :
    turn v f = f := by
  refine if_neg fun c => h ?_
  obtain ⟨st, empty, works⟩ := c
  obtain ⟨running, auto⟩ := works_iff.mp works
  exact ⟨st, List.isEmpty_iff.mp empty, running, auto⟩

theorem askTurn_level (h : (f.channels.nth f.sched.dir.entryGate).st = .level) : askTurn v f =
    schedTo v .serving .turnLevelled (setSched (fun s => { s with prep := .absent }) f) := by
  unfold askTurn
  exact if_pos h

/-- What a flight that turns leaves: the direction flipped; SERVING where the channel is in LEVEL, else a TURN asked. -/
theorem turn_leaves (h : f.sched.st = .draining ∧ f.batches = [] ∧ f.regime.condition = .running ∧ f.regime.mode = .auto) :
    let g := f.sched.dir.flip.entryGate
    (turn v f).sched.dir = f.sched.dir.flip
    ∧ ((f.channels.nth g).st = .level → (turn v f).sched.st = .serving ∧ (turn v f).sched.prep = .absent)
    ∧ ((f.channels.nth g).st ≠ .level → (turn v f).sched.st = .turning
      ∧ ∃ taken, (turn v f).sched.prep = .asked g true taken
        ∧ (taken = true → ((turn v f).channels.nth g).req = some .turn)) := by
  intro g
  rw [turn_ready h]
  by_cases level : (f.channels.nth g).st = .level
  · rw [askTurn_level (f := turned v f) level]
    exact ⟨rfl, fun _ => ⟨rfl, rfl⟩, fun c => absurd level c⟩
  · obtain ⟨taken, why, e, took⟩ := askTurn_asks (v := v) (f := turned v f) level
    have watery := watery_requestLevelling v g .turn (turned v f)
    have req := fun t => (requestLevelling_taken (took t)).1
    rw [e]
    rw [show (turned v f).sched.dir.entryGate = g from rfl] at req ⊢
    have sched : (requestLevelling v g .turn (turned v f)).2.sched = _ := watery.sched
    rw [toPlant_setSched, sched]
    exact ⟨rfl, fun c => absurd c level, fun _ => ⟨rfl, taken, rfl, req⟩⟩

end Turn

/-! ## The outcome of a preparation (06/R105, R110) -/

theorem preparesEntry_iff {p : Plant} : preparesEntry p = true ↔
    (p.channels.nth p.sched.dir.entryGate).req = some .turn
    ∨ ((p.channels.nth p.sched.dir.entryGate).req = some .entry
      ∧ ∀ b ∈ p.batches, b.own ≠ some (p.sched.dir.entryGate, .entry)) := by
  unfold preparesEntry
  simp

section Follow

variable {v : Base} {f : Flow}

theorem followFailed_still (h : (f.channels.nth f.sched.dir.entryGate).st ≠ .failed) : followFailed v f = f :=
  if_neg fun c => h c.1

theorem followPrep_failed (st : (f.channels.nth f.sched.dir.entryGate).st = .failed) (ours : preparesEntry f.toPlant = true) :
    followPrep v f = setSched (fun s => { s with
      prep := .failed f.sched.dir.entryGate ((f.channels.nth f.sched.dir.entryGate).req == some .turn) v.elapsed })
        (cancelChannel v f.sched.dir.entryGate f) := by
  have e : followFailed v f = setSched (fun s => { s with
      prep := .failed f.sched.dir.entryGate ((f.channels.nth f.sched.dir.entryGate).req == some .turn) v.elapsed })
        (cancelChannel v f.sched.dir.entryGate f) := if_pos ⟨st, ours⟩
  unfold followPrep
  rw [e]
  rfl

theorem followPrep_level {isTurn : Bool} (st : (f.channels.nth f.sched.dir.entryGate).st = .level)
    (req : (f.channels.nth f.sched.dir.entryGate).req = some (if isTurn then .turn else .entry))
    (asked : f.sched.prep = .asked f.sched.dir.entryGate isTurn true) : followPrep v f =
      askOpportunity (if isTurn then schedTo v .serving .turnLevelled (setSched (fun s => { s with prep := .absent }) f)
        else setSched (fun s => { s with prep := .absent }) f) := by
  unfold followPrep
  rw [followFailed_still (by rw [st]; nofun)]
  simp only [asked]
  rw [if_neg (not_not.mpr req), if_pos st]

end Follow

end Sys2Proof.Machine
end

section
/-! A batch created, and what an opportunity does (05/R90; 06/R100 to R110; 07/R119). -/

namespace Sys2Proof.Machine

/-! ## The members called (05/R90) -/

/-- A passage called into a batch. -/
def Passage.calledInto (id : Nat) (d : Dir) (q : Nat) (x : Passage) : Passage :=
  { x with st := .called, batch := some id, chamber := some d.entryChamber, committed := some (.quote, q) }

/-- The members of a new batch called with their quotes. -/
def callMembers (v : Base) (id : Nat) (d : Dir) (ms : List (Nat × Nat)) : Flow → Flow :=
  overAll ms (fun m => changePassage v m.1 .formation (Passage.calledInto id d m.2))

/-- Only passages have changed. -/
def OnlyPassages (f k : Flow) : Prop := k.toPlant = { f.toPlant with passages := k.passages }

theorem changePassage_none {v : Base} {n : Nat} {c : PassCause} {fn : Passage → Passage} {f : Flow}
    (h : f.toPlant.passage? n = none) : changePassage v n c fn f = f := by
  unfold changePassage
  simp only [h]

/-- What a call makes of the passages. -/
theorem callMembers_leaves (v : Base) (id : Nat) (d : Dir) (ms : List (Nat × Nat)) (f : Flow) :
    OnlyPassages f (callMembers v id d ms f)
    ∧ ∀ i x, f.toPlant.passage? i = some x →
      ((∀ m ∈ ms, m.1 ≠ i) → (callMembers v id d ms f).toPlant.passage? i = some x)
      ∧ ((∃ m ∈ ms, m.1 = i) → ∃ q, (i, q) ∈ ms
        ∧ (callMembers v id d ms f).toPlant.passage? i = some (x.calledInto id d q)) := by
  induction ms generalizing f with
  | nil => exact ⟨rfl, fun i x hx => ⟨fun _ => hx, by rintro ⟨_, ⟨⟩, _⟩⟩⟩
  | cons m ms ih =>
    let k := changePassage v m.1 .formation (Passage.calledInto id d m.2) f
    have e : callMembers v id d (m :: ms) f = callMembers v id d ms k := rfl
    obtain ⟨only, found⟩ := ih k
    rw [e]
    cases here : f.toPlant.passage? m.1 with
    | none =>
      have still : k = f := changePassage_none here
      rw [still] at only found ⊢
      refine ⟨only, fun i x hx => ?_⟩
      have other : m.1 ≠ i := by
        rintro rfl
        rw [here] at hx
        exact absurd hx (Option.some_ne_none x).symm
      obtain ⟨out, within⟩ := found i x hx
      refine ⟨fun h => out fun n hn => h n (List.mem_cons_of_mem m hn), ?_⟩
      rintro ⟨n, hn, rfl⟩
      obtain rfl | later := List.mem_cons.mp hn
      · exact absurd rfl other
      · obtain ⟨q, hq, hx⟩ := within ⟨n, later, rfl⟩
        exact ⟨q, List.mem_cons_of_mem m hq, hx⟩
    | some y =>
      obtain ⟨plant, -, -⟩ := toPlant_changePassage (v := v) (c := .formation)
        (fn := Passage.calledInto id d m.2) (fun _ => rfl) here
      have kplant : k.toPlant = (setPassage m.1 (Passage.calledInto id d m.2) f).toPlant := plant
      have same : OnlyPassages f k := by
        unfold OnlyPassages
        rw [kplant, toPlant_setPassage]
      refine ⟨Eq.trans only (by rw [show k.toPlant = _ from same]), fun i x hx => ?_⟩
      by_cases mine : m.1 = i
      · subst mine
        obtain rfl : y = x := Option.some.inj (here.symm.trans hx)
        have now : k.toPlant.passage? m.1 = some (y.calledInto id d m.2) := by
          rw [kplant]
          exact passage?_setPassage_same (fn := Passage.calledInto id d m.2) (fun _ => rfl) here
        obtain ⟨out, within⟩ := found m.1 _ now
        refine ⟨fun h => absurd rfl (h m List.mem_cons_self), fun _ => ?_⟩
        by_cases later : ∃ n ∈ ms, n.1 = m.1
        · obtain ⟨q, hq, hx⟩ := within later
          exact ⟨q, List.mem_cons_of_mem m hq, hx⟩
        · exact ⟨m.2, List.mem_cons_self, out fun n hn c => later ⟨n, hn, c⟩⟩
      · have now : k.toPlant.passage? i = some x := by
          rw [kplant, passage?_setPassage_other (fn := Passage.calledInto id d m.2) (fun _ => rfl) f (Ne.symm mine)]
          exact hx
        obtain ⟨out, within⟩ := found i x now
        refine ⟨fun h => out fun n hn => h n (List.mem_cons_of_mem m hn), ?_⟩
        rintro ⟨n, hn, rfl⟩
        obtain rfl | later := List.mem_cons.mp hn
        · exact absurd rfl mine
        · obtain ⟨q, hq, hx⟩ := within ⟨n, later, rfl⟩
          exact ⟨q, List.mem_cons_of_mem m hq, hx⟩

/-! ## The batch created (07/R119) -/

/-- The record of a batch created. -/
def newBatch (v : Base) (id : Nat) (d : Dir) (ms : List (Nat × Nat)) : Batch := {
  id := id, dir := d, members := ms.map fun m => ⟨m.1, false⟩, chamber := some d.entryChamber, target := none,
  step := .entering, heldStep := none, causes := HeldCauses.none, stepStart := v.elapsed, berth := ⟨0, none⟩,
  overdue := none, waved := false, frozen := false, own := none }

theorem headOf_newBatch (v : Base) (id : Nat) (d : Dir) (ms : List (Nat × Nat)) :
    (newBatch v id d ms).headOf .entering = some (d.headAt d.entryGate) := by
  cases d <;> rfl

/-- The water told of the new batch, and the next id. -/
def numbered (v : Base) (d : Dir) (ms : List (Nat × Nat)) (f : Flow) : Flow :=
  let k := tellOccupied v (fun f => { f with batches := f.batches ++ [newBatch v f.nextBatch d ms] }) f
  { k with nextBatch := advanceBatch (idsInUse k.toPlant) 9 f.nextBatch }

/-- The batch and its members, before its step is told. -/
def formed (v : Base) (d : Dir) (ms : List (Nat × Nat)) (f : Flow) : Flow :=
  callMembers v f.nextBatch d ms (numbered v d ms f)

theorem createBatch_eq (v : Base) (d : Dir) (ms : List (Nat × Nat)) (f : Flow) :
    createBatch v d ms f = entryActions v f.nextBatch .entering (stepReport v f.nextBatch (formed v d ms f)) := rfl

theorem toPlant_numbered (v : Base) (d : Dir) (ms : List (Nat × Nat)) (f : Flow) : (numbered v d ms f).toPlant = { f.toPlant with
    batches := f.batches ++ [newBatch v f.nextBatch d ms], sluices := (numbered v d ms f).sluices,
    channels := (numbered v d ms f).channels
    nextBatch := advanceBatch (idsInUse { f.toPlant with batches := f.batches ++ [newBatch v f.nextBatch d ms] }) 9
      f.nextBatch } := by
  have told := (reduced_tellOccupied v (fun f => { f with batches := f.batches ++ [newBatch v f.nextBatch d ms] }) f).plant
  have e : (numbered v d ms f).toPlant = { (tellOccupied v (fun f =>
      { f with batches := f.batches ++ [newBatch v f.nextBatch d ms] }) f).toPlant with
        nextBatch := advanceBatch (idsInUse (tellOccupied v (fun f =>
          { f with batches := f.batches ++ [newBatch v f.nextBatch d ms] }) f).toPlant) 9 f.nextBatch } := rfl
  have sluices := congrArg Plant.sluices e
  have channels := congrArg Plant.channels e
  rw [sluices, channels, e, told]
  rfl

theorem batch?_append {p q : Plant} {b : Batch} (h : q.batches = p.batches ++ [b]) (i : Nat) :
    q.batch? i = (p.batch? i).or (if b.id = i then some b else none) := by
  unfold Plant.batch?
  rw [h, List.find?_append, List.find?_singleton]
  simp only [beq_iff_eq]

theorem advanceBatch_free {used : List Nat} {id : Nat} (k : Nat) (h : (if id = 255 then 1 else id + 1) ∉ used) :
    advanceBatch used (k + 1) id = if id = 255 then 1 else id + 1 := by
  unfold advanceBatch
  dsimp only
  rw [if_neg (by rw [List.contains_iff_mem]; exact h)]

section Created

variable {v : Base} {d : Dir} {ms : List (Nat × Nat)} {f : Flow}

theorem toPlant_formed : (formed v d ms f).toPlant = { f.toPlant with
    batches := f.batches ++ [newBatch v f.nextBatch d ms], sluices := (formed v d ms f).sluices,
    channels := (formed v d ms f).channels, passages := (formed v d ms f).passages
    nextBatch := advanceBatch (idsInUse { f.toPlant with batches := f.batches ++ [newBatch v f.nextBatch d ms] }) 9
      f.nextBatch } := by
  have called : OnlyPassages _ (formed v d ms f) := (callMembers_leaves v f.nextBatch d ms (numbered v d ms f)).1
  have e : (formed v d ms f).toPlant = _ := called
  have sluices := congrArg Plant.sluices e
  have channels := congrArg Plant.channels e
  rw [sluices, channels, e, toPlant_numbered]

theorem passage?_formed {i : Nat} {x : Passage} (hx : f.toPlant.passage? i = some x) :
    ((∀ m ∈ ms, m.1 ≠ i) → (formed v d ms f).toPlant.passage? i = some x)
    ∧ ((∃ m ∈ ms, m.1 = i) → ∃ q, (i, q) ∈ ms
      ∧ (formed v d ms f).toPlant.passage? i = some (x.calledInto f.nextBatch d q)) := by
  have same : (numbered v d ms f).toPlant.passage? i = some x := by
    unfold Plant.passage?
    rw [toPlant_numbered]
    exact hx
  exact (callMembers_leaves v f.nextBatch d ms (numbered v d ms f)).2 i x same

/-- The next id where it is free. -/
theorem nextBatch_formed (h : ∀ b ∈ f.batches, b.id ≠ if f.nextBatch = 255 then 1 else f.nextBatch + 1)
    (e : ∀ g : Fin 4, f.errands.nth g ≠ some (if f.nextBatch = 255 then 1 else f.nextBatch + 1)) :
    (formed v d ms f).nextBatch = if f.nextBatch = 255 then 1 else f.nextBatch + 1 := by
  have plant := toPlant_formed (v := v) (d := d) (ms := ms) (f := f)
  have next : (formed v d ms f).nextBatch = _ := congrArg Plant.nextBatch plant
  rw [next]
  refine advanceBatch_free 8 fun c => ?_
  simp only [idsInUse, List.mem_append, List.mem_map, List.mem_singleton, List.mem_filterMap] at c
  obtain ⟨b, hb | rfl, id⟩ | ⟨g, -, errand⟩ := c
  · exact h b hb id
  · have own : (newBatch v f.nextBatch d ms).id = f.nextBatch := rfl
    rw [own] at id
    split at id <;> omega
  · exact e g errand

variable (fresh : ∀ b ∈ f.batches, b.id ≠ f.nextBatch)

include fresh

theorem batch?_formed_same : (formed v d ms f).toPlant.batch? f.nextBatch = some (newBatch v f.nextBatch d ms) := by
  have none : f.toPlant.batch? f.nextBatch = none := List.find?_eq_none.mpr fun b hb => by simpa using fresh b hb
  rw [batch?_append (p := f.toPlant) (congrArg Plant.batches toPlant_formed), none]
  exact if_pos rfl

end Created

theorem batch?_formed_other (v : Base) (d : Dir) (ms : List (Nat × Nat)) (f : Flow) {i : Nat} (h : i ≠ f.nextBatch) :
    (formed v d ms f).toPlant.batch? i = f.toPlant.batch? i := by
  rw [batch?_append (p := f.toPlant) (congrArg Plant.batches toPlant_formed),
    if_neg (show (newBatch v f.nextBatch d ms).id ≠ i from Ne.symm h), Option.or_none]

/-- Entry to ENTERING: the head's stopping signal is tested, then the berth timer starts (04/R74; 07/R122). -/
theorem entryActions_entering {v : Base} {id : Nat} {b : Batch} {h : Fin 8} {f : Flow} (hb : f.toPlant.batch? id = some b)
    (head : b.headOf .entering = some h) : entryActions v id .entering f =
      if (f.heads.nth h).lostRed then hold v id .stopSignal f
      else setBatch id (fun b => { b with berth := ⟨0, some v.elapsed⟩ }) f := by
  unfold entryActions
  simp only [hb, head]

end Sys2Proof.Machine
end

section
/-! What an opportunity does (05/R87 to R90; 06/R100 to R110; 07/R119). -/

namespace Sys2Proof.Machine

section Entering

variable {v : Base} {d : Dir} {ms : List (Nat × Nat)} {f : Flow} (fresh : ∀ b ∈ f.batches, b.id ≠ f.nextBatch)

/-- The formed batch's step told. -/
def told (v : Base) (d : Dir) (ms : List (Nat × Nat)) (f : Flow) : Flow := stepReport v f.nextBatch (formed v d ms f)

theorem toPlant_told : (told v d ms f).toPlant = (formed v d ms f).toPlant := toPlant_stepReport _ _ _

include fresh

theorem batch?_told : (told v d ms f).toPlant.batch? f.nextBatch = some (newBatch v f.nextBatch d ms) := by
  rw [toPlant_told]
  exact batch?_formed_same fresh

theorem out_told : ∃ before, (told v d ms f).out = before ++ [batchNow v (formed v d ms f).toPlant (newBatch v f.nextBatch d ms)] :=
  ⟨_, out_stepReport (batch?_formed_same fresh)⟩

theorem createBatch_enters : createBatch v d ms f =
    if (f.heads.nth (d.headAt d.entryGate)).lostRed then hold v f.nextBatch .stopSignal (told v d ms f)
    else setBatch f.nextBatch (fun b => { b with berth := ⟨0, some v.elapsed⟩ }) (told v d ms f) := by
  have heads : (told v d ms f).heads = f.heads := by
    have e := congrArg Plant.heads (toPlant_told.trans (toPlant_formed (v := v) (d := d) (ms := ms) (f := f)))
    exact e
  rw [createBatch_eq, ← heads]
  exact entryActions_entering (batch?_told fresh) (headOf_newBatch v f.nextBatch d ms)

/-- What the last of the formation keeps of the members' passages, the accounts, the regime record and the next id; the
batch itself. -/
theorem createBatch_leaves : let k := createBatch v d ms f
    (k.passages = (formed v d ms f).passages ∧ k.nextBatch = (formed v d ms f).nextBatch ∧ k.accounts = f.accounts
      ∧ k.regime = f.regime)
    ∧ (∀ i, i ≠ f.nextBatch → k.toPlant.batch? i = f.toPlant.batch? i)
    ∧ ((f.heads.nth (d.headAt d.entryGate)).lostRed = false →
      let b : Batch := { newBatch v f.nextBatch d ms with berth := ⟨0, some v.elapsed⟩ }
      k.toPlant.batch? f.nextBatch = some b ∧ k.out.getLast? = some (batchNow v k.toPlant b))
    ∧ ((f.heads.nth (d.headAt d.entryGate)).lostRed = true →
      let b := (newBatch v f.nextBatch d ms).heldFor v .stopSignal
      k.toPlant.batch? f.nextBatch = some b ∧ k.out.getLast? = some (heldNow v b)) := by
  have plant := toPlant_told.trans (toPlant_formed (v := v) (d := d) (ms := ms) (f := f))
  have accounts : (told v d ms f).accounts = f.accounts := by
    have e := congrArg Plant.accounts plant
    exact e
  have regime : (told v d ms f).regime = f.regime := by
    have e := congrArg Plant.regime plant
    exact e
  have passages : (told v d ms f).passages = (formed v d ms f).passages := congrArg Plant.passages toPlant_told
  have next : (told v d ms f).nextBatch = (formed v d ms f).nextBatch := congrArg Plant.nextBatch toPlant_told
  have other (i : Nat) (hi : i ≠ f.nextBatch) : (told v d ms f).toPlant.batch? i = f.toPlant.batch? i := by
    rw [toPlant_told]
    exact batch?_formed_other v d ms f hi
  rw [createBatch_enters fresh]
  cases lost : (f.heads.nth (d.headAt d.entryGate)).lostRed with
  | false =>
    rw [if_neg (by decide)]
    refine ⟨⟨passages, next, accounts, regime⟩, fun i hi => ?_, fun _ => ⟨?_, ?_⟩, nofun⟩
    · exact (batch?_setBatch_other (fn := fun b => { b with berth := ⟨0, some v.elapsed⟩ }) (fun _ => by rfl) _ hi).trans
        (other i hi)
    · exact batch?_setBatch_same (fn := fun b => { b with berth := ⟨0, some v.elapsed⟩ }) (fun _ => by rfl) (batch?_told fresh)
    · obtain ⟨before, out⟩ := out_told (v := v) (d := d) (ms := ms) fresh
      rw [out_setBatch, out, List.getLast?_concat]
      exact congrArg some (batchNow_congr v passages.symm _)
  | true =>
    rw [if_pos rfl]
    have held := heldFirst_hold (v := v) (c := .stopSignal) (batch?_told (v := v) (d := d) (ms := ms) fresh) nofun
    have same {α : Type} (x : Plant → α) := congrArg x held.plant
    refine ⟨⟨(same (·.passages)).trans passages, (same (·.nextBatch)).trans next, (same (·.accounts)).trans accounts,
      (same (·.regime)).trans regime⟩, fun i hi => (held.others i hi).trans (other i hi), nofun, fun _ => ⟨held.batch, ?_⟩⟩
    rw [held.out, List.append_cons, List.getLast?_concat]

end Entering

/-- Settles O20: what an opportunity reads, and what it does, one operation after another. -/
theorem opportunitiesFormBatches : Obligations.OpportunitiesFormBatches := by
  unfold Obligations.OpportunitiesFormBatches
  refine ⟨fun v p => ⟨opportunityOpen_iff, fun n => logRoom_iff⟩, fun v f => ?take, fun v f => ?room,
    fun v a b ha hb => ?depth, fun v f => rfl, fun v n x f hx => ?check, fun ps => ?oldest, fun v ps f => ?decide,
    fun v st c f => ⟨toPlant_schedTo v st c f, out_schedTo v st c f⟩, fun v c f => ?drain, fun v ps o f => ?prepare,
    fun v x m f => ?packOne, fun v ps f => ⟨rfl, fun o => ?form⟩, fun v x f => ⟨rfl, fun y hy => ?_, countBypass_some⟩,
    fun v d ms f => ?create, fun v f => ?turn, fun v f => ?follow⟩
  case take =>
    refine ⟨fun shut => if_pos shut, fun opened full => ?_, fun opened room => ?_⟩
    · have e : takeOpportunity v f = if f.sched.short = true then f
          else logFullReport v false (setSched (fun s => { s with short := true }) f) :=
        (if_neg (by rw [opened]; decide)).trans (if_pos full)
      refine ⟨fun short => by rw [e, if_pos short], fun short => ?_⟩
      rw [e, if_neg (by rw [short]; decide)]
      exact ⟨rfl, rfl⟩
    · intro c ps
      refine ⟨setSched (fun s => { s with
        oldest := (oldestOf ps).map (·.number),
        prep := match s.prep with | .failed _ _ _ => .absent | k => k }) c,
        (if_neg (by rw [opened]; decide)).trans (if_neg (by rw [room]; decide)), rfl, rfl⟩
  case room =>
    intro room
    have room_iff : logRoom v f.toPlant 1 = true ↔ room := logRoom_iff
    refine ⟨fun h => followLogRoom_still (h.imp_right fun n => ?_), fun short h => ?_⟩
    · rw [← Bool.not_eq_true, room_iff]
      exact n
    · have e : followLogRoom v f = _ := if_pos ⟨short, room_iff.mpr h⟩
      rw [e]
      exact ⟨rfl, rfl⟩
  case depth =>
    intro usable
    rw [depthAvailable_read ha hb]
    exact ⟨fun u => if_pos u, fun u => if_neg u⟩
  case check =>
    intro deep pays k becomes
    obtain ⟨shallow, owing, passing⟩ := checkedState_cases v f.toPlant x
    refine ⟨checkPassage_idle hx, fun w => ?_⟩
    have outcome {st : PassSt} {n : Nat} (h : checkedState v f.toPlant x = st) (c : (checkedCause st).code = n) : becomes st n := by
      obtain rfl := h
      obtain rfl := c
      exact checkPassage_leaves (v := v) hx w
    have no_depth (h : ¬ deep) : depthPasses v x = false := by
      rw [← Bool.not_eq_true, depthPasses_iff]
      exact h
    refine ⟨fun h => outcome (shallow (no_depth h)) rfl, fun h p => outcome (owing (depthPasses_iff.mpr h) ?_) rfl,
      fun h p => outcome (passing (depthPasses_iff.mpr h) (accountPasses_iff.mpr p)) rfl⟩
    rw [← Bool.not_eq_true, accountPasses_iff]
    exact p
  case oldest =>
    refine ⟨fun a x b e ha hx => ?_, oldestOf_first⟩
    rw [e]
    exact oldestOf_priority ha hx
  case decide =>
    intro d mine
    refine ⟨fun e => decideServing_none e, fun o ho => ?_, fun m => ?_, fun m expired leaves => ?_, fun m stays => ?_⟩
    · rw [decideServing_some ho]
      refine ⟨fun e => if_pos e, fun e p => ?_, fun e p b => ?_, fun e p b m => ?_, fun e p b m => ?_⟩
      · rw [if_neg e, if_pos p]
      · rw [if_neg e, if_neg (by rw [p]; decide), if_pos b]
      · rw [if_neg e, if_neg (by rw [p]; decide), if_neg (by omega), if_pos m]
      · rw [if_neg e, if_neg (by rw [p]; decide), if_neg (by omega), if_neg m]
    · rw [decideIdle_eq, if_pos m]
    · rw [decideIdle_eq, if_neg m, if_pos ⟨expired, leaves⟩]
    · rw [decideIdle_eq, if_neg m, if_neg]
      rintro ⟨expired, leaves⟩
      obtain no | ⟨none, rest⟩ := stays
      · exact no expired
      · exact leaves.elim (fun h => h none) fun h => h rest
  case drain =>
    intro g x k ours
    obtain ⟨st, dir⟩ := sched_drained v f
    have watery := watery_cancelEntry v g f
    obtain ⟨gates, -, passages, -, batches, -⟩ := watery.water
    have plant : k.toPlant = { (cancelEntry v g f).toPlant with sched := k.sched } := rfl
    refine ⟨rfl, rfl, dir, rfl, fun h => ?_, fun h => ?_, ?_, ?_, ?_, ?_⟩
    · rw [plant]
      exact cancelEntry_ours h.1 h.2
    · rw [plant, cancelEntry_still h]
    · rw [plant]
      exact gates
    · rw [plant]
      exact passages
    · rw [plant]
      exact batches
    · show (drain v c f).out.getLast? = _
      rw [drain_eq, out_schedTo, List.getLast?_concat, st, dir]
      rfl
  case prepare =>
    intro g c k
    refine ⟨prepareEntry_level, prepareEntry_busy, fun idle auto up => ⟨fun shut usable => ?_, fun bars => ?_⟩⟩
    · have e := requestLevelling_idle (v := v) (p := .entry) auto up idle
      rw [if_neg (by rw [usable]; simp [shut])] at e
      have taken : (requestLevelling v g .entry f).1 = .taken := by rw [e]
      obtain ⟨req, st⟩ := requestLevelling_taken taken
      have ek : k = _ := prepareEntry_taken (ps := ps) (o := o) idle taken
      rw [ek]
      exact ⟨rfl, rfl, req, st⟩
    · have e := requestLevelling_idle (v := v) (p := .entry) auto up idle
      rw [if_pos bars] at e
      have ek : k = _ := prepareEntry_refused (ps := ps) (o := o) idle e
      rw [ek]
      rfl
  case packOne =>
    intro len stops q
    have length : m.with_ x.length = len := with_eq m x.length
    have stops_iff : packStops v f.toPlant x m ↔ stops := by
      unfold packStops
      rw [length]
    refine ⟨fun h => packOne_stops (stops_iff.mpr h), fun h a => ?_, fun h a => ?_⟩
    · rw [packOne_goes (mt stops_iff.mp h), if_pos a]
    · rw [packOne_goes (mt stops_iff.mp h), if_neg (by rw [a]; decide), length]
  case form =>
    unfold formBatch
    dsimp only
    simp only [List.isEmpty_iff]
  case create =>
    intro id n k lost fresh
    obtain ⟨⟨passages, next, accounts, regime⟩, others, sound, held⟩ := createBatch_leaves (v := v) (d := d) (ms := ms) fresh
    refine ⟨?_, others, fun i x hx => ?_, fun free errands => ?_, accounts, regime⟩
    · cases signal : lost with
      | false =>
        obtain ⟨found, last⟩ := sound signal
        exact ⟨_, found, rfl, rfl, rfl, rfl, rfl, rfl, fun _ => ⟨rfl, rfl, last⟩, nofun⟩
      | true =>
        obtain ⟨found, last⟩ := held signal
        exact ⟨_, found, rfl, rfl, rfl, rfl, rfl, rfl, nofun, fun _ => ⟨rfl, rfl, rfl, last⟩⟩
    · have same : k.toPlant.passage? i = (formed v d ms f).toPlant.passage? i := by
        unfold Plant.passage?
        rw [passages]
      rw [same]
      exact passage?_formed hx
    · exact next.trans (nextBatch_formed free errands)
  case turn =>
    intro g ready
    exact ⟨turn_still, turn_leaves⟩
  case follow =>
    intro g c ours
    refine ⟨fun st o => ?_, fun isTurn st req asked => ?_⟩
    · obtain ⟨idle, -⟩ := cancelChannel_leaves (v := v) (g := g) (f := f) (by rw [st]; nofun)
      rw [followPrep_failed st (preparesEntry_iff.mpr o)]
      exact ⟨idle, rfl⟩
    · rw [followPrep_level st req asked]
      cases isTurn with
      | false => exact ⟨rfl, rfl, nofun⟩
      | true => exact ⟨rfl, rfl, fun _ => rfl⟩
  · exact passage?_countBypass hy

end Sys2Proof.Machine
end

section
/-! A scan: its gauges, bodies, heads and the flood, and its reports (01/R1 to R15, R21). -/

namespace Sys2Proof.Machine

/-! ## The reports of a scan (01/R2, R11, R13, R17) -/

/-- The reports of a gauge's sample. -/
def gaugeTold (v : Base) (first : Bool) (c : Fin 8) (old new : Gauge) : List Report :=
  (if new.status = .fault ∧ (first = true ∨ old.status = .good) then
      [reportNow v .alarm 0x01 (u1 c.val ++ u2 new.raw)] else [])
    ++ (if old.capture.isSome = true ∧ new.capture = none then
        [reportNow v .water 0x46 (u1 c.val ++ u1 ((old.capture.map (·.index)).getD 0))] else [])
    ++ (if new.status = .good ∧ old.status ≠ .good ∧ first = false then
        [reportNow v .water 0x40 (u1 c.val ++ lvl2 new.level)] else [])

/-- The report of a body. -/
def bodyTold (v : Base) (first : Bool) (b : Fin 5) (old new : Body) : List Report :=
  let fields := u1 b.val ++ u1 old.status.code ++ u1 new.status.code ++ lvl2 new.level
  if new.status = old.status ∧ first = false then []
  else if new.status = .doubtful ∨ new.status = .fault then [reportNow v .alarm 0x02 fields]
  else [reportNow v .water 0x41 fields]

/-- The report of one limit of a body. -/
def limitTold (v : Base) (b : Fin 5) (new : Body) (which code : Nat) (was is : Bool) : List Report :=
  if was = is then [] else [reportNow v .water (if is then code else 0x44) (u1 b.val ++ u1 which ++ lvl2 new.level)]

theorem out_ite_raise (c : Prop) [Decidable c] (v : Base) (cl : RClass) (code : Nat) (fields : List Byte) (f : Flow) :
    (if c then raise v cl code fields f else f).out = f.out ++ if c then [reportNow v cl code fields] else [] := by
  split
  · rfl
  · exact (List.append_nil _).symm

theorem out_gaugeReports (v : Base) (first : Bool) (c : Fin 8) (old new : Gauge) (f : Flow) :
    (gaugeReports v first c old new f).out = f.out ++ gaugeTold v first c old new := by
  unfold gaugeReports gaugeTold
  dsimp only
  rw [out_ite_raise]
  cases old.capture with
  | none => simp [out_ite_raise]
  | some k => cases new.capture <;> simp [out_ite_raise, out_raise, reportNow]

theorem out_bodyReport (v : Base) (first : Bool) (b : Fin 5) (old new : Body) (f : Flow) :
    (bodyReport v first b old new f).out = f.out ++ bodyTold v first b old new := by
  unfold bodyReport bodyTold
  dsimp only
  split
  · exact (List.append_nil _).symm
  · split <;> rfl

theorem out_limitReports (v : Base) (b : Fin 5) (old new : Body) (f : Flow) : (limitReports v b old new f).out =
    f.out ++ (limitTold v b new 0 0x42 old.high new.high ++ limitTold v b new 1 0x43 old.low new.low) := by
  have one (which code : Nat) (was is : Bool) (f : Flow) : (if was = is then f
      else raise v .water (if is then code else 0x44) (u1 b ++ u1 which ++ lvl2 new.level) f).out
        = f.out ++ limitTold v b new which code was is := by
    unfold limitTold
    split
    · exact (List.append_nil _).symm
    · rfl
  unfold limitReports
  dsimp only
  rw [← List.append_assoc, one, one]

/-- Reports told one after the other. -/
theorem out_overAll {α : Type} {act : α → Flow → Flow} {rs : α → List Report} (h : ∀ x f, (act x f).out = f.out ++ rs x)
    (xs : List α) (f : Flow) : (overAll xs act f).out = f.out ++ xs.flatMap rs := by
  induction xs generalizing f with
  | nil => exact (List.append_nil _).symm
  | cons x xs ih => rw [overAll_cons, ih, h, List.flatMap_cons, List.append_assoc]

theorem toPlant_overAll {α : Type} {act : α → Flow → Flow} (h : ∀ x f, (act x f).toPlant = f.toPlant) (xs : List α) (f : Flow) :
    (overAll xs act f).toPlant = f.toPlant := by
  induction xs generalizing f with
  | nil => rfl
  | cons x xs ih => rw [overAll_cons, ih, h]

theorem toPlant_gaugeReports (v : Base) (first : Bool) (c : Fin 8) (old new : Gauge) (f : Flow) :
    (gaugeReports v first c old new f).toPlant = f.toPlant := by
  unfold gaugeReports
  (repeat' split) <;> rfl

theorem toPlant_bodyReport (v : Base) (first : Bool) (b : Fin 5) (old new : Body) (f : Flow) :
    (bodyReport v first b old new f).toPlant = f.toPlant := by
  unfold bodyReport
  (repeat' split) <;> rfl

theorem toPlant_limitReports (v : Base) (b : Fin 5) (old new : Body) (f : Flow) :
    (limitReports v b old new f).toPlant = f.toPlant := by
  unfold limitReports
  dsimp only
  (repeat' split) <;> rfl

/-- The reports of a scan, stage by stage. -/
def scanTold (v : Base) (old new : Scanner) : List Report :=
  (allGauges.flatMap fun c => gaugeTold v old.first c (old.gauges.nth c) (new.gauges.nth c))
    ++ (allBodies.flatMap fun b => bodyTold v old.first b (old.bodies.nth b) (new.bodies.nth b))
    ++ (allBodies.flatMap fun b => limitTold v b (new.bodies.nth b) 0 0x42 (old.bodies.nth b).high (new.bodies.nth b).high
      ++ limitTold v b (new.bodies.nth b) 1 0x43 (old.bodies.nth b).low (new.bodies.nth b).low)

theorem scanReports_leaves (v : Base) (old new : Scanner) (f : Flow) : (scanReports v old new f).toPlant = f.toPlant
    ∧ (scanReports v old new f).out = f.out ++ scanTold v old new := by
  unfold scanReports
  dsimp only
  refine ⟨?_, ?_⟩
  · rw [toPlant_overAll (fun b f => toPlant_limitReports v b _ _ f), toPlant_overAll (fun b f => toPlant_bodyReport v _ b _ _ f),
      toPlant_overAll (fun c f => toPlant_gaugeReports v _ c _ _ f)]
  · rw [out_overAll (act := fun b => limitReports v b (old.bodies.nth b) (new.bodies.nth b))
        fun b f => out_limitReports v b _ _ f,
      out_overAll (act := fun b => bodyReport v old.first b (old.bodies.nth b) (new.bodies.nth b))
        fun b f => out_bodyReport v _ b _ _ f,
      out_overAll (act := fun c => gaugeReports v old.first c (old.gauges.nth c) (new.gauges.nth c))
        fun c f => out_gaugeReports v _ c _ _ f, scanTold]
    simp only [List.append_assoc]

/-! ## Bodies, heads and the flood after a scan (01/R12, R13, R15) -/

theorem limits_deriveBody (v : Settings) (gs : Tbl 8 Gauge) (b : Fin 5) (old : Body) :
    (deriveBody v gs b old).high = old.high ∧ (deriveBody v gs b old).low = old.low := by
  unfold deriveBody
  split
  · exact limits_deriveChamber _ _ _ _
  · unfold deriveReach
    split <;> exact ⟨rfl, rfl⟩

section Limits

variable {high low : Int} {b : Body}

theorem testLimits_keeps : (testLimits high low b).level = b.level ∧ (testLimits high low b).status = b.status
    ∧ (testLimits high low b).lastGood = b.lastGood := by
  unfold testLimits
  split <;> exact ⟨rfl, rfl, rfl⟩

theorem testLimits_fault (h : b.status = .fault) : testLimits high low b = b := by
  unfold testLimits
  simp only [h]

theorem testLimits_read {l : Int} (h : b.status ≠ .fault) (hl : b.level = some l) : testLimits high low b = { b with
    high := if b.high then decide (high - 20 ≤ l) else decide (high < l)
    low := if b.low then decide (l ≤ low + 20) else decide (l < low) } := by
  unfold testLimits
  simp only [hl]

end Limits

/-- What a scan makes of the limit states of a body. -/
theorem limits_scanned {high low : Int} {v : Settings} {gs : Tbl 8 Gauge} {b : Fin 5} {old y : Body}
    (h : y = testLimits high low (deriveBody v gs b old)) :
    (y.level = (deriveBody v gs b old).level ∧ y.status = (deriveBody v gs b old).status
      ∧ y.lastGood = (deriveBody v gs b old).lastGood)
    ∧ (y.status = .fault → y.high = old.high ∧ y.low = old.low)
    ∧ ∀ l, y.status ≠ .fault → y.level = some l →
      (y.high = true ↔ if old.high then high - 20 ≤ l else high < l)
      ∧ (y.low = true ↔ if old.low then l ≤ low + 20 else l < low) := by
  have keeps := testLimits_keeps (high := high) (low := low) (b := deriveBody v gs b old)
  obtain ⟨wasHigh, wasLow⟩ := limits_deriveBody v gs b old
  rw [← h] at keeps
  obtain ⟨level, status, -⟩ := id keeps
  refine ⟨keeps, fun fault => ?_, fun l live hl => ?_⟩
  · rw [h, testLimits_fault (status ▸ fault)]
    exact ⟨wasHigh, wasLow⟩
  · rw [h, testLimits_read (status ▸ live) (level ▸ hl)]
    dsimp only
    rw [wasHigh, wasLow]
    constructor <;> split <;> simp

theorem deriveHead_value (lower upper : Body) (old : WaterHead) :
    (∀ a b, lower.level = some a → upper.level = some b → (deriveHead lower upper old).value = some (b - a))
    ∧ ((lower.level = none ∨ upper.level = none) → (deriveHead lower upper old).value = none) := by
  unfold deriveHead
  refine ⟨fun a b ha hb => by simp only [ha, hb], fun h => ?_⟩
  dsimp only
  obtain h | h := h
  · rw [h]
  · rw [h]
    cases lower.level <;> rfl

theorem deriveHead_sign (lower upper : Body) (old : WaterHead) :
    ((deriveHead lower upper old).usable = false → (deriveHead lower upper old).sign = .none)
    ∧ ∀ h, (deriveHead lower upper old).usable = true → (deriveHead lower upper old).value = some h →
      (deriveHead lower upper old).sign = if 0 < h then .pos else if h < 0 then .neg else old.sign := by
  unfold deriveHead
  dsimp only
  refine ⟨fun h => by rw [h]; rfl, fun h usable value => ?_⟩
  rw [usable, value]
  rfl

section Flood

variable {limit : Int} {now : Nat} {up : Body} {s : Scanner}

theorem live_iff : (up.status == .good || up.status == .subst) = true ↔ up.status = .good ∨ up.status = .subst := by
  simp

theorem testFlood_keeps : testFlood limit now up s =
    { s with flood := (testFlood limit now up s).flood, clearSince := (testFlood limit now up s).clearSince } := by
  unfold testFlood
  dsimp only
  (repeat' split) <;> rfl

theorem testFlood_calm (h : s.flood = false) :
    ((testFlood limit now up s).flood = true ↔ (up.status = .good ∨ up.status = .subst)
      ∧ ∃ l, up.level = some l ∧ limit ≤ l)
    ∧ ((testFlood limit now up s).flood = true → (testFlood limit now up s).clearSince = none) := by
  have reaches : ((up.status == .good || up.status == .subst) && up.level.isSome
      && decide (limit ≤ up.level.getD (limit - 101))) = true ↔ (up.status = .good ∨ up.status = .subst)
        ∧ ∃ l, up.level = some l ∧ limit ≤ l := by
    cases up.level <;> simp
  unfold testFlood
  dsimp only
  rw [if_neg (by rw [h]; decide)]
  split
  · next c => exact ⟨iff_of_true rfl (reaches.mp c), fun _ => rfl⟩
  · next c => exact ⟨iff_of_false (by rw [h]; decide) (mt reaches.mpr c), fun f => absurd f (by rw [h]; decide)⟩

theorem testFlood_flooded (h : s.flood = true) :
    (testFlood limit now up s).flood = true
    ∧ (¬ (up.status = .good ∨ up.status = .subst) → (testFlood limit now up s).clearSince = none)
    ∧ ∀ l, (up.status = .good ∨ up.status = .subst) → up.level = some l →
      (testFlood limit now up s).clearSince = if l < limit - 100 then some (s.clearSince.getD now) else none := by
  unfold testFlood
  dsimp only
  rw [if_pos h]
  refine ⟨h, fun dead => if_neg fun c => ?_, fun l live hl => ?_⟩
  · exact dead (live_iff.mp ((Bool.and_eq_true _ _).mp c).1)
  · simp only [live_iff.mpr live, hl, Option.getD_some, Bool.true_and, decide_eq_true_eq]

end Flood

end Sys2Proof.Machine
end

section
/-! What a scan publishes and what the other blocks take from it (01/R1 to R15, R21; 06/R100, R115). -/

namespace Sys2Proof.Machine

/-! ## The scanner after a scan -/

section Scanned

variable (v : Base) (codes : Tbl 8 Nat)

/-- The gauges after a scan. -/
def gaugesOf : Tbl 8 Gauge := Vector.ofFn fun c =>
  sampleGauge (v.settings.gain.nth c) (v.settings.offset.nth c) (codes.nth c) (v.scanner.gauges.nth c)

/-- The bodies after a scan. -/
def bodiesOf : Tbl 5 Body := Vector.ofFn fun b => testLimits (v.settings.highLimit.nth b) (v.settings.lowLimit.nth b)
  (deriveBody v.settings (gaugesOf v codes) b (v.scanner.bodies.nth b))

/-- The heads after a scan. -/
def headsOf : Tbl 4 WaterHead := Vector.ofFn fun g =>
  deriveHead ((bodiesOf v codes).nth (lowerBody g)) ((bodiesOf v codes).nth (upperBody g)) (v.scanner.heads.nth g)

/-- The scanner when its flood is tested. -/
def beforeFlood : Scanner := { v.scanner with
  gauges := gaugesOf v codes, bodies := bodiesOf v codes, heads := headsOf v codes, first := false }

/-- The scanner when its flood has been tested. -/
def afterFlood : Scanner := testFlood v.settings.floodLimit v.elapsed ((bodiesOf v codes).nth 4) (beforeFlood v codes)

theorem scanned_eq : scanned v codes = { beforeFlood v codes with
    flood := (afterFlood v codes).flood, clearSince := (afterFlood v codes).clearSince
    shown := gaugesOf v codes, shownFlood := (afterFlood v codes).flood } := by
  have e : scanned v codes = { afterFlood v codes with shown := gaugesOf v codes, shownFlood := (afterFlood v codes).flood } := rfl
  have keeps : afterFlood v codes = { beforeFlood v codes with
    flood := (afterFlood v codes).flood, clearSince := (afterFlood v codes).clearSince } := testFlood_keeps
  rw [e]
  generalize afterFlood v codes = s at keeps ⊢
  rw [keeps]

theorem gauges_scanned (c : Fin 8) : (scanned v codes).gauges.nth c =
    sampleGauge (v.settings.gain.nth c) (v.settings.offset.nth c) (codes.nth c) (v.scanner.gauges.nth c) := by
  rw [scanned_eq]
  exact Vector.getElem_ofFn ..

theorem bodies_scanned (b : Fin 5) : (scanned v codes).bodies.nth b =
    testLimits (v.settings.highLimit.nth b) (v.settings.lowLimit.nth b)
      (deriveBody v.settings (scanned v codes).gauges b (v.scanner.bodies.nth b)) := by
  rw [scanned_eq]
  exact Vector.getElem_ofFn ..

theorem heads_scanned (g : Fin 4) : (scanned v codes).heads.nth g = deriveHead ((scanned v codes).bodies.nth (lowerBody g))
    ((scanned v codes).bodies.nth (upperBody g)) (v.scanner.heads.nth g) := by
  rw [scanned_eq]
  exact Vector.getElem_ofFn ..

/-- The flood and its timer are tested on the bodies of the scan. -/
theorem flood_scanned : ∃ s : Scanner, (s.flood = v.scanner.flood ∧ s.clearSince = v.scanner.clearSince)
    ∧ (scanned v codes).flood
        = (testFlood v.settings.floodLimit v.elapsed ((scanned v codes).bodies.nth 4) s).flood
    ∧ (scanned v codes).clearSince
        = (testFlood v.settings.floodLimit v.elapsed ((scanned v codes).bodies.nth 4) s).clearSince := by
  rw [scanned_eq]
  exact ⟨beforeFlood v codes, ⟨rfl, rfl⟩, rfl, rfl⟩

theorem shown_scanned : (scanned v codes).first = false ∧ (scanned v codes).shown = (scanned v codes).gauges
    ∧ (scanned v codes).shownFlood = (scanned v codes).flood := by
  rw [scanned_eq]
  exact ⟨rfl, rfl, rfl⟩

end Scanned

/-! ## What the other blocks take from a scan -/

/-- A flood that a scan finds is taken into the regime record. -/
def takeFlood (v : Base) (old : Scanner) (f : Flow) : Flow := if v.scanner.flood && !old.flood then floodSignal v true f else f

theorem toPlant_takeFlood (v : Base) (old : Scanner) (f : Flow) : (takeFlood v old f).toPlant = { f.toPlant with
    regime := if v.scanner.flood = true ∧ old.flood = false then { f.regime with flood := true } else f.regime
    heads := (takeFlood v old f).heads } := by
  unfold takeFlood
  by_cases raised : v.scanner.flood = true ∧ old.flood = false
  · rw [if_pos raised, if_pos (by rw [raised.1, raised.2]; rfl)]
    exact toPlant_changeRegime v .flood (fun r => { r with flood := true }) f
  · rw [if_neg raised, if_neg (by simpa using raised)]

theorem out_takeFlood (v : Base) (old : Scanner) (f : Flow) : f.out <+: (takeFlood v old f).out := by
  unfold takeFlood
  split
  · by_cases still : { f.regime with flood := true } = f.regime
    · rw [floodSignal, changeRegime_same v .flood _ _ still]
    · exact (List.prefix_append _ _).trans (out_changeRegime_told v .flood _ _ still)
  · exact List.prefix_refl _

theorem scanEnd_askOpportunity (f : Flow) : (askOpportunity f).scanEnd = f.scanEnd := rfl

/-- The flow at the end of a scan (01/R1). -/
def Flow.atScanEnd (f : Flow) : Flow := { f with scanEnd := true }

theorem afterScan_eq (v : Base) (old : Scanner) (f : Flow) : afterScan v old f =
    askOpportunity (scanLevellings v (Vector.ofFn fun g => (old.heads.nth g).sign)
      (takeFlood v old (scanReports v old v.scanner f)).atScanEnd) := rfl

/-- What the other blocks take from a scan: the flood into the regime record, then the levellings and the permit. -/
theorem afterScan_leaves {v : Base} {old : Scanner} {f k : Flow} (e : k = afterScan v old f) :
    k.scanEnd = true ∧ k.opp = true ∧ k.gates = f.gates ∧ k.passages = f.passages ∧ k.batches = f.batches
    ∧ k.accounts = f.accounts
    ∧ k.regime = (if v.scanner.flood = true ∧ old.flood = false then { f.regime with flood := true } else f.regime)
    ∧ f.out ++ scanTold v old v.scanner <+: k.out := by
  obtain ⟨plant, out⟩ := scanReports_leaves v old v.scanner f
  have same := toPlant_takeFlood v old (scanReports v old v.scanner f)
  have told := out_takeFlood v old (scanReports v old v.scanner f)
  rw [plant] at same
  rw [out] at told
  rw [e, afterScan_eq, toPlant_askOpportunity, out_askOpportunity, opp_askOpportunity, scanEnd_askOpportunity]
  generalize takeFlood v old (scanReports v old v.scanner f) = m at same told
  have watery := watery_scanLevellings (Watery.refl m.atScanEnd) v (Vector.ofFn fun g => (old.heads.nth g).sign)
  obtain ⟨gates, -, passages, -, batches, -, -, accounts, regime⟩ := watery.water
  have gatesWere : m.gates = f.gates := by rw [same]
  have passagesWere : m.passages = f.passages := by rw [same]
  have batchesWere : m.batches = f.batches := by rw [same]
  have accountsWere : m.accounts = f.accounts := by rw [same]
  have regimeWas : m.regime = if v.scanner.flood = true ∧ old.flood = false then { f.regime with flood := true } else f.regime := by
    rw [same]
  exact ⟨watery.scanEnd, rfl, gates.trans gatesWere, passages.trans passagesWere, batches.trans batchesWere,
    accounts.trans accountsWere, regime.trans regimeWas, told.trans watery.out⟩

/-- Settles O23: the scan of a powered part; the statuses; the bodies beside a gate; the reports. -/
theorem scanPublishesGaugesBodiesAndHeads : Obligations.ScanPublishesGaugesBodiesAndHeads := by
  refine ⟨fun codes s hp => ?scan, fun st => by cases st <;> decide, fun g => by revert g; decide,
    fun v first c old new f => ?_, fun v first b old new f => ⟨out_bodyReport v first b old new f, ?_⟩⟩
  case scan =>
    let y := scanned s.base (codes.map (· % 4096))
    let t := s.withScanner y
    obtain ⟨ended, opp, gates, passages, batches, accounts, regime, more, out⟩ := 
      afterScan_leaves (v := t.base) (old := s.base.scanner) (f := t.flow) rfl
    refine ⟨t.conclude (afterScan t.base s.base.scanner t.flow), afterScan t.base s.base.scanner t.flow,
      congrArg _ (if_pos hp), rfl, conclude_sameLink t _, rfl, ended, opp, gates, passages, batches, accounts, ?_⟩
    have scanner : (t.conclude (afterScan t.base s.base.scanner t.flow)).base.scanner = y := rfl
    rw [scanner]
    generalize afterScan t.base s.base.scanner t.flow = f at out regime ⊢
    obtain ⟨first, shown, shownFlood⟩ := shown_scanned s.base (codes.map (· % 4096))
    refine ⟨first, shown, shownFlood, fun c => ?gauge, fun b => ?body, fun g => ?head, ⟨?calm, ?flooded, regime⟩, more, ?_⟩
    case gauge =>
      have e := gauges_scanned s.base (codes.map (· % 4096)) c
      rw [show Tbl.nth (codes.map (· % 4096)) c = codes.nth c % 4096 from Vector.getElem_map ..] at e
      exact e
    case body =>
      obtain ⟨⟨level, status, lastGood⟩, fault, live⟩ := limits_scanned (bodies_scanned s.base (codes.map (· % 4096)) b)
      exact ⟨level, status, lastGood, fault, live⟩
    case head =>
      have e := heads_scanned s.base (codes.map (· % 4096)) g
      have value := deriveHead_value (y.bodies.nth (lowerBody g)) (y.bodies.nth (upperBody g)) (s.base.scanner.heads.nth g)
      have sign := deriveHead_sign (y.bodies.nth (lowerBody g)) (y.bodies.nth (upperBody g)) (s.base.scanner.heads.nth g)
      rw [← e] at value sign
      refine ⟨value.1, value.2, ?_, ?_, sign.1, sign.2⟩
      · rw [show y.heads.nth g = _ from e]
        exact Bool.and_eq_true_iff
      · rw [show y.heads.nth g = _ from e]
        exact Bool.and_eq_true_iff
    case calm =>
      obtain ⟨w, ⟨flood, -⟩, now, since⟩ := flood_scanned s.base (codes.map (· % 4096))
      intro h
      rw [show y.flood = _ from now, show y.clearSince = _ from since]
      exact testFlood_calm (flood.trans h)
    case flooded =>
      obtain ⟨w, ⟨flood, clear⟩, now, since⟩ := flood_scanned s.base (codes.map (· % 4096))
      intro h
      rw [show y.flood = _ from now, show y.clearSince = _ from since, ← clear]
      exact testFlood_flooded (flood.trans h)
    · rw [← out]
      simp only [out_gaugeReports, out_bodyReport, out_limitReports]
      rfl
  · rw [out_gaugeReports, gaugeTold]
    simp only [List.append_assoc]
  · rw [out_limitReports, ← List.append_assoc]
    rfl

end Sys2Proof.Machine
end

section
/-! The settings and the clock stay within their ranges (01/R13, R18; 03/R45; 08/R140, R141; 10/R178, R179). -/

namespace Sys2Proof.Machine

/-! ## The settings written -/

/-- A setting written within its range, and not against another one. -/
theorem write_inRange {v : Settings} {k : Setting} {x : Int} (h : v.inRange) (ok : k.admits x = true)
    (apart : ∀ b, k = .lowLimit b ∨ k = .highLimit b → 100 ≤ (v.write k x).highLimit.nth b - (v.write k x).lowLimit.nth b)
    (band : k = .nearBand ∨ k = .openTol → (v.write k x).openTol < (v.write k x).nearBand) : (v.write k x).inRange := by
  obtain ⟨values, tariff, limits, bands⟩ := h
  have same (j : Setting) (hj : j ≠ k) : (v.write k x).value j = v.value j := value_write_other v k j x hj
  refine ⟨fun j => ?_, fun c => ?_, fun b => ?_, ?_⟩
  · by_cases e : j = k
    · rw [e, value_write_same v k x ok]
      exact ok
    · rw [same j e]
      exact values j
  · rw [tariff_write]
    exact tariff c
  · by_cases e : k = .lowLimit b ∨ k = .highLimit b
    · exact apart b e
    · rw [not_or] at e
      have low : (v.write k x).lowLimit.nth b = v.lowLimit.nth b := same (.lowLimit b) (Ne.symm e.1)
      have high : (v.write k x).highLimit.nth b = v.highLimit.nth b := same (.highLimit b) (Ne.symm e.2)
      rw [low, high]
      exact limits b
  · by_cases e : k = .nearBand ∨ k = .openTol
    · exact band e
    · rw [not_or] at e
      have near : ((v.write k x).nearBand : Int) = v.nearBand := same .nearBand (Ne.symm e.1)
      have tol : ((v.write k x).openTol : Int) = v.openTol := same .openTol (Ne.symm e.2)
      omega

/-- A setting that stands alone. -/
theorem write_inRange_alone {v : Settings} {k : Setting} {x : Int} (h : v.inRange) (ok : k.admits x = true)
    (low : ∀ b, k ≠ .lowLimit b) (high : ∀ b, k ≠ .highLimit b) (near : k ≠ .nearBand) (tol : k ≠ .openTol) :
    (v.write k x).inRange :=
  write_inRange h ok (fun b e => (e.elim (low b) (high b)).elim) fun e => (e.elim near tol).elim

/-- A setting that SETTING_SET takes. -/
theorem write_inRange_taken {v : Settings} {ps : List Passage} {k : Setting} {x : Int} (h : v.inRange)
    (ok : k.admits x = true) (taken : settingRefusal v ps k x ≠ some .together) : (v.write k x).inRange := by
  rw [ne_eq, settingRefusal_together, not_or] at taken
  obtain ⟨limits, bands⟩ := taken
  refine write_inRange h ok (fun b e => ?_) fun e => ?_
  · by_contra close
    exact limits ⟨b, e, by omega⟩
  · by_contra close
    exact bands ⟨e, by omega⟩

theorem withTariff_inRange {v : Settings} {c : Fin 8} {t : Tariff} (h : v.inRange) (ok : t.inRange) :
    (v.withTariff c t).inRange := by
  obtain ⟨values, tariff, limits, bands⟩ := h
  refine ⟨fun k => ?_, fun d => ?_, limits, bands⟩
  · have same : (v.withTariff c t).value k = v.value k := by cases k <;> rfl
    rw [same]
    exact values k
  · rw [show (v.withTariff c t).tariff = v.tariff.put c t from rfl, nth_put]
    split
    · exact ok
    · exact tariff d

/-- The gain and offset that a commit writes lie within their ranges (01/R18). -/
theorem calibrate_ranges {p q : CalPoint} {gain offset : Int} (h : calibrate p q = some (gain, offset)) :
    (1 ≤ gain ∧ gain ≤ 65535) ∧ -32768 ≤ offset ∧ offset ≤ 32767 := by
  have e := calibrate_eq p q
  extract_lets dx dy g o at e
  rw [h] at e
  by_cases c : |dx| < 200 ∨ |dy| < 500 ∨ g < 1 ∨ 65535 < g ∨ o < -32768 ∨ 32767 < o
  · rw [if_pos c] at e
    exact absurd e (Option.some_ne_none _)
  · rw [if_neg c] at e
    obtain ⟨hg, ho⟩ := Prod.mk.inj (Option.some.inj e)
    simp only [not_or, not_lt] at c
    obtain ⟨-, -, lo, hi, lo', hi'⟩ := c
    exact ⟨⟨hg ▸ lo, hg ▸ hi⟩, ho ▸ lo', ho ▸ hi'⟩

theorem default_inRange : Settings.default.inRange := by
  refine ⟨fun k => ?_, fun c => ?_, fun b => ?_, by decide⟩
  · cases k <;> first | rfl | (next i => revert i; decide)
  · unfold Tariff.inRange
    revert c
    decide
  · revert b
    decide

/-! ## The clock (08/R141) -/

theorem tick_inRange {c : Clock} (h : c.inRange) : c.tick.inRange := by
  unfold Clock.tick Clock.inRange at *
  split
  · exact ⟨h.1, by omega⟩
  · exact ⟨by dsimp only; omega, show 0 < 864000 by decide⟩

end Sys2Proof.Machine
end

section
/-! Every command keeps the settings and the clock within their ranges (10/R178, R179; 08/R141). -/

namespace Sys2Proof.Machine

/-- A command keeps the settings and the clock within their ranges. -/
structure Ranged (s t : State) : Prop where
  settings : SettingsInRange s → SettingsInRange t
  clock : s.base.clock.inRange → t.base.clock.inRange

/-- Work that writes no setting, image or clock. -/
theorem ranged_of_eq {s t : State} (hv : t.base.settings = s.base.settings) (hc : t.base.clock = s.base.clock)
    (hn : t.nv = s.nv) (hs : t.link.store = s.link.store) : Ranged s t := by
  refine ⟨fun h => ?_, fun h => by rw [hc]; exact h⟩
  unfold SettingsInRange at h ⊢
  rw [hv, hn, hs]
  exact h

/-- Work that writes the working settings. -/
theorem ranged_of_settings {s t : State} (hv : s.base.settings.inRange → t.base.settings.inRange)
    (hc : t.base.clock = s.base.clock) (hn : t.nv = s.nv) (hs : t.link.store = s.link.store) : Ranged s t := by
  refine ⟨fun ⟨set, image, store⟩ => ⟨hv set, ?_, ?_⟩, fun h => by rw [hc]; exact h⟩
  · rw [hn]
    exact image
  · rw [hs]
    exact store

@[simp] theorem ranged_refl (s : State) : Ranged s s := ⟨id, id⟩

theorem Ranged.trans {s t u : State} (a : Ranged s t) (b : Ranged t u) : Ranged s u :=
  ⟨fun h => b.settings (a.settings h), fun h => b.clock (a.clock h)⟩

@[simp] theorem ranged_deliver (s : State) (f : Flow) : Ranged s (s.deliver f) :=
  ranged_of_eq rfl rfl rfl (placeAll_keeps f.out s.link).2.2.1

@[simp] theorem ranged_conclude (s : State) (f : Flow) : Ranged s (s.conclude f) := ranged_deliver s _

@[simp] theorem ranged_withScanner (s : State) (x : Scanner) : Ranged s (s.withScanner x) := ranged_of_eq rfl rfl rfl rfl
@[simp] theorem ranged_withPins (s : State) (x : Pins) : Ranged s (s.withPins x) := ranged_of_eq rfl rfl rfl rfl
@[simp] theorem ranged_withBooks (s : State) (x : Books) : Ranged s (s.withBooks x) := ranged_of_eq rfl rfl rfl rfl
@[simp] theorem ranged_updGauge (s : State) (c : Fin 8) (fn : Gauge → Gauge) : Ranged s (s.updGauge c fn) :=
  ranged_of_eq rfl rfl rfl rfl

@[simp] theorem ranged_updPort (s : State) (p : Port) (fn : PortRec → PortRec) : Ranged s (s.updPort p fn) :=
  ranged_of_eq rfl rfl rfl (store_setPort _ _ _)

@[simp] theorem ranged_reply (s : State) (p : Port) (kind tag : Nat) (st : Status) (body : List Byte) (a : AfterSent) :
    Ranged s (s.reply p kind tag st body a) := ranged_of_eq rfl rfl rfl (store_setPort _ _ _)

/-- A command with a condition, which otherwise leaves the state. -/
theorem ranged_if {s t : State} (c : Prop) [Decidable c] (h : Ranged s t) : Ranged s (if c then t else s) := by
  split
  · exact h
  · exact ranged_refl s

/-! ## Requests -/

theorem ranged_serve {rq : Rq} {kind required : Nat} {act : State → Answer} {s : State}
    (h : Ranged s (act s).state) : Ranged s (serve rq kind required act s) := by
  by_cases ht : s.takes rq.port = true
  case neg => rw [serve_not_taken (by simpa using ht)]; exact ranged_refl s
  by_cases hc : 2 < rq.claimed
  case pos => rw [serve_bad_level ht hc]; exact ranged_reply ..
  have hc := Nat.not_lt.mp hc
  by_cases hd : required < effectiveLevel s rq
  case pos => rw [serve_denied ht hc hd]; exact ranged_reply ..
  rw [serve_admitted ⟨ht, hc, Nat.not_lt.mp hd⟩]
  split
  · exact h.trans (ranged_reply ..)
  · exact h

theorem ranged_keeperOpen (ready : Base → Plant → Fin 4 → Bool) (g : Fin 4) (s : State) :
    Ranged s (keeperOpen ready g s).state := by
  unfold keeperOpen
  dsimp only
  (repeat' split) <;> simp

theorem ranged_keeperClose (g : Fin 4) (s : State) : Ranged s (keeperClose g s).state := by
  unfold keeperClose
  (repeat' split) <;> simp

theorem ranged_keeperReset (g : Fin 4) (s : State) : Ranged s (keeperReset g s).state := by
  unfold keeperReset
  dsimp only
  (repeat' split) <;> simp

theorem ranged_keeperRelease (g : Fin 4) (s : State) : Ranged s (keeperRelease g s).state := by
  unfold keeperRelease
  dsimp only
  split <;> simp

theorem ranged_gateCommand {act : Fin 4 → State → Answer} (h : ∀ g s, Ranged s (act g s).state) (rq : Rq) (gate : Nat)
    (s : State) : Ranged s (gateCommand rq gate act s) := by
  refine ranged_serve ?_
  dsimp only
  split
  · simp
  · (repeat' split) <;> simp [h]

theorem ranged_passRequest (rq : Rq) (d : Declaration) (s : State) : Ranged s (passRequest rq d s).state := by
  unfold passRequest
  split
  · split
    · simp
    · split
      · next h => rw [plant_of_flightCheck h]; exact ranged_refl s
      · exact Ranged.trans (t := (s.joined _).1) (ranged_of_eq rfl rfl rfl rfl) (ranged_conclude _ _)
  · simp
  · simp

theorem ranged_booked (s : State) (x : Books) (f : Flow) : Ranged s ((s.withBooks x).conclude f) :=
  (ranged_withBooks s x).trans (ranged_conclude _ f)

theorem ranged_settingTaken (s : State) (k : Setting) : Ranged s (s.settingTaken k) := by
  obtain ⟨x, base, -, -, nv, -, -, store, -⟩ := settingTaken_keeps s k
  exact ranged_of_eq (by rw [base]) (by rw [base]) nv store

/-- A calibration committed within its ranges (01/R18). -/
theorem ranged_committed {s : State} {c : Fin 8} {gain offset : Int} (hg : 1 ≤ gain ∧ gain ≤ 65535)
    (ho : -32768 ≤ offset ∧ offset ≤ 32767) : Ranged s (s.committed c gain offset) := by
  have e := committed_eq s c (offset := offset) hg.1
  have place := placeAll_keeps [reportNow s.base .water 0x47 (u1 c.val ++ s4 gain ++ s4 offset)] s.link
  refine ranged_of_settings (fun h => ?_) (by rw [e]) (by rw [e]) (by rw [e]; exact place.2.2.1)
  have written := write_inRange_alone (write_inRange_alone h (k := .gain c) (x := gain) (by simp [Setting.admits, Setting.range, hg])
    nofun nofun nofun nofun) (k := .offset c) (x := offset) (by simp [Setting.admits, Setting.range, ho]) nofun nofun nofun nofun
  rw [e]
  exact written

/-- Every request keeps the ranges. -/
theorem runRequest_ranged (i : Instr) (s : State) : ∃ t, runRequest i s = .next t ∧ Ranged s t := by
  cases i
  case gateCmdOpen | gateCmdForceOpen => exact ⟨_, rfl, ranged_gateCommand (ranged_keeperOpen _) _ _ _⟩
  case gateCmdClose => exact ⟨_, rfl, ranged_gateCommand ranged_keeperClose _ _ _⟩
  case gateCmdReset => exact ⟨_, rfl, ranged_gateCommand ranged_keeperReset _ _ _⟩
  case gateCmdRelease => exact ⟨_, rfl, ranged_gateCommand ranged_keeperRelease _ _ _⟩
  case status rq => exact ⟨_, rfl, ranged_serve (ranged_updPort s rq.port fun k => { k with overflow := false })⟩
  case subscribe rq mask =>
    refine ⟨_, rfl, ranged_serve ?_⟩
    dsimp only
    split
    · exact ranged_refl s
    · exact ranged_updPort s rq.port fun k => { k with mask := _ }
  case netLevel rq level =>
    refine ⟨_, rfl, ranged_serve ?_⟩
    dsimp only
    split
    · next ok =>
      refine ranged_of_settings (fun h => ?_) rfl rfl rfl
      exact write_inRange_alone (k := .networkCeiling) (x := level) h
        (by simp only [Setting.admits, Setting.range]; obtain rfl | rfl := ok <;> rfl) nofun nofun nofun nofun
    · exact ranged_refl s
  case settingsStore =>
    refine ⟨_, rfl, ranged_serve ?_⟩
    dsimp only
    split
    · exact ranged_refl s
    · refine ⟨fun ⟨set, image, _⟩ => ⟨set, image, ?_⟩, id⟩
      rintro _ ⟨⟩
      exact set
  case settingSet =>
    refine ⟨_, rfl, ranged_serve ?_⟩
    dsimp only
    split
    · simp
    · split
      · simp
      · next k ok =>
        split
        · simp
        · simp
        · next none =>
          refine Ranged.trans ?_ (ranged_settingTaken _ _)
          refine ranged_of_settings (fun h => ?_) rfl rfl rfl
          exact write_inRange_taken (ps := s.plant.passages) h (by simpa using ok) (by rw [none]; nofun)
  case tariffSet =>
    refine ⟨_, rfl, ranged_serve ?_⟩
    dsimp only
    split
    · simp
    · simp
    · next ok => exact ranged_of_settings (fun h => withTariff_inRange h (badTariff_iff.mp ok)) rfl rfl rfl
  case clockSet rq hour minute second day =>
    refine ⟨_, rfl, ranged_serve ?_⟩
    dsimp only
    (repeat' split) <;> first | exact ranged_refl s | skip
    have last : day ≤ 65535 := by omega
    have midnight : ((hour * 60 + minute) * 60 + second) * 10 < 864000 := by omega
    exact ⟨id, fun _ => ⟨last, midnight⟩⟩
  case calCommit =>
    refine ⟨_, rfl, ranged_serve ?_⟩
    dsimp only
    (repeat' split) <;> first | exact ranged_refl s | skip
    next cal =>
      obtain ⟨hg, ho⟩ := calibrate_ranges cal
      exact ranged_committed hg ho
  case passRequest => exact ⟨_, rfl, ranged_serve (ranged_passRequest _ _ _)⟩
  case cleared | remove | logDrop =>
    refine ⟨_, rfl, ranged_serve ?_⟩
    dsimp only
    (repeat' split) <;> simp [ranged_booked]
  case periodClose =>
    refine ⟨_, rfl, ranged_serve (Ranged.trans ?_ (ranged_deliver _ _))⟩
    exact ranged_of_eq rfl rfl rfl rfl
  case standdown =>
    refine ⟨_, rfl, ranged_serve ?_⟩
    dsimp only
    split <;> simp
  case flightClose | flightOpen => exact ⟨_, rfl, ranged_serve (ranged_conclude _ _)⟩
  case powerOn | warmStart | powerLoss | receiveByte | framingErrorByte | frameGapTimeout | frameTaken | transmitterFree
      | settingsStoreDone | scan | floodCleared | calCaptured | gateLimitInput | beamInput | beamClearExpiry | travelTimeout
      | sluicePositionInput | sluiceStepTimeout | intervalMet | stepTimerExpiry | levellingComplete | levellingTimeLimit
      | suspensionTimeout | clearanceMarginExpiry | lampFail | lampCurrentInput | lampStray | idleHoldExpiry
      | preparationRetryExpiry | drawLeavesWindow | drawEntryExpiry | entryBerthExpiry | shiftBerthExpiry | overdueRepeat
      | mainsInput | batteryInput | deadlineExpiry => exact ⟨s, rfl, ranged_refl s⟩
  all_goals
    refine ⟨_, rfl, ranged_serve ?_⟩
    try dsimp only
    (repeat' split) <;> simp

/-! ## The lines and the supply -/

theorem ranged_afterSent (s : State) (a : AfterSent) : Ranged s (s.afterSent a) := by
  cases a
  · exact ranged_refl s
  · exact ranged_of_eq rfl rfl rfl rfl
  · exact ranged_updPort s _ fun k => { k with rate := _, asm := .hunting }

theorem ranged_finishSending (s : State) (p : Port) : Ranged s (s.finishSending p) := by
  unfold State.finishSending
  split
  · exact ranged_refl s
  · next o _ =>
    exact (ranged_updPort s p fun k => { k with sending := none }).trans (ranged_afterSent _ _)

theorem ranged_payOwed (s : State) (p : Port) : Ranged s (s.payOwed p) := by
  unfold State.payOwed
  (repeat' split) <;> first | exact ranged_refl s | exact (ranged_updPort s p _).trans (ranged_reply ..)

theorem ranged_joinBuffer (s : State) (p : Port) (x : Frame) : Ranged s (s.joinBuffer p x) := by
  unfold State.joinBuffer
  (repeat' split) <;> simp

theorem ranged_judgeFrame (p : Port) (x : Frame) (s : State) : ∃ t, judgeFrame p x s = .next t ∧ Ranged s t := by
  unfold judgeFrame
  dsimp only
  (repeat' split) <;> first | exact runRequest_ranged _ s | exact ⟨_, rfl, ranged_reply ..⟩

theorem ranged_frameTaken (p : Port) (s : State) : ∃ t, execFrameTaken p s = .next t ∧ Ranged s t := by
  unfold execFrameTaken
  split
  · split
    · exact ⟨s, rfl, ranged_refl s⟩
    · next x rest _ =>
      obtain ⟨t, e, h⟩ := ranged_judgeFrame p x (s.updPort p fun k => { k with buffer := rest })
      exact ⟨t, e, (ranged_updPort s p _).trans h⟩
  · exact ⟨s, rfl, ranged_refl s⟩

theorem ranged_transmitterFree (p : Port) (s : State) : ∃ t, execTransmitterFree p s = .next t ∧ Ranged s t := by
  refine ⟨_, rfl, ranged_if _ ?_⟩
  dsimp only
  refine (ranged_finishSending s p).trans ?_
  split
  · exact ranged_refl _
  · exact (ranged_updPort _ p _).trans (ranged_payOwed _ p)

/-- The image written is the one that was copied (10/R179). -/
theorem ranged_settingsStoreDone (s : State) : ∃ t, execSettingsStoreDone s = .next t ∧ Ranged s t := by
  refine ⟨_, rfl, ?_⟩
  split
  · next st _ found =>
    have written : Ranged s { s with
        nv := ⟨true, st.image⟩, link := { s.link with store := none, settingsDefaulted := false } } :=
      ⟨fun ⟨set, _, store⟩ => ⟨set, store st found, nofun⟩, id⟩
    refine written.trans ?_
    unfold State.storeReply
    dsimp only
    split
    · exact ranged_reply ..
    · exact ranged_updPort _ st.port fun k => { k with owed := some st.tag }
  · exact ranged_refl s

theorem settings_imageNow (s : State) : s.imageNow.settings = s.nv.settings := by
  unfold State.imageNow
  split <;> rfl

theorem ranged_losePower (s : State) : Ranged s s.losePower := by
  refine ⟨fun ⟨set, image, _⟩ => ⟨set, ?_, nofun⟩, id⟩
  exact (congrArg Settings.inRange (settings_imageNow s)).mpr image

/-- A start takes the stored image, or the defaults (10/R179; 09/R166). -/
theorem ranged_start (cold kept : Bool) (s : State) : Ranged s (s.start cold kept) := by
  unfold State.start
  refine Ranged.trans ?_ (ranged_deliver _ _)
  refine ⟨fun ⟨set, image, _⟩ => ?_, fun h => ?_⟩
  · have image : s.imageNow.settings.inRange := by
      rw [settings_imageNow]
      exact image
    refine ⟨?_, image, nofun⟩
    dsimp only [startBase]
    split
    · exact image
    · exact default_inRange
  · dsimp only [startBase]
    split
    · exact ⟨Nat.zero_le _, by decide⟩
    · exact h

/-! ## Every command -/

theorem ranged_input (s : State) (x : Pins) (f : Flow) (c : Prop) [Decidable c] :
    Ranged s (if c then (s.withPins x).conclude f else s.withPins x) := by
  split
  · exact (ranged_withPins s x).trans (ranged_conclude _ f)
  · exact ranged_withPins s x

theorem exec_ranged (i : Instr) (s : State) : ∃ t, exec i s = .next t ∧ Ranged s t := by
  have request := runRequest_ranged i s
  cases i
  case powerOn kept =>
    refine ⟨_, rfl, ?_⟩
    split
    · exact (ranged_losePower s).trans (ranged_start _ _ _)
    · exact ranged_start _ _ _
  case warmStart => exact ⟨_, rfl, ranged_if _ (ranged_start _ _ s)⟩
  case powerLoss => exact ⟨_, rfl, ranged_if _ (ranged_losePower s)⟩
  case receiveByte p b =>
    refine ⟨_, rfl, ranged_if _ ?_⟩
    split
    · exact ranged_updPort ..
    · exact (ranged_updPort s p _).trans (ranged_joinBuffer _ p _)
  case framingErrorByte | frameGapTimeout => exact ⟨_, rfl, ranged_if _ (ranged_updPort ..)⟩
  case frameTaken p => exact ranged_frameTaken p s
  case transmitterFree p => exact ranged_transmitterFree p s
  case settingsStoreDone => exact ranged_settingsStoreDone s
  case scan | floodCleared => exact ⟨_, rfl, ranged_if _ ((ranged_withScanner s _).trans (ranged_conclude _ _))⟩
  case calCaptured c =>
    refine ⟨_, rfl, ?_⟩
    split
    · exact ranged_if _ (Ranged.trans (t := s.updShown c _) (ranged_of_eq rfl rfl rfl rfl) (ranged_deliver _ _))
    · exact ranged_refl s
  case gateLimitInput | beamInput | sluicePositionInput | lampCurrentInput | mainsInput | batteryInput =>
    exact ⟨_, rfl, ranged_input s _ _ _⟩
  case drawEntryExpiry => exact ⟨_, rfl, ranged_if _ (ranged_deliver s _)⟩
  case beamClearExpiry | travelTimeout | sluiceStepTimeout | intervalMet | stepTimerExpiry | levellingTimeLimit
      | suspensionTimeout | clearanceMarginExpiry | lampFail | lampStray | drawLeavesWindow | deadlineExpiry
      | levellingComplete => exact ⟨_, rfl, ranged_if _ (ranged_conclude s _)⟩
  case idleHoldExpiry | entryBerthExpiry | shiftBerthExpiry | overdueRepeat | preparationRetryExpiry =>
    refine ⟨_, rfl, ?_⟩
    (repeat' split) <;> simp
  all_goals exact request

/-- Settles O45: the state at reset; the step is a command or the time base, which advances the clock. -/
theorem invariantsHoldAtReset : Obligations.InvariantsHoldAtReset := by
  refine ⟨⟨?console, ?network⟩, ?signals, ⟨Nat.zero_le _, by decide⟩,
    ⟨default_inRange, default_inRange, nofun⟩, fun s t hstep => ?step⟩
  case console | network =>
    unfold PortRec.bounded
    decide
  case signals =>
    refine safe_of_stopping fun k => ?_
    revert k
    decide
  case step =>
    suffices h : Ranged s t from ⟨h.settings, h.clock⟩
    unfold step at hstep
    split at hstep
    · obtain rfl := Host.Outcome.next.inj hstep
      unfold tick
      exact ranged_if _ ⟨id, tick_inRange⟩
    · next c rest _ =>
      obtain ⟨u, e, h⟩ := exec_ranged c (s.withPending rest)
      obtain rfl := Host.Outcome.next.inj (e.symm.trans hstep)
      exact Ranged.trans (t := s.withPending rest) (ranged_of_eq rfl rfl rfl rfl) h

end Sys2Proof.Machine
end

section
/-! The start sequence and the loss of power (02/R43, 04/R80, 05/R99, 06/R117, 07/R137, 09/R166, R167; 10/R169, R179). -/

namespace Sys2Proof.Machine

/-! ## The passages at a start (05/R99) -/

/-- A passage kept at a start. -/
def Passage.started (v : Settings) (x : Passage) : Passage :=
  { x with bypass := min x.bypass v.bypassLimit, st := if x.st.waits then x.st else .unresolved }

theorem unfit_iff {v : Settings} {x : Passage} : unfit v x = true ↔
    x.st.waits = true ∧ (v.flightLength < x.length ∨ min v.maxBeam v.flightWidth < x.beam) := by
  simp [unfit]

theorem waits_started (v : Settings) (x : Passage) : (x.started v).st.waits = x.st.waits := by
  unfold Passage.started
  cases h : x.st.waits
  · rfl
  · exact h

theorem unfit_started (v : Settings) (x : Passage) : unfit v (x.started v) = unfit v x := by
  unfold unfit
  rw [waits_started]
  rfl

theorem started_started (v : Settings) (x : Passage) : (x.started v).started v = x.started v := by
  have waits := waits_started v x
  have st : (if (x.started v).st.waits = true then (x.started v).st else PassSt.unresolved) = (x.started v).st := by
    rw [waits]
    unfold Passage.started
    split <;> rfl
  rw [Passage.started, st]
  simp only [Passage.started, min_assoc, min_self]

/-- What a start makes of one passage. -/
def startedPassage (v : Settings) (x : Passage) : Option Passage := if unfit v x then none else some (x.started v)

section Passage

variable (v : Base) (n : Nat) (f : Flow)

theorem startPassage_none (h : f.toPlant.passage? n = none) : startPassage v n f = f := by
  unfold startPassage
  simp only [h]

theorem startPassage_unfit {x : Passage} (h : f.toPlant.passage? n = some x) (u : unfit v.settings x = true) :
    startPassage v n f = endPassage v x .withdrawn 0 f := by
  unfold startPassage
  simp only [h]
  rw [if_pos u]

/-- A passage with its bypass count lowered to the limit. -/
def Passage.lowered (v : Settings) (x : Passage) : Passage := { x with bypass := min x.bypass v.bypassLimit }

/-- A passage made UNRESOLVED. -/
def Passage.unresolved (x : Passage) : Passage := { x with st := .unresolved }

theorem startPassage_fit {x : Passage} (h : f.toPlant.passage? n = some x) (u : unfit v.settings x = false) :
    startPassage v n f = if x.st.waits = true ∨ x.st = .unresolved then setPassage n (Passage.lowered v.settings) f
      else changePassage v n .start Passage.unresolved (setPassage n (Passage.lowered v.settings) f) := by
  unfold startPassage
  simp only [h]
  rw [if_neg (by rw [u]; decide)]
  rfl

/-- The passages at a start: the one with the number, and the others. -/
theorem startPassage_leaves : OnlyPassages f (startPassage v n f)
    ∧ (∀ x, f.toPlant.passage? n = some x → (startPassage v n f).toPlant.passage? n = startedPassage v.settings x)
    ∧ ∀ m, (m ≠ n ∨ f.toPlant.passage? m = none) → (startPassage v n f).toPlant.passage? m = f.toPlant.passage? m := by
  cases h : f.toPlant.passage? n with
  | none =>
    rw [startPassage_none v n f h]
    exact ⟨rfl, fun x hx => absurd hx (Option.some_ne_none x).symm, fun _ _ => rfl⟩
  | some x =>
    have some_x {p : Option Passage → Prop} (hp : p (startedPassage v.settings x)) :
        ∀ y, some x = some y → p (startedPassage v.settings y) := by
      rintro _ ⟨⟩
      exact hp
    have other {m : Nat} (hm : m ≠ n ∨ f.toPlant.passage? m = none) : m ≠ n := by
      rintro rfl
      exact hm.elim (fun c => c rfl) fun c => absurd (h.symm.trans c) (Option.some_ne_none x)
    cases u : unfit v.settings x with
    | true =>
      have plant : (startPassage v n f).toPlant = { f.toPlant with passages := f.passages.filter fun y => y.number ≠ n } := by
        rw [startPassage_unfit v n f h u, ← number_of_passage? h]
        rfl
      have gone (m : Nat) : (startPassage v n f).toPlant.passage? m = if m = n then none else f.toPlant.passage? m := by
        rw [plant, Plant.passage?, Plant.passage?, List.find?_filter]
        split
        · next e => simp [e]
        · next e =>
          congr 1
          funext y
          by_cases c : y.number = m
          · simp [c, e]
          · simp [c]
      refine ⟨?_, some_x ?_, fun m hm => ?_⟩
      · unfold OnlyPassages
        rw [plant]
      · rw [gone, if_pos rfl, startedPassage, if_pos u]
      · rw [gone, if_neg (other hm)]
    | false =>
      have low := passage?_setPassage_same (fn := Passage.lowered v.settings) (fun _ => rfl) h
      have lowOther {m : Nat} (hm : m ≠ n) := passage?_setPassage_other (fn := Passage.lowered v.settings) (fun _ => rfl) f hm
      have found : startedPassage v.settings x = some (x.started v.settings) := by
        rw [startedPassage, if_neg (by rw [u]; decide)]
      rw [startPassage_fit v n f h u]
      by_cases stays : x.st.waits = true ∨ x.st = .unresolved
      · have same : x.lowered v.settings = x.started v.settings := by
          unfold Passage.lowered Passage.started
          congr 1
          split
          · rfl
          · next w => exact stays.resolve_left w
        rw [if_pos stays]
        refine ⟨rfl, some_x ?_, fun m hm => lowOther (other hm)⟩
        rw [low, found, same]
      · rw [not_or] at stays
        have same : (x.lowered v.settings).unresolved = x.started v.settings := by
          unfold Passage.lowered Passage.unresolved Passage.started
          rw [if_neg stays.1]
        rw [if_neg (not_or.mpr stays)]
        obtain ⟨plant, -, -⟩ := toPlant_changePassage (v := v) (c := .start) (fn := Passage.unresolved) (fun _ => rfl) low
        rw [plant]
        refine ⟨?_, some_x ?_, fun m hm => ?_⟩
        · unfold OnlyPassages
          rw [plant]
          rfl
        · rw [passage?_setPassage_same (fn := Passage.unresolved) (fun _ => rfl) low, found, same]
        · rw [passage?_setPassage_other (fn := Passage.unresolved) (fun _ => rfl) _ (other hm), lowOther (other hm)]

end Passage

/-- All passages at a start. -/
theorem startPassages_leave (v : Base) (ns : List Nat) (f : Flow) : OnlyPassages f (overAll ns (startPassage v) f)
    ∧ (∀ n, f.toPlant.passage? n = none → (overAll ns (startPassage v) f).toPlant.passage? n = none)
    ∧ ∀ n x, f.toPlant.passage? n = some x →
      (n ∉ ns → (overAll ns (startPassage v) f).toPlant.passage? n = some x)
      ∧ (n ∈ ns → (overAll ns (startPassage v) f).toPlant.passage? n = startedPassage v.settings x) := by
  induction ns generalizing f with
  | nil => exact ⟨rfl, fun _ h => h, fun _ _ hx => ⟨fun _ => hx, nofun⟩⟩
  | cons m ms ih =>
    obtain ⟨only, here, other⟩ := startPassage_leaves v m f
    obtain ⟨onlyRest, none, found⟩ := ih (startPassage v m f)
    rw [overAll_cons]
    refine ⟨Eq.trans onlyRest (by rw [show (startPassage v m f).toPlant = _ from only]),
      fun n h => none n ((other n (.inr h)).trans h), fun n x hx => ?_⟩
    by_cases e : n = m
    · subst e
      refine ⟨fun c => absurd List.mem_cons_self c, fun _ => ?_⟩
      have now := here x hx
      cases u : unfit v.settings x with
      | true =>
        have gone : startedPassage v.settings x = .none := if_pos u
        rw [gone] at now ⊢
        exact none n now
      | false =>
        have kept : startedPassage v.settings x = some (x.started v.settings) := if_neg (by rw [u]; decide)
        have again : startedPassage v.settings (x.started v.settings) = some (x.started v.settings) := by
          rw [startedPassage, unfit_started, if_neg (by rw [u]; decide), started_started]
        rw [kept] at now ⊢
        obtain ⟨out, within⟩ := found n _ now
        by_cases later : n ∈ ms
        · exact (within later).trans again
        · exact out later
    · have now := (other n (.inl e)).trans hx
      obtain ⟨out, within⟩ := found n x now
      exact ⟨fun c => out fun l => c (List.mem_cons_of_mem m l), fun c => within ((List.mem_cons.mp c).resolve_left e)⟩

/-! ## The start reports (09/R166) -/

theorem toPlant_startGateReport (v : Base) (g : Fin 4) (f : Flow) : (startGateReport v g f).toPlant = f.toPlant := by
  unfold startGateReport
  split <;> rfl

theorem toPlant_startSluiceReport (v : Base) (g : Fin 4) (f : Flow) : (startSluiceReport v g f).toPlant = f.toPlant := by
  unfold startSluiceReport
  dsimp only
  split <;> rfl

/-- The flow of a start when the passages report. -/
def beforePassages (v : Base) (f : Flow) : Flow :=
  overAll allHeads (fun h f => aspectReport v h (f.heads.nth h) f)
    (overAll allGates (startSluiceReport v) (overAll allGates (startGateReport v) f))

theorem toPlant_beforePassages (v : Base) (f : Flow) : (beforePassages v f).toPlant = f.toPlant := by
  unfold beforePassages
  rw [toPlant_overAll (act := fun h f => aspectReport v h (f.heads.nth h) f) fun h f => rfl, toPlant_overAll fun g f => toPlant_startSluiceReport v g f,
    toPlant_overAll fun g f => toPlant_startGateReport v g f]

/-- The flow of a start when FLIGHT_STATE is raised. -/
def beforeFlight (v : Base) (f : Flow) : Flow :=
  let k := overAll ((beforePassages v f).passages.map (·.number)) (startPassage v) (beforePassages v f)
  overAll (k.batches.map (·.id)) (stepReport v) k

theorem toPlant_beforeFlight (v : Base) (f : Flow) : (beforeFlight v f).toPlant =
    (overAll (f.passages.map (·.number)) (startPassage v) (beforePassages v f)).toPlant := by
  unfold beforeFlight
  dsimp only
  rw [toPlant_overAll fun id f => toPlant_stepReport v id f, toPlant_beforePassages]

theorem toPlant_flightReport (v : Base) (c : StateCause) (f : Flow) : (flightReport v c f).toPlant = f.toPlant := rfl

theorem startReports_eq (v : Base) (f : Flow) : startReports v f = flightReport v .start (beforeFlight v f) := by
  unfold startReports beforeFlight beforePassages
  rfl

theorem startReports_leaves (v : Base) (f : Flow) : let k := startReports v f
    OnlyPassages f k ∧ (f.passages = [] → k.passages = [])
    ∧ (∀ n x, f.toPlant.passage? n = some x → k.toPlant.passage? n = startedPassage v.settings x)
    ∧ k.out = (beforeFlight v f).out ++ [flightNow v k.regime .start] := by
  intro k
  have e : k = flightReport v .start (beforeFlight v f) := startReports_eq v f
  have plant : k.toPlant = (overAll (f.passages.map (·.number)) (startPassage v) (beforePassages v f)).toPlant := by
    rw [e, toPlant_flightReport, toPlant_beforeFlight]
  have before := toPlant_beforePassages v f
  obtain ⟨only, -, found⟩ := startPassages_leave v (f.passages.map (·.number)) (beforePassages v f)
  refine ⟨?_, fun none => ?_, fun n x hx => ?_, ?_⟩
  · unfold OnlyPassages
    rw [plant, show _ = _ from only, before]
  · rw [plant, none]
    exact (congrArg Plant.passages before).trans none
  · rw [plant]
    refine (found n x (by rw [before]; exact hx)).2 (List.mem_map.mpr ⟨x, List.mem_of_find?_eq_some hx, number_of_passage? hx⟩)
  · rw [e, out_flightReport, toPlant_flightReport]

end Sys2Proof.Machine
end

section
/-! What a start leaves, and the loss of power (02/R43, 04/R80, 05/R99, 06/R117, 07/R137, 09/R166, R167; 10/R169, R179). -/

namespace Sys2Proof.Machine

/-! ## The parts of a start -/

/-- The settings a start loads (10/R179). -/
def State.loaded (s : State) : Settings := if s.imageNow.good then s.imageNow.settings else Settings.default

/-- What a start reads. -/
def State.startsOn (cold kept : Bool) (s : State) : Base := startBase cold kept s.loaded s.base

/-- The lines as a start finds them. -/
def State.startLink (kept : Bool) (s : State) : Link where
  console := PortRec.start s.loaded.consoleRate 0b11111#5
  network := PortRec.start s.loaded.networkRate 0b00010#5
  store := none
  restartDue := false
  settingsDefaulted := !s.imageNow.good
  retainedLost := !kept || s.link.retainedLost

/-- The part as a start finds it, before its reports. -/
def State.startsAs (cold kept : Bool) (s : State) : State where
  pending := s.pending
  powered := true
  nv := s.imageNow
  link := s.startLink kept
  base := s.startsOn cold kept
  plant := startPlant cold kept (s.startsOn cold kept) s.plant

/-- The work of a start. -/
def State.startWork (cold kept : Bool) (s : State) : Flow := startReports (s.startsOn cold kept) (s.startsAs cold kept).flow

section Start

variable (cold kept : Bool) (s : State)

theorem start_eq : s.start cold kept = (s.startsAs cold kept).deliver (s.startWork cold kept) := rfl

theorem start_leaves : (s.start cold kept).pending = s.pending ∧ (s.start cold kept).powered = true
    ∧ (s.start cold kept).base = s.startsOn cold kept
    ∧ (s.start cold kept).plant = (s.startWork cold kept).toPlant
    ∧ (s.start cold kept).link = (s.startLink kept).placeAll (s.startWork cold kept).out := by
  rw [start_eq, pending_deliver, powered_deliver, base_deliver, plant_deliver, link_deliver]
  exact ⟨rfl, rfl, rfl, rfl, rfl⟩

theorem base_start : (s.start cold kept).base = s.startsOn cold kept := (start_leaves cold kept s).2.2.1

/-- Of the plant the start reports change the passages alone. -/
theorem plant_start : (s.start cold kept).plant = { startPlant cold kept (s.startsOn cold kept) s.plant with
    passages := (s.start cold kept).plant.passages } := by
  obtain ⟨-, -, -, plant, -⟩ := start_leaves cold kept s
  have only := (startReports_leaves (s.startsOn cold kept) (s.startsAs cold kept).flow).1
  rw [plant]
  exact only

theorem settings_start : (s.start cold kept).base.settings = s.loaded := by
  rw [base_start]
  rfl

theorem settingsDefaulted_start : (s.start cold kept).link.settingsDefaulted = !s.imageNow.good := by
  obtain ⟨-, -, -, -, link⟩ := start_leaves cold kept s
  rw [link]
  exact (placeAll_keeps _ _).2.2.2.2.1

theorem retainedLost_start : (s.start cold kept).link.retainedLost = (!kept || s.link.retainedLost) := by
  obtain ⟨-, -, -, -, link⟩ := start_leaves cold kept s
  rw [link]
  exact (placeAll_keeps _ _).2.2.2.2.2

theorem loaded_image (h : s.nv.good = true ∧ s.link.store = none) :
    s.imageNow.good = true ∧ s.loaded = s.nv.settings := by
  have e : s.imageNow = s.nv := if_neg (by rw [h.2]; decide)
  rw [State.loaded, e, h.1]
  exact ⟨rfl, rfl⟩

theorem loaded_default (h : s.nv.good = false ∨ s.link.store.isSome = true) :
    s.imageNow.good = false ∧ s.loaded = Settings.default := by
  have bad : s.imageNow.good = false := by
    unfold State.imageNow
    split
    · rfl
    · next no => exact h.resolve_right no
  rw [State.loaded, bad]
  exact ⟨rfl, rfl⟩

theorem passages_start (h : kept = false) : (s.start cold kept).plant.passages = [] := by
  obtain ⟨-, -, -, plant, -⟩ := start_leaves cold kept s
  rw [plant]
  refine (startReports_leaves _ _).2.1 ?_
  rw [h]
  rfl

theorem passage?_start (h : kept = true) {n : Nat} {x : Passage} (hx : s.plant.passage? n = some x) :
    (s.start cold kept).plant.passage? n = startedPassage s.loaded x := by
  obtain ⟨-, -, -, plant, -⟩ := start_leaves cold kept s
  rw [plant]
  refine (startReports_leaves (s.startsOn cold kept) _).2.2.1 n x ?_
  rw [h]
  exact hx

theorem link_start : ∃ rs, (s.start cold kept).link = (s.startLink kept).placeAll
    (rs ++ [flightNow (s.startsOn cold kept) (s.start cold kept).plant.regime .start]) := by
  obtain ⟨-, -, -, plant, link⟩ := start_leaves cold kept s
  have out := (startReports_leaves (s.startsOn cold kept) (s.startsAs cold kept).flow).2.2.2
  refine ⟨(beforeFlight (s.startsOn cold kept) (s.startsAs cold kept).flow).out, ?_⟩
  rw [link, plant]
  exact congrArg (s.startLink kept).placeAll out

end Start

/-! ## Gates, sluices and heads at a start (02/R43; 04/R80) -/

theorem startGate_reads (now : Nat) (sh op : Bool) : let x := startGate now sh op
    x.travel = none ∧ x.obstructions = 0 ∧ x.ask = none ∧ x.hold = false ∧ x.lastShut = now
      ∧ (sh = true → op = false → x.st = .shut ∧ x.owner = .none ∧ x.cause = none)
      ∧ (sh = false → op = true → x.st = .opened ∧ x.owner = .none ∧ x.cause = none)
      ∧ (sh = op → x.st = .fault ∧ x.owner = .keeper ∧ x.cause = some (if sh then .limitBoth else .limitLost)) := by
  intro x
  refine ⟨rfl, rfl, rfl, rfl, rfl, ?_, ?_, ?_⟩
  · rintro rfl rfl
    exact ⟨rfl, rfl, rfl⟩
  · rintro rfl rfl
    exact ⟨rfl, rfl, rfl⟩
  · rintro rfl
    cases sh <;> exact ⟨rfl, rfl, rfl⟩

theorem startSluice_reads (now before : Nat) (code : Fin 8) :
    (code.val = 0 → startSluice now before code = ⟨.steady, 0, 0, none⟩)
    ∧ (1 ≤ code.val → code.val ≤ 4 → startSluice now before code = ⟨.moving, code.val, 0, some now⟩)
    ∧ (4 < code.val → startSluice now before code = ⟨.fault, before, 0, none⟩) := by
  unfold startSluice
  refine ⟨fun h => if_pos h, fun lo hi => ?_, fun hi => ?_⟩
  · rw [if_neg (by omega), if_pos hi]
  · rw [if_neg (by omega), if_neg (by omega)]

section Plant

variable (cold kept : Bool) (s : State)

theorem gate_start (g : Fin 4) : (s.start cold kept).plant.gates.nth g =
    startGate (s.startsOn cold kept).elapsed (s.base.pins.shutLimit.nth g) (s.base.pins.openLimit.nth g) := by
  rw [plant_start]
  exact Vector.getElem_ofFn ..

theorem sluice_start (g : Fin 4) : (s.start cold kept).plant.sluices.nth g =
    startSluice (s.startsOn cold kept).elapsed (startPosition cold s.plant g) (s.base.pins.sluicePos.nth g) := by
  rw [plant_start]
  exact Vector.getElem_ofFn ..

theorem head_start (h : Fin 8) : (s.start cold kept).plant.heads.nth h = startHead (s.startsOn cold kept) h := by
  rw [plant_start]
  exact Vector.getElem_ofFn ..

theorem atRest_start (g : Fin 4) : (s.start cold kept).plant.grants.nth g = false
    ∧ (s.start cold kept).plant.channels.nth g = Channel.idle ∧ (s.start cold kept).plant.errands.nth g = none := by
  rw [plant_start]
  exact ⟨Vector.getElem_replicate .., Vector.getElem_replicate .., Vector.getElem_replicate ..⟩

theorem sched_start : (s.start cold kept).plant.sched = startSched kept s.loaded.restDir s.plant.sched := by
  rw [plant_start]
  rfl

theorem regime_start : (s.start cold kept).plant.regime = startRegime (s.startsOn cold kept) := by
  rw [plant_start]
  rfl

theorem batches_start : (s.start cold kept).plant.batches =
    if kept then s.plant.batches.map (startBatch (s.startsOn cold kept).elapsed) else [] := by
  rw [plant_start]
  rfl

end Plant

theorem deadline_startRegime (v : Base) : (startRegime v).deadline = .idle ↔ v.pins.mains = true := by
  unfold startRegime startDeadline
  cases v.pins.mains <;> simp

/-- Settles O46: POWER_ON of a part without power; what a start leaves; the loss of power. -/
theorem powerOnStartsAndPowerLossStops : Obligations.PowerOnStartsAndPowerLossStops := by
  unfold Obligations.PowerOnStartsAndPowerLossStops
  have turnsOn (kept : Bool) (s : State) (off : s.powered = false) : exec (.powerOn kept) s = .next (s.start true kept) :=
    congrArg (fun t : State => Host.Outcome.next (t.start true kept)) (if_neg (by rw [off]; decide))
  refine ⟨fun kept s off => ?on, turnsOn, fun cold kept s => ?start, fun s hp => ?loss⟩
  case on =>
    have sched := sched_start true kept s
    have regime := regime_start true kept s
    have plant := plant_start true kept s
    have base := base_start true kept s
    refine ⟨s.start true kept, turnsOn kept s off, (start_leaves true kept s).2.1, by rw [base]; rfl, by rw [base]; rfl,
      by rw [regime]; rfl, by rw [regime]; rfl, by rw [regime]; rfl, by rw [regime]; rfl, by rw [regime]; rfl,
      by rw [regime]; exact deadline_startRegime _, by rw [sched]; rfl, fun g => (atRest_start true kept s g).2.1,
      fun h => ?kept, fun h => ?lost⟩
    case kept =>
      subst h
      exact ⟨by rw [plant]; rfl, by rw [plant]; rfl, by rw [base]; rfl, by rw [base]; rfl, by rw [sched]; rfl,
        by rw [sched]; rfl⟩
    case lost =>
      have empty := passages_start true kept s h
      subst h
      exact ⟨by rw [plant]; rfl, empty, by rw [plant]; rfl, by rw [batches_start]; rfl, by rw [base]; rfl, by rw [base]; rfl,
        by rw [sched]; rfl, by rw [sched]; rfl, by rw [retainedLost_start]; rfl⟩
  case start =>
    intro t now
    have sched : t.plant.sched = _ := sched_start cold kept s
    have regime : t.plant.regime = _ := regime_start cold kept s
    have base : t.base = s.startsOn cold kept := base_start cold kept s
    have set : t.base.settings = s.loaded := settings_start cold kept s
    have defaulted : t.link.settingsDefaulted = !s.imageNow.good := settingsDefaulted_start cold kept s
    have clock : now = (s.startsOn cold kept).elapsed := congrArg Base.elapsed base
    have plant : t.plant = _ := plant_start cold kept s
    refine ⟨(start_leaves cold kept s).1, (start_leaves cold kept s).2.1, by rw [base]; rfl, by rw [base]; rfl, fun h => ?image,
      fun h => ?default, fun g => ?gate, fun g => ?sluice, fun g => atRest_start cold kept s g, by rw [plant]; rfl, fun h => ?head,
      by rw [sched]; rfl, by rw [sched]; rfl, by rw [sched]; rfl, by rw [sched]; rfl, by rw [sched]; rfl,
      by rw [sched, set]; rfl, by rw [regime]; rfl, by rw [regime]; rfl, by rw [regime]; rfl, by rw [regime]; rfl,
      fun k => ?batches, fun k n x hx => ?passages, ?link⟩
    case image =>
      obtain ⟨good, loaded⟩ := loaded_image s h
      rw [set, defaulted, good]
      exact ⟨loaded, rfl⟩
    case default =>
      obtain ⟨bad, loaded⟩ := loaded_default s h
      rw [set, defaulted, bad]
      exact ⟨loaded, rfl⟩
    case gate =>
      rw [clock, show t.plant.gates.nth g = _ from gate_start cold kept s g]
      exact startGate_reads _ _ _
    case sluice =>
      obtain ⟨shut, driven, lost⟩ := startSluice_reads (s.startsOn cold kept).elapsed (startPosition cold s.plant g)
        (s.base.pins.sluicePos.nth g)
      rw [clock, show t.plant.sluices.nth g = _ from sluice_start cold kept s g]
      refine ⟨shut, driven, fun c => ?_⟩
      rw [lost c]
      refine ⟨rfl, rfl, fun warm => ?_⟩
      rw [warm]
      rfl
    case head =>
      rw [clock, show t.plant.heads.nth h = _ from head_start cold kept s h]
      exact ⟨rfl, rfl, rfl, rfl, rfl, rfl, rfl, rfl⟩
    case batches =>
      rw [clock, show t.plant.batches = _ from batches_start cold kept s, k]
      rfl
    case passages =>
      rw [set, show t.plant.passage? n = _ from passage?_start cold kept s k hx]
      exact ⟨fun u => if_pos (unfit_iff.mpr u), fun u => if_neg (mt unfit_iff.mp u)⟩
    case link =>
      obtain ⟨rs, link⟩ := link_start cold kept s
      rw [defaulted, set, base]
      exact ⟨rs, link⟩
  case loss =>
    refine ⟨s.losePower, congrArg _ (if_pos hp), rfl, rfl, rfl, fun p => ?_, fun g => ?_, fun h l => ?_⟩
    · cases p <;> exact ⟨rfl, rfl, rfl, rfl⟩
    · simp [State.drives, State.losePower, Tbl.nth]
    · cases l <;> simp [State.drives, State.losePower, Tbl.nth, Lamps.nth]

end Sys2Proof.Machine
end

section
/-! The stand-down progress: what it awaits, the left list, and how an awaited gate or sluice comes to its end
(09/R162, R163). -/

namespace Sys2Proof.Machine

/-! ## What is awaited -/

/-- A stand-down in progress awaits gate `g`, or its sluice. -/
def Progress.awaits (p : Progress) (sl : Bool) (g : Fin 4) : Bool := if sl then p.sluices.nth g else p.gates.nth g

def Regime.awaits (r : Regime) (sl : Bool) (g : Fin 4) : Bool := r.progress.any fun p => p.awaits sl g

/-- The progress with the wait for gate `g`, or for its sluice, set. -/
def Progress.putAwait (sl : Bool) (g : Fin 4) (x : Bool) (p : Progress) : Progress :=
  if sl then { p with sluices := p.sluices.put g x } else { p with gates := p.gates.put g x }

def setAwait (sl : Bool) (g : Fin 4) (x : Bool) (f : Flow) : Flow := setProgress (Progress.putAwait sl g x) f

theorem awaits_putAwait_same (sl : Bool) (g : Fin 4) (x : Bool) (p : Progress) : (p.putAwait sl g x).awaits sl g = x := by
  cases sl <;> exact Tbl.nth_put_same _ _ _

theorem awaits_putAwait_other {sl sl' : Bool} {g k : Fin 4} (h : ¬ (sl' = sl ∧ k = g)) (x : Bool) (p : Progress) :
    (p.putAwait sl g x).awaits sl' k = p.awaits sl' k := by
  cases sl <;> cases sl'
  case false.true | true.false => rfl
  all_goals exact Tbl.nth_put_other _ _ _ _ fun e => h ⟨rfl, e.symm⟩

theorem awaits_of_progress {r : Regime} {p : Progress} (h : r.progress = some p) (sl : Bool) (g : Fin 4) :
    r.awaits sl g = p.awaits sl g := by
  rw [Regime.awaits, h]
  rfl

/-! ## The change of one entry -/

/-- From `r` to `q` the regime record changes in what is awaited of gate `g` or of its sluice, and in that one's entry on
the left list; a stand-down in progress stays so. -/
structure RegimeAt (sl : Bool) (g : Fin 4) (r q : Regime) : Prop where
  rest : q = { r with left := q.left, progress := q.progress }
  awaits : ∀ sl' k, ¬ (sl' = sl ∧ k = g) → q.awaits sl' k = r.awaits sl' k
  left : ∀ e : LeftEntry, ¬ (e.sluice = sl ∧ e.index = g) → (e ∈ q.left ↔ e ∈ r.left)
  underway : ∀ p, r.progress = some p → ∃ p', q.progress = some p' ∧ p'.since = p.since ∧ p'.heads = p.heads

theorem regimeAt_refl (sl : Bool) (g : Fin 4) (r : Regime) : RegimeAt sl g r r :=
  ⟨rfl, fun _ _ _ => rfl, fun _ _ => Iff.rfl, fun p h => ⟨p, h, rfl, rfl⟩⟩

section One

variable (sl : Bool) (g : Fin 4) (f : Flow)

theorem mem_addLeft (r : LeftReason) (e : LeftEntry) : e ∈ (addLeft sl g r f).regime.left ↔
    (e ∈ f.regime.left ∧ ¬ (e.sluice = sl ∧ e.index = g)) ∨ e = ⟨sl, g, r⟩ := by
  have shape : (addLeft sl g r f).regime.left
      = (f.regime.left.filter fun e => e.sluice != sl || e.index != g) ++ [⟨sl, g, r⟩] := rfl
  rw [shape, List.mem_append, List.mem_filter, List.mem_singleton, Bool.or_eq_true, bne_iff_ne, bne_iff_ne, not_and_or]

/-- The entry put on the left list is the only one of its gate or sluice. -/
theorem mem_addLeft_same (r r' : LeftReason) : (⟨sl, g, r'⟩ : LeftEntry) ∈ (addLeft sl g r f).regime.left ↔ r' = r := by
  rw [mem_addLeft]
  constructor
  · rintro (⟨-, no⟩ | e)
    · exact absurd ⟨rfl, rfl⟩ no
    · exact congrArg LeftEntry.reason e
  · rintro rfl
    exact .inr rfl

theorem regimeAt_addLeft (r : LeftReason) : RegimeAt sl g f.regime (addLeft sl g r f).regime where
  rest := rfl
  awaits _ _ _ := rfl
  left e h := by
    rw [mem_addLeft]
    exact ⟨fun k => k.elim And.left fun k => absurd (by rw [k]; exact ⟨rfl, rfl⟩) h, fun k => .inl ⟨k, h⟩⟩
  underway p h := ⟨p, h, rfl, rfl⟩

variable (x : Bool)

theorem progress_setAwait : (setAwait sl g x f).regime.progress = f.regime.progress.map (Progress.putAwait sl g x) := rfl

theorem awaits_setAwait_same (h : f.regime.progress.isSome = true) : (setAwait sl g x f).regime.awaits sl g = x := by
  obtain ⟨p, hp⟩ := Option.isSome_iff_exists.mp h
  rw [awaits_of_progress (p := p.putAwait sl g x) (by rw [progress_setAwait, hp]; rfl), awaits_putAwait_same]

theorem regimeAt_setAwait : RegimeAt sl g f.regime (setAwait sl g x f).regime where
  rest := rfl
  awaits sl' k h := by
    cases hp : f.regime.progress with
    | none => rw [Regime.awaits, Regime.awaits, progress_setAwait, hp]; rfl
    | some p =>
      rw [awaits_of_progress (p := p.putAwait sl g x) (by rw [progress_setAwait, hp]; rfl), awaits_of_progress hp,
        awaits_putAwait_other h]
  left _ _ := Iff.rfl
  underway p h := ⟨p.putAwait sl g x, by rw [progress_setAwait, h]; rfl, by cases sl <;> exact ⟨rfl, rfl⟩⟩

end One

/-! ## The outcomes (09/R163) -/

/-- A sluice that is not awaited, or that has neither failed nor come to rest at 0. -/
theorem settleSluice_waits {g : Fin 4} {f : Flow} (h : f.regime.awaits true g = true → (f.sluices.nth g).st ≠ .fault
    ∧ ¬ ((f.sluices.nth g).st = .steady ∧ (f.sluices.nth g).pos = 0)) : settleSluice g f = f := by
  unfold settleSluice
  dsimp only
  by_cases a : f.regime.awaits true g = true
  · obtain ⟨sound, moving⟩ := h a
    rw [if_neg (by rw [show (f.regime.progress.any fun p => p.sluices.nth g) = true from a]; decide), if_neg sound,
      if_neg moving]
  · exact if_pos (Bool.not_eq_true _ ▸ a)

section Awaited

variable {g : Fin 4} {f : Flow}

theorem settleSluice_failed (h : f.regime.awaits true g = true) (st : (f.sluices.nth g).st = .fault) :
    settleSluice g f = addLeft true g .fault (setAwait true g false f) := by
  have h : (f.regime.progress.any fun p => p.sluices.nth g) = true := h
  unfold settleSluice
  dsimp only
  rw [if_neg (by rw [h]; decide), if_pos st]
  rfl

theorem settleSluice_done (h : f.regime.awaits true g = true) (st : (f.sluices.nth g).st = .steady)
    (pos : (f.sluices.nth g).pos = 0) : settleSluice g f = setAwait true g false f := by
  have h : (f.regime.progress.any fun p => p.sluices.nth g) = true := h
  unfold settleSluice
  dsimp only
  rw [if_neg (by rw [h]; decide), if_neg (by rw [st]; decide), if_pos ⟨st, pos⟩]
  rfl

/-- What an awaited gate has come to, where it has not shut. -/
def Gate.outcome (v : Base) (g : Fin 4) (x : Gate) : Option LeftReason :=
  if x.st = .fault then some .fault
  else if x.st = .stopped ∧ (x.hold = true ∨ v.pins.beam.nth g = true) then some .obstructed else none

theorem settleGate_idle {v : Base} (h : f.regime.awaits false g = false) : settleGate v g f = f := if_pos h

variable {v : Base} (h : f.regime.awaits false g = true)

include h

theorem settleGate_shut (st : (f.gates.nth g).st = .shut) : settleGate v g f = setAwait false g false f := by
  have h : (f.regime.progress.any fun p => p.gates.nth g) = true := h
  unfold settleGate
  simp only [h, st]
  rfl

theorem settleGate_failed {r : LeftReason} (o : (f.gates.nth g).outcome v g = some r) :
    settleGate v g f = addLeft false g r (setAwait false g false f) := by
  have h : (f.regime.progress.any fun p => p.gates.nth g) = true := h
  unfold Gate.outcome at o
  unfold settleGate
  split at o
  · next st =>
    obtain rfl : LeftReason.fault = r := Option.some.inj o
    simp only [h, st]
    rfl
  · split at o
    · next c =>
      obtain rfl : LeftReason.obstructed = r := Option.some.inj o
      obtain ⟨st, held⟩ := c
      simp only [h, st, Bool.or_eq_true, held, if_true]
      rfl
    · cases o

theorem settleGate_waits (st : (f.gates.nth g).st ≠ .shut) (o : (f.gates.nth g).outcome v g = none) :
    settleGate v g f = f := by
  have h : (f.regime.progress.any fun p => p.gates.nth g) = true := h
  unfold Gate.outcome at o
  unfold settleGate
  simp only [h]
  cases e : (f.gates.nth g).st with
  | shut => exact absurd e st
  | fault => rw [e] at o; cases o
  | stopped =>
    rw [e] at o
    by_cases held : (f.gates.nth g).hold = true ∨ v.pins.beam.nth g = true
    · simp [held] at o
    · simp [held]
  | opened | opening | closing => rfl

end Awaited

/-- The end of an awaited gate or sluice: it is no longer awaited, and is on the left list where it failed. -/
theorem ends_at {sl : Bool} {g : Fin 4} {f : Flow} {p : Progress} (h : f.regime.progress = some p) :
    (setAwait sl g false f).regime = { f.regime with progress := some (p.putAwait sl g false) }
    ∧ ∀ r, (addLeft sl g r (setAwait sl g false f)).regime.progress = some (p.putAwait sl g false)
      ∧ (⟨sl, g, r⟩ : LeftEntry) ∈ (addLeft sl g r (setAwait sl g false f)).regime.left := by
  have e : (setAwait sl g false f).regime.progress = some (p.putAwait sl g false) := by rw [progress_setAwait, h]; rfl
  refine ⟨?_, fun r => ⟨e, (mem_addLeft_same _ _ _ _ _).mpr rfl⟩⟩
  rw [← e]
  rfl

/-! ## The whole round (09/R163) -/

section Round

variable {v : Base} {f : Flow} {p : Progress} (hp : f.regime.progress = some p) (hg : ∀ g, p.gates.nth g = false)
  (hs : ∀ g, p.sluices.nth g = false)

include hp hg hs

/-- Nothing of the gates and sluices is awaited. -/
theorem settleAll_idle : overAll allGates settleSluice (overAll allGates (settleGate v) f) = f := by
  have gates (gs : List (Fin 4)) : overAll gs (settleGate v) f = f := by
    induction gs with
    | nil => rfl
    | cons g gs ih => rw [overAll_cons, settleGate_idle (by rw [awaits_of_progress hp]; exact hg g), ih]
  have sluices (gs : List (Fin 4)) : overAll gs settleSluice f = f := by
    induction gs with
    | nil => rfl
    | cons g gs ih =>
      rw [overAll_cons, settleSluice_waits fun a => ?_, ih]
      rw [awaits_of_progress hp, show p.awaits true g = false from hs g] at a
      cases a
  rw [gates, sluices]

omit hp in
theorem settled_heads (heads : Bool) : ({ p with heads := heads } : Progress).settled = !heads := by
  have none {t : Tbl 4 Bool} (h : ∀ g, t.nth g = false) : t.toList.any id = false := by
    rw [List.any_eq_false]
    intro x hx
    obtain ⟨i, hi, rfl⟩ := List.mem_iff_getElem.mp hx
    have e : t.toList[i] = false := by
      rw [Vector.getElem_toList]
      exact h ⟨i, by simpa using hi⟩
    rw [e]
    decide
  unfold Progress.settled
  rw [none hg, none hs]
  rfl

/-- The heads at rest: STOOD_DOWN. -/
theorem followProgress_ends (rest : headsAtRest f = true) :
    (followProgress v f).regime = { f.regime with progress := none }
    ∧ (followProgress v f).out = f.out ++ [stoodDownNow v f.regime.left { p with heads := false } false] := by
  have e : (setProgress (fun p => { p with heads := false }) f).regime.progress = some { p with heads := false } := by
    show f.regime.progress.map _ = _
    rw [hp]
    rfl
  unfold followProgress
  rw [if_neg (by rw [hp]; simp), settleAll_idle hp hg hs]
  dsimp only
  rw [if_pos rest, e]
  dsimp only
  rw [if_pos (by rw [settled_heads hg hs]; rfl)]
  exact ⟨rfl, rfl⟩

/-- The heads still awaited. -/
theorem followProgress_waits (rest : headsAtRest f = false) (heads : p.heads = true) : followProgress v f = f := by
  unfold followProgress
  rw [if_neg (by rw [hp]; simp), settleAll_idle hp hg hs]
  dsimp only
  rw [if_neg (by rw [rest]; decide), hp]
  dsimp only
  have s := settled_heads hg hs true
  rw [← heads] at s
  rw [if_neg (by rw [show p.settled = _ from s, heads]; decide)]

end Round

end Sys2Proof.Machine
end

section
/-! Entry to STOOD_DOWN, gate by gate: the levellings cancelled, the sluices sent to 0, the gates judged (09/R162). -/

namespace Sys2Proof.Machine

/-! ## Work done at each in turn -/

section Each

variable {α : Type} {act : α → Flow → Flow} {P Q : α → Flow → Prop}
  (own : ∀ x f, P x f → Q x (act x f))
  (keep : ∀ x y f, P x f → y ≠ x → (P y f → P y (act x f)) ∧ (Q y f → Q y (act x f)))

include own keep

/-- Work at each in turn, where what one meets is not touched by the others. -/
theorem overAll_each {xs : List α} (nodup : xs.Nodup) {f : Flow} (todo : ∀ x ∈ xs, P x f) (done : ∀ y, y ∉ xs → Q y f) (y : α) :
    Q y (overAll xs act f) := by
  induction xs generalizing f with
  | nil => exact done y List.not_mem_nil
  | cons x xs ih =>
    obtain ⟨fresh, nodup⟩ := List.nodup_cons.mp nodup
    have here := todo x List.mem_cons_self
    refine ih nodup (fun z hz => ?_) (fun z hz => ?_)
    · exact (keep x z f here fun e => fresh (e ▸ hz)).1 (todo z (List.mem_cons_of_mem x hz))
    · by_cases e : z = x
      · rw [e]
        exact own x f here
      · exact (keep x z f here e).2 (done z fun c => (List.mem_cons.mp c).elim e hz)

end Each

/-- Work at each gate. -/
theorem overAll_gates {act : Fin 4 → Flow → Flow} {P Q : Fin 4 → Flow → Prop} (own : ∀ g f, P g f → Q g (act g f))
    (keep : ∀ g k f, P g f → k ≠ g → (P k f → P k (act g f)) ∧ (Q k f → Q k (act g f))) {f : Flow} (todo : ∀ g, P g f)
    (g : Fin 4) : Q g (overAll allGates act f) :=
  overAll_each own keep (by decide) (fun g _ => todo g) (fun g no => absurd (mem_allGates g) no) g

/-! ## The heads (04/R79) -/

/-- A head as stand-down leaves it. -/
def Head.atRest (h : Fin 8) (x : Head) : Prop := x.shown = restAspect .stoodDown h ∧ x.holder = .none

theorem atRest_giveHead {v : Base} {f : Flow} (hf : f.regime.condition = .stoodDown) (h : Fin 8) :
    ((giveHead v h f).heads.nth h).atRest h := by
  have b := (headBecomes_refl h f).change v fun x => { x.stop v (restOf f h) with holder := .none }
  obtain ⟨-, -, holder, -⟩ := headAfter_keeps v h (fun x => { x.stop v (restOf f h) with holder := .none }) (f.heads.nth h)
  have shown := shown_headAfter v h (fun x => { x.stop v (restOf f h) with holder := .none }) (f.heads.nth h)
  unfold giveHead Head.atRest
  rw [b.head, shown, holder, ← hf]
  exact ⟨rfl, rfl⟩

theorem giveHead_elsewhere {v : Base} {f : Flow} {h k : Fin 8} (e : k ≠ h) :
    (giveHead v h f).heads.nth k = f.heads.nth k := by
  unfold giveHead
  rw [((headBecomes_refl h f).change v fun x => { x.stop v (restOf f h) with holder := .none }).heads,
    Tbl.nth_put_other _ _ _ _ e.symm]

theorem nodup_allHeads : allHeads.Nodup := by decide

theorem mem_allHeads (h : Fin 8) : h ∈ allHeads := by
  revert h
  decide

theorem atRest_standDownHeads {v : Base} {f : Flow} (hf : f.regime.condition = .stoodDown) (h : Fin 8) :
    ((standDownHeads v f).heads.nth h).atRest h := by
  have regime (h : Fin 8) (f : Flow) : (giveHead v h f).regime = f.regime := (headsOnly_changeHead v h _ f).regime
  have keep (h k : Fin 8) (f : Flow) (_ : f.regime.condition = .stoodDown) (e : k ≠ h) :
      (f.regime.condition = .stoodDown → (giveHead v h f).regime.condition = .stoodDown)
      ∧ ((f.heads.nth k).atRest k → ((giveHead v h f).heads.nth k).atRest k) := by
    rw [regime, giveHead_elsewhere e]
    exact ⟨id, id⟩
  have all := overAll_each (act := giveHead v) (P := fun _ f => f.regime.condition = .stoodDown)
    (Q := fun h f => (f.heads.nth h).atRest h) (fun h f hf => atRest_giveHead hf h) keep nodup_allHeads (f := f)
    (fun _ _ => hf) (fun h no => absurd (mem_allHeads h) no) h
  unfold standDownHeads
  exact all

/-! ## The levellings (03/R59) -/

/-- What a sluice keeps of its record while it is commanded. -/
structure Sluice.Stands (y z : Sluice) : Prop where
  pos : z.pos = y.pos
  fault : y.st = .fault → z = y
  sound : y.st ≠ .fault → z.st ≠ .fault

theorem Sluice.Stands.refl (y : Sluice) : y.Stands y := ⟨rfl, fun _ => rfl, id⟩

theorem stands_commandSluice (v : Base) (g : Fin 4) (n : Nat) (f : Flow) :
    (f.sluices.nth g).Stands ((commandSluice v g n f).sluices.nth g) := by
  have same := sluiceBecomes_refl g f
  by_cases st : (f.sluices.nth g).st = .fault
  · rw [commandSluice_fault same n st]
    exact .refl _
  · obtain ⟨z, qs, b, -, pos, sound⟩ := sluiceBecomes_commandSluice (v := v) same n st
    rw [b.sluice]
    exact ⟨pos, fun c => absurd c st, fun _ => sound⟩

/-- Of a gate's channel and sluice, from before their levelling is cancelled to after. -/
structure Cancelled (c : Channel) (y : Sluice) (d : Channel) (z : Sluice) : Prop where
  active : c.st ≠ .idle → d = Channel.idle
  idle : c.st = .idle → d = c ∧ z = y
  stands : y.Stands z

theorem cancelled_cancelChannel (v : Base) (g : Fin 4) (f : Flow) : Cancelled (f.channels.nth g) (f.sluices.nth g)
    ((cancelChannel v g f).channels.nth g) ((cancelChannel v g f).sluices.nth g) := by
  by_cases h : (f.channels.nth g).st = .idle
  · rw [cancelChannel_idle h]
    exact ⟨fun c => absurd h c, fun _ => ⟨rfl, rfl⟩, .refl _⟩
  · refine ⟨fun _ => (cancelChannel_leaves h).1, fun c => absurd c h, ?_⟩
    have moved (c : Channel) (k : Flow) : (moveChannel v g c (releaseGrant g k)).sluices = k.sluices := by
      unfold moveChannel
      dsimp only
      (repeat' split) <;> rfl
    rw [cancelChannel_active h, moved, ← (withdrawn_keeps g f).2.1]
    unfold sluiceClosed
    split
    · exact stands_commandSluice v g 0 (withdrawn g f)
    · exact .refl _

/-- Another gate's channel and sluice are untouched. -/
theorem cancelChannel_elsewhere {v : Base} {g k : Fin 4} (h : k ≠ g) (f : Flow) :
    (cancelChannel v g f).channels.nth k = f.channels.nth k ∧ (cancelChannel v g f).sluices.nth k = f.sluices.nth k := by
  have rules : CancelRules (fun i => i = g)
      (fun m => m.channels.nth k = f.channels.nth k ∧ m.sluices.nth k = f.sluices.nth k) := {
    raise := fun h _ _ _ _ => h
    sluice := fun {m} hm i e fn => ⟨hm.1, (Tbl.nth_upd_other _ _ _ _ (e ▸ h.symm)).trans hm.2⟩
    channel := fun {m} hm i e fn => ⟨(Tbl.nth_upd_other _ _ _ _ (e ▸ h.symm)).trans hm.1, hm.2⟩
    permit := fun h _ => h
    grants := fun h _ _ _ => h
    waiting := fun h _ => h }
  exact rules.cancelChannel ⟨rfl, rfl⟩ v rfl

/-- Every levelling cancelled. -/
theorem cancelled_all (v : Base) (f : Flow) (g : Fin 4) : Cancelled (f.channels.nth g) (f.sluices.nth g)
    ((overAll allGates (cancelChannel v) f).channels.nth g) ((overAll allGates (cancelChannel v) f).sluices.nth g) := by
  refine overAll_gates (act := cancelChannel v)
    (P := fun g m => m.channels.nth g = f.channels.nth g ∧ m.sluices.nth g = f.sluices.nth g)
    (Q := fun g m => Cancelled (f.channels.nth g) (f.sluices.nth g) (m.channels.nth g) (m.sluices.nth g))
    (fun g m ⟨c, s⟩ => ?_) (fun g k m _ e => ?_) (fun _ => ⟨rfl, rfl⟩) g
  · rw [← c, ← s]
    exact cancelled_cancelChannel v g m
  · obtain ⟨c, s⟩ := cancelChannel_elsewhere (v := v) e m
    rw [c, s]
    exact ⟨id, id⟩

/-! ## What is awaited of one, and its entry on the left list -/

/-- Whether gate `g`, or its sluice, is awaited, and the reasons it is on the left list for. -/
def Regime.entry (r : Regime) (sl : Bool) (g : Fin 4) : Bool × (LeftReason → Prop) :=
  (r.awaits sl g, fun x => (⟨sl, g, x⟩ : LeftEntry) ∈ r.left)

theorem RegimeAt.entry {sl sl' : Bool} {g k : Fin 4} {r q : Regime} (h : RegimeAt sl g r q) (ne : ¬ (sl' = sl ∧ k = g)) :
    q.entry sl' k = r.entry sl' k :=
  Prod.ext (h.awaits _ _ ne) (funext fun _ => propext (h.left _ ne))

theorem entry_addLeft (sl : Bool) (g : Fin 4) (r : LeftReason) (f : Flow) :
    (addLeft sl g r f).regime.entry sl g = (f.regime.awaits sl g, fun x => x = r) :=
  Prod.ext rfl (funext fun _ => propext (mem_addLeft_same _ _ _ _ _))

theorem entry_setAwait {f : Flow} (h : f.regime.progress.isSome = true) (sl : Bool) (g : Fin 4) (x : Bool) :
    (setAwait sl g x f).regime.entry sl g = (x, (f.regime.entry sl g).2) :=
  Prod.ext (awaits_setAwait_same _ _ _ _ h) rfl

/-! ## The sluices (09/R162, items 2 and 3) -/

/-- The sluice was worked: its channel was cancelled, or it is above 0 or commanded so. -/
def Sluice.worked (was : Bool) (y : Sluice) : Prop := was = true ∨ y.pos ≠ 0 ∨ y.cmd ≠ 0

/-- What stand-down makes of a sluice's record, and of its entry. -/
structure SluiceDown (worked : Prop) (y z : Sluice) (e : Bool × (LeftReason → Prop)) : Prop where
  fault : y.st = .fault → z = y
  sent : y.st ≠ .fault → z.cmd = 0 ∧ z.pos = y.pos
  awaited : e.1 = true ↔ y.st ≠ .fault ∧ worked ∧ ¬ (z.st = .steady ∧ z.pos = 0)
  left : ∀ r, e.2 r ↔ y.st = .fault ∧ worked ∧ r = .fault

/-- Of the blocks' state, what is done at the sluice of gate `g` changes its record and its entry. -/
structure SluiceStep (g : Fin 4) (f k : Flow) : Prop where
  plant : k.toPlant = { f.toPlant with sluices := f.sluices.put g (k.sluices.nth g), regime := k.regime }
  out : f.out <+: k.out
  regime : RegimeAt true g f.regime k.regime

section Sluice

variable {v : Base} {was : Tbl 4 Bool} {g : Fin 4} {f : Flow}

theorem standDownSluice_idle (h : ¬ (f.sluices.nth g).worked (was.nth g)) : standDownSluice v was g f = f := by
  unfold Sluice.worked at h
  unfold standDownSluice
  dsimp only
  rw [if_pos]
  simpa [and_assoc] using h

variable (h : (f.sluices.nth g).worked (was.nth g))

include h

theorem standDownSluice_left (st : (f.sluices.nth g).st = .fault) : standDownSluice v was g f = addLeft true g .fault f := by
  unfold Sluice.worked at h
  unfold standDownSluice
  dsimp only
  rw [if_neg, if_pos st]
  simpa [or_assoc, or_iff_not_imp_left] using h

theorem standDownSluice_sent (st : (f.sluices.nth g).st ≠ .fault) : standDownSluice v was g f =
    if ((commandSluice v g 0 f).sluices.nth g).st = .steady ∧ ((commandSluice v g 0 f).sluices.nth g).pos = 0 then
      commandSluice v g 0 f else setAwait true g true (commandSluice v g 0 f) := by
  unfold Sluice.worked at h
  unfold standDownSluice
  dsimp only
  rw [if_neg, if_neg st]
  · rfl
  · simpa [or_assoc, or_iff_not_imp_left] using h

end Sluice

theorem sluiceStep_refl (g : Fin 4) (f : Flow) : SluiceStep g f f :=
  ⟨by rw [put_nth_self], List.prefix_refl _, regimeAt_refl _ _ _⟩

theorem SluiceBecomes.regime {g : Fin 4} {f k : Flow} {y : Sluice} {rs : List Report} (b : SluiceBecomes g f k y rs) :
    k.regime = f.regime := by
  have e := congrArg Plant.regime b.plant
  exact e

theorem SluiceBecomes.step {g : Fin 4} {f k : Flow} {y : Sluice} {rs : List Report} (b : SluiceBecomes g f k y rs) :
    SluiceStep g f k := by
  have e : k.regime = f.regime := b.regime
  refine ⟨?_, by rw [b.out]; exact List.prefix_append _ _, by rw [e]; exact regimeAt_refl _ _ _⟩
  rw [b.sluice, e]
  exact b.plant

theorem SluiceBecomes.step_setAwait {g : Fin 4} {f k : Flow} {y : Sluice} {rs : List Report} (b : SluiceBecomes g f k y rs)
    (x : Bool) : SluiceStep g f (setAwait true g x k) := by
  have e : k.regime = f.regime := b.regime
  refine ⟨?_, by rw [show (setAwait true g x k).out = k.out from rfl, b.out]; exact List.prefix_append _ _, ?_⟩
  · rw [show (setAwait true g x k).sluices = k.sluices from rfl, b.sluice,
      show (setAwait true g x k).toPlant = { k.toPlant with regime := (setAwait true g x k).regime } from rfl, b.plant]
  · rw [← e]
    exact regimeAt_setAwait true g k x

theorem sluiceStep_standDown (v : Base) (was : Tbl 4 Bool) (g : Fin 4) (f : Flow) :
    SluiceStep g f (standDownSluice v was g f) := by
  by_cases h : (f.sluices.nth g).worked (was.nth g)
  · by_cases st : (f.sluices.nth g).st = .fault
    · rw [standDownSluice_left h st]
      exact ⟨by
        rw [show (addLeft true g .fault f).sluices = f.sluices from rfl, put_nth_self]
        rfl, List.prefix_refl _, regimeAt_addLeft true g f .fault⟩
    · obtain ⟨z, qs, b⟩ := sluiceBecomes_command v g 0 f
      rw [standDownSluice_sent h st]
      split
      · exact b.step
      · exact b.step_setAwait true
  · rw [standDownSluice_idle h]
    exact sluiceStep_refl g f

/-- A sluice nothing was awaited of yet, sent to 0. -/
theorem sluiceDown_standDown {v : Base} {was : Tbl 4 Bool} {g : Fin 4} {f : Flow} (hp : f.regime.progress.isSome = true)
    (fresh : f.regime.entry true g = (false, fun _ => False)) : SluiceDown ((f.sluices.nth g).worked (was.nth g))
      (f.sluices.nth g) ((standDownSluice v was g f).sluices.nth g) ((standDownSluice v was g f).regime.entry true g) := by
  by_cases h : (f.sluices.nth g).worked (was.nth g)
  · by_cases st : (f.sluices.nth g).st = .fault
    · have idle : f.regime.awaits true g = false := congrArg Prod.fst fresh
      rw [standDownSluice_left h st, entry_addLeft, idle]
      exact ⟨fun _ => rfl, fun c => absurd st c, by simp [st], fun r => by simp [st, h]⟩
    · obtain ⟨z, qs, b, cmd, pos, -⟩ := sluiceBecomes_commandSluice (v := v) (sluiceBecomes_refl g f) 0 st
      have cmd : z.cmd = 0 := cmd.trans (reducedTo_of_lt (by decide))
      have e : (commandSluice v g 0 f).regime = f.regime := b.regime
      rw [standDownSluice_sent h st]
      split
      · next there =>
        rw [e, fresh, b.sluice]
        rw [b.sluice] at there
        exact ⟨fun c => absurd c st, fun _ => ⟨cmd, pos⟩, by simp [there], fun r => by simp [st]⟩
      · next short =>
        rw [entry_setAwait (by rw [e]; exact hp), e, fresh, show (setAwait true g true (commandSluice v g 0 f)).sluices = (commandSluice v g 0 f).sluices from rfl, b.sluice]
        rw [b.sluice] at short
        exact ⟨fun c => absurd c st, fun _ => ⟨cmd, pos⟩, by simp [st, h, short], fun r => by simp [st]⟩
  · rw [standDownSluice_idle h, fresh]
    have none : (f.sluices.nth g).cmd = 0 := by
      by_contra c
      exact h (.inr (.inr c))
    exact ⟨fun _ => rfl, fun _ => ⟨none, rfl⟩, by simp [h], fun r => by simp [h]⟩

/-! ## The gates (09/R162, item 4) -/

/-- What a Regime close that is taken makes of a gate's record. -/
structure CloseSent (v : Base) (lit : Bool) (x y : Gate) : Prop where
  owner : y.owner = x.owner
  hold : y.hold = false
  closing : x.st = .closing → y = x
  opening : x.st = .opening → y = { x with ask := some .regimeClose }
  stopped : x.st = .stopped → y = { x with ask := none }
  waits : x.st = .opened → lit = true → y = { x with ask := some .regimeClose }
  closes : x.st = .opened → lit = false →
    y.st = .closing ∧ y.ask = none ∧ y.travel = some v.elapsed ∧ y.obstructions = 0

/-- A gate that is not left takes the close. -/
theorem regimeClose_taken {v : Base} {g : Fin 4} {f : Flow} (st : (f.gates.nth g).st ≠ .shut)
    (why : leftReason v f.toPlant g = none) : ∃ k y rs, regimeClose v g f = (.accepted, k) ∧ GateBecomes g f k y rs
      ∧ CloseSent v (f.toPlant.gateLit g) (f.gates.nth g) y := by
  have same := gateBecomes_refl g f
  obtain ⟨beam, sound, hold⟩ : v.pins.beam.nth g = false ∧ (f.gates.nth g).st ≠ .fault ∧ (f.gates.nth g).hold = false := by
    unfold leftReason at why
    dsimp only at why
    split at why
    · cases why
    next beam =>
    split at why
    · cases why
    split at why
    · cases why
    next sound =>
    split at why
    · cases why
    next hold => exact ⟨by simpa using beam, sound, by simpa using hold⟩
  unfold regimeClose
  dsimp only
  cases e : (f.gates.nth g).st with
  | shut => exact absurd e st
  | fault => exact absurd e sound
  | closing =>
    exact ⟨_, _, _, rfl, same, rfl, hold, fun _ => rfl, by simp [e], by simp [e], by simp [e], by simp [e]⟩
  | opening =>
    exact ⟨_, _, _, rfl, same.set _, rfl, hold, by simp [e], fun _ => rfl, by simp [e], by simp [e], by simp [e]⟩
  | stopped =>
    dsimp only
    rw [if_neg (by rw [hold]; decide)]
    exact ⟨_, _, _, rfl, same.set _, rfl, hold, by simp [e], by simp [e], fun _ => rfl, by simp [e], by simp [e]⟩
  | opened =>
    dsimp only
    cases lit : f.toPlant.gateLit g with
    | true =>
      rw [if_pos rfl]
      exact ⟨_, _, _, rfl, same.set _, rfl, hold, by simp [e], by simp [e], by simp [e], fun _ _ => rfl, fun _ c => nomatch c⟩
    | false =>
      rw [if_neg (by decide)]
      exact ⟨_, _, _, rfl, same.takeClose_clear v beam, rfl, rfl, by simp [e], by simp [e], by simp [e],
        fun _ c => (nomatch c), fun _ _ => ⟨rfl, rfl, rfl, rfl⟩⟩

/-- What stand-down makes of a gate's record, and of its entry, by the reason it is left for. -/
structure GateDown (v : Base) (lit : Bool) (why : Option LeftReason) (x y : Gate) (e : Bool × (LeftReason → Prop)) : Prop where
  kept : ¬ (x.st ≠ .shut ∧ why = none) → y = x
  sent : x.st ≠ .shut → why = none → CloseSent v lit x y
  awaited : e.1 = true ↔ x.st ≠ .shut ∧ why = none
  left : ∀ r, e.2 r ↔ x.st ≠ .shut ∧ why = some r

/-- Of the blocks' state, what is done at gate `g` changes its record and its entry. -/
structure GateStep (g : Fin 4) (f k : Flow) : Prop where
  plant : k.toPlant = { f.toPlant with gates := f.gates.put g (k.gates.nth g), regime := k.regime }
  out : f.out <+: k.out
  regime : RegimeAt false g f.regime k.regime

section Gate

variable {v : Base} {g : Fin 4} {f : Flow}

theorem standDownGate_shut (st : (f.gates.nth g).st = .shut) : standDownGate v g f = f := if_pos st

variable (st : (f.gates.nth g).st ≠ .shut)

include st

theorem standDownGate_left {r : LeftReason} (why : leftReason v f.toPlant g = some r) :
    standDownGate v g f = addLeft false g r f := by
  unfold standDownGate
  rw [if_neg st, why]

theorem standDownGate_sent (why : leftReason v f.toPlant g = none) {k : Flow} (e : regimeClose v g f = (.accepted, k)) :
    standDownGate v g f = setAwait false g true k := by
  unfold standDownGate sendClose
  rw [if_neg st, why]
  dsimp only
  rw [e]
  rfl

end Gate

theorem GateBecomes.regime {g : Fin 4} {f k : Flow} {y : Gate} {rs : List Report} (b : GateBecomes g f k y rs) :
    k.regime = f.regime := by
  have e := congrArg Plant.regime b.plant
  exact e

theorem GateBecomes.step_setAwait {g : Fin 4} {f k : Flow} {y : Gate} {rs : List Report} (b : GateBecomes g f k y rs)
    (x : Bool) : GateStep g f (setAwait false g x k) := by
  have e : k.regime = f.regime := b.regime
  refine ⟨?_, by rw [show (setAwait false g x k).out = k.out from rfl, b.out]; exact List.prefix_append _ _, ?_⟩
  · rw [show (setAwait false g x k).gates = k.gates from rfl, b.gate,
      show (setAwait false g x k).toPlant = { k.toPlant with regime := (setAwait false g x k).regime } from rfl, b.plant]
  · rw [← e]
    exact regimeAt_setAwait false g k x

theorem gateStep_standDown (v : Base) (g : Fin 4) (f : Flow) : GateStep g f (standDownGate v g f) := by
  by_cases st : (f.gates.nth g).st = .shut
  · rw [standDownGate_shut st]
    exact ⟨by rw [put_nth_self], List.prefix_refl _, regimeAt_refl _ _ _⟩
  · cases why : leftReason v f.toPlant g with
    | some r =>
      rw [standDownGate_left st why]
      exact ⟨by
        rw [show (addLeft false g r f).gates = f.gates from rfl, put_nth_self]
        rfl, List.prefix_refl _, regimeAt_addLeft false g f r⟩
    | none =>
      obtain ⟨k, y, rs, e, b, -⟩ := regimeClose_taken st why
      rw [standDownGate_sent st why e]
      exact b.step_setAwait true

/-- A gate nothing was awaited of yet, judged. -/
theorem gateDown_standDown {v : Base} {g : Fin 4} {f : Flow} (hp : f.regime.progress.isSome = true)
    (fresh : f.regime.entry false g = (false, fun _ => False)) :
    GateDown v (f.toPlant.gateLit g) (leftReason v f.toPlant g) (f.gates.nth g) ((standDownGate v g f).gates.nth g)
      ((standDownGate v g f).regime.entry false g) := by
  by_cases st : (f.gates.nth g).st = .shut
  · rw [standDownGate_shut st, fresh]
    exact ⟨fun _ => rfl, fun c => absurd st c, by simp [st], fun r => by simp [st]⟩
  · cases why : leftReason v f.toPlant g with
    | some r =>
      have idle : f.regime.awaits false g = false := congrArg Prod.fst fresh
      rw [standDownGate_left st why, entry_addLeft, idle]
      exact ⟨fun _ => rfl, fun _ c => (nomatch c), by simp, fun r' => by simp [st, eq_comm]⟩
    | none =>
      obtain ⟨k, y, rs, e, b, sent⟩ := regimeClose_taken st why
      have er : k.regime = f.regime := b.regime
      rw [standDownGate_sent st why e, entry_setAwait (by rw [er]; exact hp), er, fresh,
        show (setAwait false g true k).gates = k.gates from rfl, b.gate]
      exact ⟨fun c => absurd ⟨st, rfl⟩ c, fun _ _ => sent, by simp [st], fun r => by simp⟩

end Sys2Proof.Machine
end

section
/-! STANDDOWN, RESUME and the deadline that runs out (09/R160, R162 to R165). -/

namespace Sys2Proof.Machine

/-! ## The stages of a stand-down -/

/-- The entry itself: the mark, FLIGHT_STATE, the heads, the batches and the Tracker's set (09/R162). -/
def stoodEntry (v : Base) (c : StateCause) (f : Flow) : Flow :=
  let none4 : Tbl 4 Bool := Vector.replicate 4 false
  let f := setRegime (fun r => { r with
    stoodDown := true, left := [], progress := some ⟨none4, none4, true, v.elapsed⟩ }) f
  let f := freezeBatches v (standDownHeads v (flightReport v c f))
  setRegime (fun r => { r with passing := f.toPlant.passingSet }) f

/-- The channels that are not IDLE. -/
def levellingSet (f : Flow) : Tbl 4 Bool := Vector.ofFn fun g => decide ((f.channels.nth g).st ≠ .idle)

/-- The levellings cancelled. -/
def stoodCancelled (v : Base) (c : StateCause) (f : Flow) : Flow := overAll allGates (cancelChannel v) (stoodEntry v c f)

theorem standDown_eq (v : Base) (c : StateCause) (f : Flow) : standDown v c f = overAll allGates (standDownGate v)
    (overAll allGates (standDownSluice v (levellingSet (stoodEntry v c f))) (stoodCancelled v c f)) := rfl

theorem nth_levellingSet (f : Flow) (g : Fin 4) : (levellingSet f).nth g = decide ((f.channels.nth g).st ≠ .idle) := by
  simp [levellingSet, Tbl.nth]

/-- The Tracker's set follows the members alone. -/
theorem passingSet_frozen (p : Plant) (hs : Tbl 8 Head) (r : Regime) {fn : Batch → Batch}
    (hfn : ∀ b, (fn b).members = b.members ∧ (fn b).ahead = b.ahead) :
    ({ p with heads := hs, regime := r, batches := p.batches.map fn } : Plant).passingSet = p.passingSet := by
  unfold Plant.passingSet
  rw [List.foldl_map]
  congr 1
  funext t b
  obtain ⟨members, ahead⟩ := hfn b
  rw [members, ahead]
  rfl

/-- The entry of a stand-down leaves this (09/R162, items 1 and 5). -/
structure Entered (v : Base) (c : StateCause) (a e : Flow) : Prop where
  heads : ∀ h, (e.heads.nth h).atRest h
  frozen : ∀ b ∈ e.batches, b.frozen = true
  regime : e.regime = { a.regime with
    stoodDown := true, left := [], passing := a.toPlant.passingSet
    progress := some ⟨Vector.replicate 4 false, Vector.replicate 4 false, true, v.elapsed⟩ }
  passing : e.toPlant.passingSet = a.toPlant.passingSet
  plant : e.toPlant = { a.toPlant with heads := e.heads, batches := e.batches, regime := e.regime }
  out : a.out ++ [flightNow v { a.regime with stoodDown := true } c] <+: e.out

theorem entered_stoodEntry (v : Base) (c : StateCause) (f : Flow) : Entered v c f (stoodEntry v c f) := by
  have rest := atRest_standDownHeads (v := v) (f := flightReport v c (setRegime (fun r => { r with
    stoodDown := true, left := [], progress := some ⟨Vector.replicate 4 false, Vector.replicate 4 false, true, v.elapsed⟩ }) f)) rfl
  have only : HeadsOnly _ (standDownHeads v (flightReport v c (setRegime (fun r => { r with
    stoodDown := true, left := [], progress := some ⟨Vector.replicate 4 false, Vector.replicate 4 false, true, v.elapsed⟩ }) f))) :=
    headsOnly_overAll (fun h f => headsOnly_changeHead v h _ f) _ _
  unfold stoodEntry
  dsimp only
  generalize standDownHeads v (flightReport v c (setRegime (fun r => { r with
    stoodDown := true, left := [], progress := some ⟨Vector.replicate 4 false, Vector.replicate 4 false, true, v.elapsed⟩ }) f)) = k
    at rest only ⊢
  have plant := only.plant
  have batches : k.batches = f.batches := (congrArg Plant.batches plant).trans rfl
  have regime := only.regime
  have passing : (freezeBatches v k).toPlant.passingSet = f.toPlant.passingSet := by
    have e : (freezeBatches v k).toPlant = { k.toPlant with batches := k.batches.map fun b =>
      { b with frozen := true, berth := b.berth.pause v.elapsed, overdue := none } } := rfl
    rw [e, batches, plant]
    exact passingSet_frozen f.toPlant k.heads _ fun b => by exact ⟨rfl, rfl⟩
  refine ⟨rest, fun b hb => ?_, ?_, passing, ?_, only.out⟩
  · obtain ⟨x, -, rfl⟩ := List.mem_map.mp hb
    rfl
  · show { k.regime with passing := (freezeBatches v k).toPlant.passingSet } = _
    rw [passing, regime]
    rfl
  · show ({ k.toPlant with batches := _, regime := _ } : Plant) = _
    rw [plant]
    rfl

/-! ## The gates and sluices in turn -/

/-- The sluices, the gates, what is awaited and the left list apart, the blocks stand as in `m`. -/
structure StoodFrame (v : Base) (m f : Flow) : Prop where
  plant : f.toPlant = { m.toPlant with
    sluices := f.sluices, gates := f.gates
    regime := { m.regime with left := f.regime.left, progress := f.regime.progress } }
  out : m.out <+: f.out
  underway : ∃ p, f.regime.progress = some p ∧ p.since = v.elapsed ∧ p.heads = true

namespace StoodFrame

variable {v : Base} {m f k : Flow} (h : StoodFrame v m f)

include h

theorem progress : f.regime.progress.isSome = true := by
  obtain ⟨p, hp, -⟩ := h.underway
  rw [hp]
  rfl

/-- A step that changes the records of one gate or sluice and its entry. -/
theorem step {sl : Bool} {g : Fin 4}
    (plant : k.toPlant = { f.toPlant with sluices := k.sluices, gates := k.gates, regime := k.regime })
    (out : f.out <+: k.out) (regime : RegimeAt sl g f.regime k.regime) : StoodFrame v m k := by
  obtain ⟨p, hp, since, heads⟩ := h.underway
  obtain ⟨q, hq, since', heads'⟩ := regime.underway p hp
  have e : f.regime = { m.regime with left := f.regime.left, progress := f.regime.progress } := congrArg Plant.regime h.plant
  refine ⟨?_, h.out.trans out, q, hq, since'.trans since, heads'.trans heads⟩
  have rest : k.regime = { m.regime with left := k.regime.left, progress := k.regime.progress } := by
    have r := regime.rest
    rw [e] at r
    exact r
  rw [plant, h.plant, ← rest]

theorem sluice {g : Fin 4} (s : SluiceStep g f k) : StoodFrame v m k ∧ k.gates = f.gates := by
  have gates : k.gates = f.gates := (congrArg Plant.gates s.plant).trans rfl
  have sluices : k.sluices = f.sluices.put g (k.sluices.nth g) := (congrArg Plant.sluices s.plant).trans rfl
  refine ⟨h.step ?_ s.out s.regime, gates⟩
  rw [sluices, gates]
  exact s.plant

theorem gate {g : Fin 4} (s : GateStep g f k) : StoodFrame v m k ∧ k.sluices = f.sluices := by
  have gates : k.gates = f.gates.put g (k.gates.nth g) := (congrArg Plant.gates s.plant).trans rfl
  have sluices : k.sluices = f.sluices := (congrArg Plant.sluices s.plant).trans rfl
  refine ⟨h.step ?_ s.out s.regime, sluices⟩
  rw [gates, sluices]
  exact s.plant

theorem gateLit (g : Fin 4) : f.toPlant.gateLit g = m.toPlant.gateLit g := by
  rw [h.plant]
  rfl

theorem leftReason {g : Fin 4} (same : f.gates.nth g = m.gates.nth g) :
    leftReason v f.toPlant g = leftReason v m.toPlant g := by
  have passing : f.toPlant.passingSet = m.toPlant.passingSet := by
    rw [h.plant]
    rfl
  unfold Machine.leftReason
  dsimp only
  rw [passing, same]

end StoodFrame

/-- Nothing is awaited, and nothing is on the left list. -/
def Unlisted : Bool × (LeftReason → Prop) := (false, fun _ => False)

section Turns

variable {v : Base} {was : Tbl 4 Bool} {m : Flow}

/-- Every sluice in turn. -/
theorem standDown_sluices (h : StoodFrame v m m) (none : ∀ sl g, m.regime.entry sl g = Unlisted) (g : Fin 4) :
    let f := overAll allGates (standDownSluice v was) m
    StoodFrame v m f ∧ f.gates = m.gates ∧ f.regime.entry false g = Unlisted
      ∧ SluiceDown ((m.sluices.nth g).worked (was.nth g)) (m.sluices.nth g) (f.sluices.nth g) (f.regime.entry true g) := by
  refine overAll_gates (act := standDownSluice v was)
    (P := fun g f => StoodFrame v m f ∧ f.gates = m.gates ∧ f.regime.entry false g = Unlisted
      ∧ f.sluices.nth g = m.sluices.nth g ∧ f.regime.entry true g = Unlisted)
    (Q := fun g f => StoodFrame v m f ∧ f.gates = m.gates ∧ f.regime.entry false g = Unlisted
      ∧ SluiceDown ((m.sluices.nth g).worked (was.nth g)) (m.sluices.nth g) (f.sluices.nth g) (f.regime.entry true g))
    (fun g f ⟨frame, gates, gate, same, fresh⟩ => ?_) (fun g k f ⟨frame, _, _, _, _⟩ e => ?_)
    (fun g => ⟨h, rfl, none _ _, rfl, none _ _⟩) g
  · have s := sluiceStep_standDown v was g f
    obtain ⟨after, still⟩ := frame.sluice s
    have down := sluiceDown_standDown (v := v) (was := was) frame.progress fresh
    rw [same] at down
    exact ⟨after, still.trans gates, (s.regime.entry (by simp)).trans gate, down⟩
  · have s := sluiceStep_standDown v was g f
    obtain ⟨after, still⟩ := frame.sluice s
    have elsewhere : (standDownSluice v was g f).sluices.nth k = f.sluices.nth k := by
      rw [show (standDownSluice v was g f).sluices = _ from congrArg Plant.sluices s.plant, Tbl.nth_put_other _ _ _ _ e.symm]
    rw [s.regime.entry (sl' := false) (k := k) (by simp), s.regime.entry (sl' := true) (k := k) (by simp [e]), elsewhere, still]
    exact ⟨fun p => ⟨after, p.2⟩, fun q => ⟨after, q.2⟩⟩

/-- Every gate in turn, the sluices done. -/
theorem standDown_gates {S : Fin 4 → Sluice → Bool × (LeftReason → Prop) → Prop} {f : Flow} (h : StoodFrame v m f)
    (gates : f.gates = m.gates) (none : ∀ g, f.regime.entry false g = Unlisted)
    (sluices : ∀ g, S g (f.sluices.nth g) (f.regime.entry true g)) (g : Fin 4) :
    let k := overAll allGates (standDownGate v) f
    StoodFrame v m k ∧ S g (k.sluices.nth g) (k.regime.entry true g)
      ∧ GateDown v (m.toPlant.gateLit g) (leftReason v m.toPlant g) (m.gates.nth g) (k.gates.nth g) (k.regime.entry false g) := by
  refine overAll_gates (act := standDownGate v)
    (P := fun g f => StoodFrame v m f ∧ S g (f.sluices.nth g) (f.regime.entry true g) ∧ f.gates.nth g = m.gates.nth g
      ∧ f.regime.entry false g = Unlisted)
    (Q := fun g f => StoodFrame v m f ∧ S g (f.sluices.nth g) (f.regime.entry true g)
      ∧ GateDown v (m.toPlant.gateLit g) (leftReason v m.toPlant g) (m.gates.nth g) (f.gates.nth g) (f.regime.entry false g))
    (fun g f ⟨frame, water, same, fresh⟩ => ?_) (fun g k f ⟨frame, _, _, _⟩ e => ?_)
    (fun g => ⟨h, sluices g, by rw [gates], none g⟩) g
  · have s := gateStep_standDown v g f
    obtain ⟨after, still⟩ := frame.gate s
    have down := gateDown_standDown (v := v) frame.progress fresh
    rw [frame.gateLit, frame.leftReason same, same] at down
    rw [s.regime.entry (sl' := true) (k := g) (by simp), still]
    exact ⟨after, water, down⟩
  · have s := gateStep_standDown v g f
    obtain ⟨after, still⟩ := frame.gate s
    have elsewhere : (standDownGate v g f).gates.nth k = f.gates.nth k := by
      rw [show (standDownGate v g f).gates = _ from congrArg Plant.gates s.plant, Tbl.nth_put_other _ _ _ _ e.symm]
    rw [s.regime.entry (sl' := false) (k := k) (by simp [e]), s.regime.entry (sl' := true) (k := k) (by simp), elsewhere, still]
    exact ⟨fun p => ⟨after, p.2⟩, fun q => ⟨after, q.2⟩⟩

end Turns

/-! ## The whole stand-down -/

/-- What a stand-down makes of the flow `a`. -/
structure Downed (v : Base) (c : StateCause) (a f : Flow) : Prop where
  regime : f.regime = { a.regime with
    stoodDown := true, passing := a.toPlant.passingSet, left := f.regime.left, progress := f.regime.progress }
  heads : ∀ h, (f.heads.nth h).atRest h
  frozen : ∀ b ∈ f.batches, b.frozen = true
  passages : f.passages = a.passages
  accounts : f.accounts = a.accounts
  water : ∀ g, ∃ z, Cancelled (a.channels.nth g) (a.sluices.nth g) (f.channels.nth g) z
    ∧ SluiceDown (z.worked (decide ((a.channels.nth g).st ≠ .idle))) z (f.sluices.nth g) (f.regime.entry true g)
  gates : ∀ g, GateDown v (f.toPlant.gateLit g) (leftReason v a.toPlant g) (a.gates.nth g) (f.gates.nth g)
    (f.regime.entry false g)
  underway : ∃ p, f.regime.progress = some p ∧ p.since = v.elapsed ∧ p.heads = true
  out : a.out ++ [flightNow v { a.regime with stoodDown := true } c] <+: f.out

theorem downed_standDown (v : Base) (c : StateCause) (a : Flow) : Downed v c a (standDown v c a) := by
  have entry := entered_stoodEntry v c a
  have cancelled := cancelled_all v (stoodEntry v c a)
  have water : Watery (stoodEntry v c a) (stoodCancelled v c a) :=
    overAll_of (P := Watery _) (fun g _ f h => (watery_rules _).cancelChannel (f := f) h v (g := g) trivial) (Watery.refl _)
  have hwas := nth_levellingSet (stoodEntry v c a)
  rw [standDown_eq]
  generalize levellingSet (stoodEntry v c a) = was at *
  rw [show overAll allGates (cancelChannel v) (stoodEntry v c a) = stoodCancelled v c a from rfl] at cancelled
  generalize stoodCancelled v c a = m at *
  generalize stoodEntry v c a = e at *
  obtain ⟨gates, heads, passages, -, batches, -, -, accounts, regime⟩ := water.water
  have channels : e.channels = a.channels := (congrArg Plant.channels entry.plant).trans rfl
  have sluices : e.sluices = a.sluices := (congrArg Plant.sluices entry.plant).trans rfl
  have egates : e.gates = a.gates := (congrArg Plant.gates entry.plant).trans rfl
  have mregime : m.regime = _ := regime.trans entry.regime
  have frame : StoodFrame v m m := ⟨rfl, List.prefix_refl _, _, by rw [mregime], rfl, rfl⟩
  have none (sl : Bool) (g : Fin 4) : m.regime.entry sl g = Unlisted := by
    refine Prod.ext ?_ (funext fun r => ?_)
    · show m.regime.awaits sl g = false
      rw [mregime]
      cases sl <;> simp [Regime.awaits, Progress.awaits, Tbl.nth]
    · show (_ ∈ m.regime.left) = False
      rw [mregime]
      simp
  have one := standDown_sluices (was := was) frame none
  have two := standDown_gates (S := fun g => SluiceDown ((m.sluices.nth g).worked (was.nth g)) (m.sluices.nth g))
    (one 0).1 (one 0).2.1 (fun g => (one g).2.2.1) (fun g => (one g).2.2.2)
  dsimp only at two
  generalize overAll allGates (standDownGate v) (overAll allGates (standDownSluice v was) m) = f at two ⊢
  have done := (two 0).1
  have why (g : Fin 4) : leftReason v m.toPlant g = leftReason v a.toPlant g := by
    have passing : m.toPlant.passingSet = a.toPlant.passingSet := by
      rw [← entry.passing]
      unfold Plant.passingSet Plant.memberSt Plant.passage?
      rw [batches, passages]
    unfold leftReason
    dsimp only
    rw [passing, show m.gates = a.gates from gates.trans egates]
  refine ⟨?_, fun h => ?_, ?_, ?_, ?_, fun g => ⟨m.sluices.nth g, ?_, ?_⟩, fun g => ?_, done.underway, ?_⟩
  · have e := congrArg Plant.regime done.plant
    rw [mregime] at e
    exact e
  · rw [show f.heads = m.heads from (congrArg Plant.heads done.plant).trans rfl, show m.heads = e.heads from heads]
    exact entry.heads h
  · rw [show f.batches = m.batches from (congrArg Plant.batches done.plant).trans rfl, show m.batches = e.batches from batches]
    exact entry.frozen
  · exact (congrArg Plant.passages done.plant).trans (passages.trans ((congrArg Plant.passages entry.plant).trans rfl))
  · exact (congrArg Plant.accounts done.plant).trans (accounts.trans ((congrArg Plant.accounts entry.plant).trans rfl))
  · have k := cancelled g
    rw [channels, sluices] at k
    rw [show f.channels = m.channels from (congrArg Plant.channels done.plant).trans rfl]
    exact k
  · have k := (two g).2.1
    rw [hwas g, channels] at k
    exact k
  · have k := (two g).2.2
    rw [← done.gateLit, why, show m.gates = a.gates from gates.trans egates] at k
    exact k
  · exact entry.out.trans (water.out.trans done.out)

end Sys2Proof.Machine
end

section
/-! STANDDOWN, RESUME and the deadline that runs out: the settlement (09/R160, R162 to R165). -/

namespace Sys2Proof.Machine

/-! ## RESUME (09/R165) -/

theorem resumeBar_none (p : Plant) : resumeBar p = none ↔ p.regime.stoodDown = true ∧ p.regime.mainsCause = false
    ∧ p.regime.flood = false ∧ ∀ b ∈ p.batches, b.step ≠ .unresolved := by
  unfold resumeBar
  split
  · next up => simp only [reduceCtorEq, false_iff]; rintro ⟨down, -⟩; rw [down] at up; cases up
  next down =>
  split
  · next cause =>
    simp only [reduceCtorEq, false_iff]
    rintro ⟨-, mains, flood, -⟩
    rw [mains, flood] at cause
    cases cause
  next sound =>
  simp only [Bool.or_eq_true, not_or, Bool.not_eq_true] at sound
  split
  · next open_ =>
    simp only [reduceCtorEq, false_iff]
    rintro ⟨-, -, -, none⟩
    obtain ⟨b, hb, e⟩ := List.any_eq_true.mp open_
    exact none b hb (beq_iff_eq.mp e)
  · next none =>
    refine ⟨fun _ => ⟨by simpa using down, sound.1, sound.2, fun b hb e => none ?_⟩, fun _ => rfl⟩
    exact List.any_eq_true.mpr ⟨b, hb, beq_iff_eq.mpr e⟩

/-- A stand-down in progress ended early, with its report. -/
def endEarly (v : Base) (f : Flow) : Flow :=
  match f.regime.progress with
  | some p => stoodDownReport v p true f
  | none => f

/-- The regime record without the mark, the progress and the left list. -/
def Regime.resumed (r : Regime) : Regime := { r with stoodDown := false, progress := none, left := [] }

/-- The condition of a resumed flight, with the batches thawed. -/
def thawed (v : Base) (f : Flow) : Flow := thawBatches (changeRegime v .resume Regime.resumed (endEarly v f))

theorem resumeFlight_eq (v : Base) (f : Flow) :
    resumeFlight v f = if trackerWorks (thawed v f).toPlant then reenterAll v (thawed v f) else thawed v f := rfl

theorem toPlant_endEarly (v : Base) (f : Flow) : (endEarly v f).toPlant = f.toPlant := by
  unfold endEarly
  split <;> rfl

theorem out_endEarly_none {v : Base} {f : Flow} (h : f.regime.progress = none) : (endEarly v f).out = f.out := by
  unfold endEarly
  rw [h]

theorem out_endEarly_some {v : Base} {f : Flow} {p : Progress} (h : f.regime.progress = some p) :
    (endEarly v f).out = f.out ++ [stoodDownNow v f.regime.left p true] := by
  unfold endEarly
  rw [h]
  rfl

theorem tracked_resumeFlight (v : Base) (f : Flow) : Tracked (thawed v f) (resumeFlight v f) := by
  rw [resumeFlight_eq]
  exact ite_of (P := Tracked (thawed v f)) ((tracked_rules _).reenterAll (Tracked.refl _) v fun _ => trivial) (Tracked.refl _)

/-- What the thawed flight is. -/
theorem thawed_leaves (v : Base) (f : Flow) (h : f.regime.stoodDown = true) :
    (thawed v f).regime = f.regime.resumed ∧ (∀ b ∈ (thawed v f).batches, b.frozen = false)
    ∧ (thawed v f).passages = f.passages ∧ (thawed v f).accounts = f.accounts
    ∧ (endEarly v f).out ++ [flightNow v f.regime.resumed .resume] <+: (thawed v f).out := by
  have plant := toPlant_changeRegime v .resume Regime.resumed (endEarly v f)
  have same := toPlant_endEarly v f
  have regime : (endEarly v f).regime = f.regime := congrArg Plant.regime same
  have told := out_changeRegime_told v .resume Regime.resumed (endEarly v f) fun e => by
    have e := congrArg Regime.stoodDown e
    rw [regime, h] at e
    cases e
  rw [regime] at plant told
  rw [same] at plant
  unfold thawed
  generalize changeRegime v .resume Regime.resumed (endEarly v f) = k at plant told ⊢
  refine ⟨(congrArg Plant.regime plant).trans rfl, fun b hb => ?_, (congrArg Plant.passages plant).trans rfl,
    (congrArg Plant.accounts plant).trans rfl, told⟩
  obtain ⟨x, -, rfl⟩ := List.mem_map.mp hb
  rfl

/-! ## STANDDOWN and the deadline (09/R160, R164) -/

/-- What a stand-down makes of the sluices, told of the state it began in. -/
theorem Downed.sluices {v : Base} {c : StateCause} {a f : Flow} (d : Downed v c a f) (g : Fin 4) :
    let worked : Prop := (a.channels.nth g).st ≠ .idle ∨ (a.sluices.nth g).pos ≠ 0 ∨ (a.sluices.nth g).cmd ≠ 0
    ((a.sluices.nth g).st ≠ .fault → (f.sluices.nth g).cmd = 0 ∧ (f.sluices.nth g).pos = (a.sluices.nth g).pos)
    ∧ ((a.sluices.nth g).st = .fault → f.sluices.nth g = a.sluices.nth g)
    ∧ ((⟨true, g, .fault⟩ : LeftEntry) ∈ f.regime.left ↔ (a.sluices.nth g).st = .fault ∧ worked)
    ∧ (f.regime.awaits true g = true ↔ (a.sluices.nth g).st ≠ .fault ∧ worked
      ∧ ¬ ((f.sluices.nth g).st = .steady ∧ (f.sluices.nth g).pos = 0)) := by
  intro worked
  obtain ⟨z, cancelled, down⟩ := d.water g
  obtain ⟨pos, fault, sound⟩ := cancelled.stands
  have st : z.st = .fault ↔ (a.sluices.nth g).st = .fault :=
    ⟨fun e => Decidable.not_not.mp fun c => sound c e, fun e => by rw [fault e, e]⟩
  have same : z.worked (decide ((a.channels.nth g).st ≠ .idle)) ↔ worked := by
    unfold Sluice.worked
    by_cases idle : (a.channels.nth g).st = .idle
    · rw [(cancelled.idle idle).2]
      simp [worked, idle]
    · simp [worked, idle]
  refine ⟨fun c => ?_, fun c => ?_, ?_, ?_⟩
  · obtain ⟨cmd, stands⟩ := down.sent fun e => c (st.mp e)
    exact ⟨cmd, stands.trans pos⟩
  · exact (down.fault (st.mpr c)).trans (fault c)
  · refine (down.left .fault).trans ?_
    rw [st, same]
    simp
  · refine down.awaited.trans ?_
    rw [ne_eq, st, same]

/-- What a stand-down makes of the gates and of the progress, told of the state it began in. -/
theorem Downed.progress {v : Base} {c : StateCause} {a f : Flow} (d : Downed v c a f) :
    ∃ p, f.regime.progress = some p ∧ p.since = v.elapsed ∧ p.heads = true
      ∧ ∀ g, (p.gates.nth g = true ↔ (a.gates.nth g).st ≠ .shut ∧ leftReason v a.toPlant g = none)
        ∧ (p.sluices.nth g = true ↔ f.regime.awaits true g = true) := by
  obtain ⟨p, hp, since, heads⟩ := d.underway
  refine ⟨p, hp, since, heads, fun g => ⟨?_, by rw [awaits_of_progress hp]; rfl⟩⟩
  rw [← (d.gates g).awaited, show (f.regime.entry false g).1 = p.gates.nth g from awaits_of_progress hp false g]

theorem exec_standdown {rq : Rq} {s t : State} (adm : Admitted s rq 0) (h : s.plant.regime.stoodDown = false)
    (ht : s.conclude (standDown s.base .keeper s.flow) = t) :
    exec (.standdown rq) s = .next (t.ok rq 0x64 (u1 t.plant.regime.condition.code ++ b1 t.plant.regime.progress.isSome)) := by
  refine congrArg _ (serve_accept adm ?_)
  simp only [h, Bool.false_eq_true, if_false, ht]

theorem exec_deadlineExpiry {k : Nat} {s : State} (hp : s.powered = true) (hk : s.plant.regime.deadline = .running k)
    (due : k ≤ s.base.elapsed) : exec .deadlineExpiry s = .next (s.conclude (expireDeadline s.base s.flow)) := by
  show execDeadlineExpiry s = _
  unfold execDeadlineExpiry
  rw [if_pos]
  rw [hp, hk]
  simpa only [Deadline.due, Bool.true_and, decide_eq_true_eq] using due

/-- The deadline out, and told of. -/
def expired (v : Base) (f : Flow) : Flow :=
  raise v .alarm 0x0F (b1 f.regime.stoodDown) (setRegime (fun r => { r with deadline := .expired }) f)

theorem expireDeadline_eq (v : Base) (f : Flow) : expireDeadline v f =
    if (expired v f).regime.stoodDown then flightReport v .deadline (expired v f) else standDown v .deadline (expired v f) := rfl

/-- Settles O59: one account of a stand-down for its two occasions; RESUME by what bars it; the outcomes of what is awaited. -/
theorem standDownAndResumeAct : Obligations.StandDownAndResumeAct := by
  unfold Obligations.StandDownAndResumeAct
  intro why worked down
  have fits {s : State} {c : StateCause} {a f : Flow} (d : Downed s.base c a f)
      (start : a.toPlant = { s.plant with regime := { s.plant.regime with deadline := a.regime.deadline } }) : down s f := by
    have plant {α : Type} (x : Plant → α) := congrArg x start
    have gates : a.gates = s.plant.gates := plant (·.gates)
    have channels : a.channels = s.plant.channels := plant (·.channels)
    have sluices : a.sluices = s.plant.sluices := plant (·.sluices)
    have regime : a.regime = { s.plant.regime with deadline := a.regime.deadline } := plant (·.regime)
    have passing : a.toPlant.passingSet = s.plant.passingSet := plant (·.passingSet)
    have reason (g : Fin 4) : leftReason s.base a.toPlant g = why s g := by
      unfold leftReason
      dsimp only
      rw [passing, gates]
    have each := d.regime
    rw [regime, passing] at each
    obtain ⟨p, hp, since, heads, awaited⟩ := d.progress
    refine ⟨by rw [each], by rw [each], by rw [each], by rw [each], by rw [each], by rw [each], d.heads, d.frozen,
      d.passages.trans (plant (·.passages)), d.accounts.trans (plant (·.accounts)), fun g => ?_, fun g => ?_,
      p, hp, since, heads, fun g => ⟨?_, ?_⟩⟩
    · obtain ⟨z, cancelled, -⟩ := d.water g
      obtain ⟨sent, left, listed, -⟩ := d.sluices g
      rw [channels] at cancelled
      rw [channels, sluices] at listed
      rw [sluices] at sent left
      exact ⟨cancelled.active, fun c => (cancelled.idle c).1, sent, left, listed⟩
    · have g' := d.gates g
      rw [gates, reason] at g'
      refine ⟨g'.kept, fun ⟨st, sends⟩ => ?_, g'.left⟩
      have sent := g'.sent st sends
      exact ⟨sent.owner, sent.hold, sent.closing, sent.opening, sent.stopped, sent.waits, sent.closes⟩
    · have k := (awaited g).1
      rw [gates, reason] at k
      exact k
    · have k := (awaited g).2.trans (d.sluices g).2.2.2
      rw [channels, sluices] at k
      exact k
  refine ⟨fun rq s adm => ?requests, fun k s hp hk => ?deadline, fun v g f p hp => ?outcomes, fun v f p hp hg hs => ?round⟩
  case requests =>
    intro body
    refine ⟨fun h => ?_, fun h => ?_, fun h => ?_, resumeBar_none s.plant, fun h => ?_⟩
    · refine congrArg _ (serve_accept adm ?_)
      rw [h]
      rfl
    · have d := downed_standDown s.base .keeper s.flow
      exact ⟨_, exec_standdown adm h rfl, fits d rfl, head?_of_prefix d.out⟩
    · refine congrArg _ (serve_refuse adm ?_)
      cases e : resumeBar s.plant with
      | none => exact absurd e h
      | some b => rfl
    · obtain ⟨stood, -⟩ := (resumeBar_none s.plant).mp h
      obtain ⟨regime, thaw, passages, accounts, told⟩ := thawed_leaves s.base s.flow stood
      have track := tracked_resumeFlight s.base s.flow
      refine ⟨resumeFlight s.base s.flow, ?_, track.regime.trans regime, track.frozen thaw, track.passages.trans passages,
        track.accounts.trans accounts, ?_⟩
      · refine congrArg _ (serve_accept adm ?_)
        simp only [h]
      · obtain ⟨more, e⟩ := told.trans track.out
        refine ⟨more, ?_⟩
        rw [← e, List.append_assoc]
        congr 1
        cases underway : s.plant.regime.progress with
        | none => exact out_endEarly_none underway
        | some p => exact out_endEarly_some underway
  case deadline =>
    intro spent told
    refine ⟨fun early => ?_, fun due stood => ?_, fun due stood => ?_⟩
    · show execDeadlineExpiry s = _
      unfold execDeadlineExpiry
      rw [if_neg]
      rw [hp, hk]
      simp only [Deadline.due, Bool.true_and, decide_eq_true_eq]
      omega
    · refine ⟨_, exec_deadlineExpiry hp hk due, ?_⟩
      rw [expireDeadline_eq, if_pos (show (expired s.base s.flow).regime.stoodDown = true from stood)]
      exact ⟨rfl, rfl⟩
    · refine ⟨_, exec_deadlineExpiry hp hk due, ?_⟩
      have up : ¬ (expired s.base s.flow).regime.stoodDown = true := by
        rw [show (expired s.base s.flow).regime.stoodDown = false from stood]
        decide
      rw [expireDeadline_eq, if_neg up]
      have d := downed_standDown s.base .deadline (expired s.base s.flow)
      obtain ⟨more, e⟩ := d.out
      exact ⟨by rw [d.regime]; rfl, fits d rfl, more, e.symm⟩
  case outcomes =>
    intro x y gate sluice failed
    have gateEnds := ends_at (sl := false) (g := g) hp
    have sluiceEnds := ends_at (sl := true) (g := g) hp
    have gateAwait : f.regime.awaits false g = p.gates.nth g := awaits_of_progress hp false g
    have sluiceAwait : f.regime.awaits true g = p.sluices.nth g := awaits_of_progress hp true g
    refine ⟨?_, ?_, fun h => settleGate_idle (gateAwait.trans h), fun h => settleSluice_waits fun c => ?_, fun h st => ?_,
      fun r h o => ?_, fun h st o => settleGate_waits (gateAwait.trans h) st o, fun h st => ?_, fun h st pos => ?_,
      fun h st moving => settleSluice_waits fun _ => ⟨st, fun ⟨c, z⟩ => moving.elim (· c) (· z)⟩⟩
    · unfold settleGate
      dsimp only
      (repeat' split) <;> rfl
    · unfold settleSluice
      dsimp only
      (repeat' split) <;> rfl
    · rw [sluiceAwait, h] at c
      cases c
    · rw [settleGate_shut (gateAwait.trans h) st]
      exact gateEnds.1
    · rw [settleGate_failed (gateAwait.trans h) o]
      exact gateEnds.2 r
    · rw [settleSluice_failed (sluiceAwait.trans h) st]
      exact sluiceEnds.2 _
    · rw [settleSluice_done (sluiceAwait.trans h) st pos]
      exact sluiceEnds.1
  case round =>
    exact ⟨followProgress_ends hp hg hs, followProgress_waits hp hg hs⟩

end Sys2Proof.Machine
end

section
/-! What the Tracker's requests make of one gate and of one head (02/R23 to R27; 04/R66 to R68). -/

namespace Sys2Proof.Machine

/-! ## One gate -/

theorem gateBarred_iff {b : Nat} {g : Fin 4} {f : Flow} : gateBarred b g f = true ↔ f.regime.mode = .manual
    ∨ (f.gates.nth g).st = .fault ∨ ¬ ((f.gates.nth g).owner = .none ∨ (f.gates.nth g).owner = .batch b) := by
  simp [gateBarred, or_assoc]

/-- The gate is out of FAULT, and owned by no one or by the batch. -/
def MayMove (id : Nat) (g : Fin 4) (f : Flow) : Prop :=
  (f.gates.nth g).st ≠ .fault ∧ ((f.gates.nth g).owner = .none ∨ (f.gates.nth g).owner = .batch id)

theorem not_barred {b : Nat} {g : Fin 4} {f : Flow} (auto : f.regime.mode = .auto) (may : MayMove b g f) :
    gateBarred b g f = false := by
  rw [← Bool.not_eq_true, gateBarred_iff]
  rintro (man | st | owner)
  · rw [auto] at man
    cases man
  · exact may.1 st
  · exact owner may.2

theorem barred_of_other {a b : Nat} {g : Fin 4} {f : Flow} (h : (f.gates.nth g).owner = .batch a) (ne : a ≠ b) :
    gateBarred b g f = true :=
  gateBarred_iff.mpr (.inr (.inr (by rw [h]; simpa using ne)))

theorem askOpen_barred {v : Base} {b : Nat} {g : Fin 4} {f : Flow} (h : gateBarred b g f = true) :
    askOpen v b g f = (.refused, f) := if_pos h

theorem askClose_barred {v : Base} {b : Nat} {g : Fin 4} {f : Flow} (h : gateBarred b g f = true) :
    askClose v b g f = (.refused, f) := if_pos h

/-- The gate is the batch's: OPENING where the interlock permits, and otherwise SHUT with the OPEN waiting. -/
def OpensFor (v : Base) (id : Nat) (g : Fin 4) (f k : Flow) : Prop := (k.gates.nth g).owner = .batch id
  ∧ (openInterlock v f.toPlant g = true → (k.gates.nth g).st = .opening)
  ∧ (openInterlock v f.toPlant g = false → (k.gates.nth g).st = .shut ∧ (k.gates.nth g).ask = some (.openFor id))

section Ask

variable (v : Base) (b : Nat) (g : Fin 4) (f : Flow)

theorem gateBecomes_withdrawOpen : GateBecomes g f (withdrawOpen b g f) ((f.gates.nth g).withdrawn b) [] :=
  (gateBecomes_refl g f).set _

theorem ask_withdrawn (x : Gate) : (x.withdrawn b).ask ≠ some (.openFor b) := by
  unfold Gate.withdrawn
  split
  · simp
  · next h => exact h

theorem gateBecomes_releaseGate : ∃ rs, GateBecomes g f (releaseGate v b g f) { f.gates.nth g with
    owner := if (f.gates.nth g).owner = .batch b then .none else (f.gates.nth g).owner } rs := by
  unfold releaseGate
  split
  · next h => exact ⟨_, by simpa only [h, if_true] using (gateBecomes_refl g f).own v .none⟩
  · exact ⟨_, gateBecomes_refl g f⟩

theorem gateBecomes_yieldGate : ∃ rs, GateBecomes g f (yieldGate v b g f) { f.gates.nth g with
    owner := if (f.gates.nth g).owner = .batch b then .keeper else (f.gates.nth g).owner } rs := by
  unfold yieldGate
  split
  · next h => exact ⟨_, by simpa only [h, if_true] using (gateBecomes_refl g f).own v .keeper⟩
  · exact ⟨_, gateBecomes_refl g f⟩

/-- An OPEN changes the one gate. -/
theorem gateBecomes_askOpen : ∃ y rs, GateBecomes g f (askOpen v b g f).2 y rs := by
  have same := gateBecomes_refl g f
  unfold askOpen
  split
  · exact ⟨_, _, same⟩
  · dsimp only
    split
    · split
      · exact ⟨_, _, (same.setOwner _).startOpening v⟩
      · exact ⟨_, _, (same.own v (.batch b)).set fun x => { x with ask := some (.openFor b) }⟩
    · exact ⟨_, _, same.own v _⟩
    · exact ⟨_, _, same.own v _⟩
    · exact ⟨_, _, same⟩

/-- A CLOSE changes the one gate, and leaves no OPEN waiting that did not wait. -/
theorem gateBecomes_askClose : ∃ y rs, GateBecomes g f (askClose v b g f).2 y rs
    ∧ (y.ask = (f.gates.nth g).ask ∨ y.ask = none ∨ y.ask = some (.closeFor b)) := by
  have same := gateBecomes_refl g f
  unfold askClose
  split
  · exact ⟨_, _, same, .inl rfl⟩
  · dsimp only
    split
    · split
      · exact ⟨_, _, (same.own v (.batch b)).set fun x => { x with ask := some (.closeFor b) }, .inr (.inr rfl)⟩
      · unfold takeCloseFor
        split
        · next beam => exact ⟨_, _, (same.own v _).takeClose_blocked v beam, .inr (.inl rfl)⟩
        · next beam => exact ⟨_, _, (same.setOwner _).takeClose_clear v (by simpa using beam), .inr (.inl rfl)⟩
    · exact ⟨_, _, (same.own v (.batch b)).set fun x => { x with ask := some (.closeFor b) }, .inr (.inr rfl)⟩
    · exact ⟨_, _, same.own v _, .inl rfl⟩

variable {v b g f} (h : gateBarred b g f = false)

include h

theorem askOpen_shut (st : (f.gates.nth g).st = .shut) : OpensFor v b g f (askOpen v b g f).2 := by
  have same := gateBecomes_refl g f
  unfold OpensFor askOpen
  rw [if_neg (by rw [h]; decide)]
  simp only [st]
  cases i : openInterlock v f.toPlant g with
  | true =>
    rw [if_pos rfl, ((same.setOwner (.batch b)).startOpening v).gate]
    exact ⟨rfl, fun _ => rfl, fun c => nomatch c⟩
  | false =>
    rw [if_neg (by decide), ((same.own v (.batch b)).set _).gate]
    exact ⟨rfl, fun c => (nomatch c), fun _ => ⟨st, rfl⟩⟩

theorem askOpen_open (st : (f.gates.nth g).st = .opening ∨ (f.gates.nth g).st = .opened) :
    askOpen v b g f = (.accepted, ownGate v g (.batch b) f) := by
  unfold askOpen
  rw [if_neg (by rw [h]; decide)]
  obtain st | st := st <;> simp only [st]

theorem askClose_lit (st : (f.gates.nth g).st = .opened) (lit : f.toPlant.gateLit g = true) :
    ∃ k rs, askClose v b g f = (.accepted, k)
      ∧ GateBecomes g f k { f.gates.nth g with owner := .batch b, ask := some (.closeFor b) } rs := by
  refine ⟨_, _, ?_, ((gateBecomes_refl g f).own v (.batch b)).set fun x => { x with ask := some (.closeFor b) }⟩
  unfold askClose
  rw [if_neg (by rw [h]; decide)]
  simp only [st, lit, if_true]

theorem askClose_dark (st : (f.gates.nth g).st = .opened) (dark : f.toPlant.gateLit g = false)
    (beam : v.pins.beam.nth g = false) : ∃ k y rs, askClose v b g f = (.accepted, k) ∧ GateBecomes g f k y rs
      ∧ y.st = .closing ∧ y.owner = .batch b ∧ y.ask = none := by
  refine ⟨_, _, _, ?_, ((gateBecomes_refl g f).setOwner (.batch b)).takeClose_clear v beam, rfl, rfl, rfl⟩
  unfold askClose takeCloseFor
  rw [if_neg (by rw [h]; decide)]
  simp only [st, dark, beam, Bool.false_eq_true, if_false]

end Ask

/-! ## One head -/

/-- The head shows and stages a stopping aspect, and no other holds it. -/
def MayStage (id : Nat) (h : Fin 8) (f : Flow) : Prop := (f.heads.nth h).shown.stopping = true
  ∧ (f.heads.nth h).staged.stopping = true ∧ ((f.heads.nth h).holder = .none ∨ (f.heads.nth h).holder = .batch id)

/-- The aspect staged for the batch, and shown unless it is pending. -/
def StagedFor (id : Nat) (a : Aspect) (x : Head) : Prop :=
  x.staged = a ∧ x.holder = .batch id ∧ (x.pending = false → x.shown = a)

section Stage

variable (v : Base) (id : Nat) (h : Fin 8) (a : Aspect) (f : Flow)

theorem headBecomes_releaseHead : ∃ x rs, HeadBecomes h f (releaseHead v id h f) x rs ∧ x.holder ≠ .batch id := by
  have same := headBecomes_refl h f
  unfold releaseHead
  split
  · refine ⟨_, _, same.change v _, ?_⟩
    rw [(headAfter_keeps _ _ _ _).2.2.1]
    nofun
  · next n => exact ⟨_, _, same, n⟩

theorem headBecomes_stageFor : ∃ x rs, HeadBecomes h f (stageFor v id h a f) x rs := by
  have same := headBecomes_refl h f
  unfold stageFor
  dsimp only
  split
  · exact ⟨_, _, same⟩
  split
  · exact ⟨_, _, same⟩
  have staged := same.change v (Head.stageGreen a (.batch id))
  split
  · obtain ⟨-, b⟩ | ⟨-, b⟩ := staged.tries (v := v) <;> exact ⟨_, _, b⟩
  · obtain ⟨-, b⟩ | ⟨-, b⟩ := (staged.told v .signal 0x60 _).tries (v := v) <;> exact ⟨_, _, b⟩

theorem headBecomes_wantAspect : ∃ x rs, HeadBecomes h f (wantAspect v id h a f) x rs := by
  unfold wantAspect
  dsimp only
  split
  · exact ⟨_, _, headBecomes_refl h f⟩
  · exact headBecomes_stageFor v id h a f

variable {id h a f}

/-- What a green staged leaves of the head, applied or pending. -/
theorem stagedFor_tryGreen {k : Flow} (staged : (k.heads.nth h).staged = a) (holder : (k.heads.nth h).holder = .batch id)
    (pending : (k.heads.nth h).pending = true) : StagedFor id a ((tryGreen v h k).heads.nth h) := by
  obtain ⟨e, -⟩ | ⟨-, b⟩ := (headBecomes_refl h k).tries (v := v)
  · rw [e]
    exact ⟨staged, holder, fun c => by rw [pending] at c; cases c⟩
  · obtain ⟨staged', -, holder', -⟩ := headAfter_keeps v h Head.green (k.heads.nth h)
    rw [b.head]
    exact ⟨staged'.trans staged, holder'.trans holder, fun _ => (shown_headAfter _ _ _ _).trans staged⟩

/-- A green staged for the batch on a head it may stage. -/
theorem stagedFor_wantAspect (green : a.stopping = false) (auto : f.regime.mode = .auto)
    (up : f.regime.condition ≠ .stoodDown) (may : MayStage id h f) :
    StagedFor id a ((wantAspect v id h a f).heads.nth h) := by
  obtain ⟨shown, staged, holder⟩ := may
  have open_ : stagingRefused id h a f = false := by
    unfold stagingRefused
    simpa [green, auto, up, or_iff_not_imp_left] using holder
  have fresh : ¬ ((f.heads.nth h).staged = a ∧ (f.heads.nth h).holder = .batch id) := fun c => by
    rw [c.1, green] at staged
    cases staged
  have new : ¬ ((f.heads.nth h).shown = a ∧ (f.heads.nth h).pending = false) := fun c => by
    rw [c.1, green] at shown
    cases shown
  have b := (headBecomes_refl h f).change v (Head.stageGreen a (.batch id))
  obtain ⟨staged', pending', holder', -⟩ := headAfter_keeps v h (Head.stageGreen a (.batch id)) (f.heads.nth h)
  rw [← b.head] at staged' pending' holder'
  unfold wantAspect stageFor
  dsimp only
  rw [if_neg fresh, if_neg (by rw [open_]; decide), if_neg new]
  split
  · exact stagedFor_tryGreen v staged' holder' pending'
  · exact stagedFor_tryGreen v staged' holder' pending'

end Stage

end Sys2Proof.Machine
end

section
/-! A batch's levelling ahead, and its entry to a step (07/R121, R124 to R126). -/

namespace Sys2Proof.Machine

/-! ## What a claim and a levelling change -/

/-- The gates, the heads, the passages and the regime record stand; the record of batch `id` changes by `R`. -/
structure OnlyRecord (R : Batch → Batch → Prop) (id : Nat) (f k : Flow) : Prop where
  gates : k.gates = f.gates
  heads : k.heads = f.heads
  passages : k.passages = f.passages
  regime : k.regime = f.regime
  batch : ∀ b, f.toPlant.batch? id = some b → ∃ y, k.toPlant.batch? id = some y ∧ R b y

theorem OnlyRecord.trans {R S T : Batch → Batch → Prop} (hT : ∀ {x y z}, R x y → S y z → T x z) {id : Nat} {f k m : Flow}
    (h : OnlyRecord R id f k) (j : OnlyRecord S id k m) : OnlyRecord T id f m := by
  refine ⟨j.gates.trans h.gates, j.heads.trans h.heads, j.passages.trans h.passages, j.regime.trans h.regime, fun b hb => ?_⟩
  obtain ⟨y, hy, r⟩ := h.batch b hb
  obtain ⟨z, hz, s⟩ := j.batch y hy
  exact ⟨z, hz, hT r s⟩

/-- A batch record with another levelling. -/
def Batch.Reowned (b y : Batch) : Prop := ∃ o, y = { b with own := o }

/-- A batch record with another levelling and another target. -/
def Batch.Reclaimed (b y : Batch) : Prop := ∃ o t, y = { b with own := o, target := t }

theorem Batch.Reowned.refl (b : Batch) : b.Reowned b := ⟨b.own, rfl⟩

theorem Batch.Reowned.trans {x y z : Batch} (h : x.Reowned y) (j : y.Reowned z) : x.Reowned z := by
  obtain ⟨o, rfl⟩ := h
  obtain ⟨o', rfl⟩ := j
  exact ⟨o', rfl⟩

theorem Batch.Reowned.reclaimed {b y : Batch} (h : b.Reowned y) : b.Reclaimed y := by
  obtain ⟨o, rfl⟩ := h
  exact ⟨o, b.target, rfl⟩

/-- A levelling asked changes this alone of a batch. -/
abbrev OwnOnly (id : Nat) (f k : Flow) : Prop := OnlyRecord Batch.Reowned id f k

/-- A claim changes this alone of a batch. -/
abbrev ClaimOnly (id : Nat) (f k : Flow) : Prop := OnlyRecord Batch.Reclaimed id f k

theorem OwnOnly.refl (id : Nat) (f : Flow) : OwnOnly id f f := ⟨rfl, rfl, rfl, rfl, fun b h => ⟨b, h, .refl b⟩⟩

theorem OwnOnly.also {id : Nat} {f k m : Flow} (h : OwnOnly id f k) (j : OwnOnly id k m) : OwnOnly id f m :=
  OnlyRecord.trans (R := Batch.Reowned) (S := Batch.Reowned) Batch.Reowned.trans h j

theorem OwnOnly.claimOnly {id : Nat} {f k : Flow} (h : OwnOnly id f k) : ClaimOnly id f k :=
  OnlyRecord.trans (fun r s => (r.trans s).reclaimed) (OwnOnly.refl id f) h

theorem Watery.batch? {a f : Flow} (h : Watery a f) (id : Nat) : f.toPlant.batch? id = a.toPlant.batch? id := by
  obtain ⟨-, -, -, -, batches, -⟩ := h.water
  unfold Plant.batch?
  rw [batches]

theorem Watery.ownOnly {a f : Flow} (h : Watery a f) (id : Nat) : OwnOnly id a f := by
  obtain ⟨gates, heads, passages, -, -, -, -, -, regime⟩ := h.water
  exact ⟨gates, heads, passages, regime, fun b hb => ⟨b, (h.batch? id).trans hb, .refl b⟩⟩

theorem Reduced.ownOnly {f k : Flow} (h : Reduced f k) (id : Nat) : OwnOnly id f k := by
  have same {α : Type} (x : Plant → α) := congrArg x h.plant
  exact ⟨same (·.gates), same (·.heads), same (·.passages), same (·.regime), fun b hb =>
    ⟨b, (same (·.batch? id)).trans hb, .refl b⟩⟩

theorem ownOnly_setOwn (id : Nat) (o : Option (Fin 4 × Purpose)) (f : Flow) :
    OwnOnly id f (setBatch id (fun b => { b with own := o }) f) :=
  ⟨rfl, rfl, rfl, rfl, fun b hb => ⟨{ b with own := o },
    batch?_setBatch_same (fn := fun b => { b with own := o }) (fun _ => by rfl) hb, o, rfl⟩⟩

theorem watery_cancelOwn {a f : Flow} (h : Watery a f) (v : Base) (b : Batch) : Watery a (cancelOwn v b f) := by
  unfold cancelOwn
  split
  · exact h
  · exact (watery_rules a).cancelFor h v (g := _) trivial _

/-! ## A levelling asked (07/R121, R124) -/

section Ask

variable {v : Base} {b : Batch} {g : Fin 4} {p : Purpose} {f : Flow}

theorem askOwn_taken (h : (requestLevelling v g p f).1 = .taken) : askOwn v b g p f =
    setBatch b.id (fun b => { b with own := some (g, p) })
      (if b.own = some (g, p) then (requestLevelling v g p f).2 else cancelOwn v b (requestLevelling v g p f).2) := by
  unfold askOwn
  rcases e : requestLevelling v g p f with ⟨why | _, k⟩
  · rw [e] at h
    cases h
  · rfl

theorem askOwn_refused (h : (requestLevelling v g p f).1 ≠ .taken) : askOwn v b g p f = (requestLevelling v g p f).2 := by
  unfold askOwn
  rcases e : requestLevelling v g p f with ⟨why | _, k⟩
  · rfl
  · rw [e] at h
    exact absurd rfl h

theorem ownOnly_askOwn (v : Base) (b : Batch) (g : Fin 4) (p : Purpose) (f : Flow) : OwnOnly b.id f (askOwn v b g p f) := by
  have asked := watery_requestLevelling v g p f
  by_cases h : (requestLevelling v g p f).1 = .taken
  · rw [askOwn_taken h]
    have freed : Watery f (if b.own = some (g, p) then (requestLevelling v g p f).2
        else cancelOwn v b (requestLevelling v g p f).2) := ite_of (P := Watery f) asked (watery_cancelOwn asked v b)
    exact (freed.ownOnly b.id).also (ownOnly_setOwn b.id _ _)
  · rw [askOwn_refused h]
    exact asked.ownOnly b.id

/-- The cancellation of another levelling leaves the channel that works for `p`. -/
theorem cancelOwn_elsewhere {v : Base} {b : Batch} {g : Fin 4} {p : Purpose} {f : Flow} (own : b.own ≠ some (g, p))
    (req : (f.channels.nth g).req = some p) : (cancelOwn v b f).channels.nth g = f.channels.nth g := by
  unfold cancelOwn
  split
  · rfl
  next g' p' e =>
  by_cases h : (f.channels.nth g').req = some p'
  · rw [cancelFor_own h]
    refine (cancelChannel_elsewhere (fun c => ?_) f).1
    subst c
    rw [req] at h
    exact own (by rw [e, Option.some.inj h])
  · rw [cancelFor_other h]

variable (hb : f.toPlant.batch? b.id = some b) (auto : f.regime.mode = .auto) (up : f.regime.condition ≠ .stoodDown)
  (idle : (f.channels.nth g).st = .idle) (shut : (f.gates.nth g).st = .shut) (usable : levelsUsable v g (some p) = true)

include hb auto up idle shut usable

/-- A levelling asked of an IDLE channel of a SHUT gate is the batch's own. -/
theorem askOwn_takes : ((askOwn v b g p f).channels.nth g).req = some p ∧ ((askOwn v b g p f).channels.nth g).st ≠ .idle
    ∧ (askOwn v b g p f).toPlant.batch? b.id = some { b with own := some (g, p) } := by
  have taken : (requestLevelling v g p f).1 = .taken := by
    rw [requestLevelling_idle auto up idle, if_neg (by rw [shut, usable]; simp)]
  obtain ⟨req, st⟩ := requestLevelling_taken taken
  have asked := watery_requestLevelling v g p f
  rw [askOwn_taken taken]
  generalize (requestLevelling v g p f).2 = m at req st asked ⊢
  have freed : Watery f (if b.own = some (g, p) then m else cancelOwn v b m) :=
    ite_of (P := Watery f) asked (watery_cancelOwn asked v b)
  have same : (if b.own = some (g, p) then m else cancelOwn v b m).channels.nth g = m.channels.nth g := by
    split
    · rfl
    · next own => exact cancelOwn_elsewhere own req
  generalize (if b.own = some (g, p) then m else cancelOwn v b m) = n at freed same ⊢
  have channels : (setBatch b.id (fun b => { b with own := some (g, p) }) n).channels = n.channels := rfl
  rw [channels, same]
  exact ⟨req, st, batch?_setBatch_same (fn := fun b => { b with own := some (g, p) }) (fun _ => by rfl)
    ((freed.batch? b.id).trans hb)⟩

end Ask

/-! ## The chamber ahead claimed (07/R124) -/

section Claim

variable {v : Base} {id : Nat} {f : Flow} {b : Batch} (h : f.toPlant.batch? id = some b)

include h

theorem askAhead_has (own : b.own = some (b.ahead, .ahead id)
    ∨ ((f.channels.nth b.ahead).st = .level ∧ (f.channels.nth b.ahead).req = some .keeper)) : askAhead v id f = f := by
  have hid := id_of_batch? h
  unfold askAhead
  simp only [h]
  refine if_pos (own.imp_left fun e => ?_)
  rw [Batch.ownsAhead, hid]
  exact beq_iff_eq.mpr e

theorem askAhead_asks (own : b.own ≠ some (b.ahead, .ahead id))
    (other : ¬ ((f.channels.nth b.ahead).st = .level ∧ (f.channels.nth b.ahead).req = some .keeper)) :
    askAhead v id f = askOwn v b b.ahead (.ahead id) f := by
  have hid := id_of_batch? h
  unfold askAhead
  simp only [h]
  refine if_neg fun c => c.elim (fun e => own ?_) other
  rw [Batch.ownsAhead, hid] at e
  exact beq_iff_eq.mp e

omit h in
theorem ownOnly_askAhead (v : Base) (id : Nat) (f : Flow) : OwnOnly id f (askAhead v id f) := by
  cases h : f.toPlant.batch? id with
  | none =>
    have e : askAhead v id f = f := by
      unfold askAhead
      simp only [h]
    rw [e]
    exact .refl id f
  | some b =>
    by_cases c : b.own = some (b.ahead, .ahead id)
        ∨ ((f.channels.nth b.ahead).st = .level ∧ (f.channels.nth b.ahead).req = some .keeper)
    · rw [askAhead_has h c]
      exact .refl id f
    · rw [askAhead_asks h (fun e => c (.inl e)) (fun e => c (.inr e))]
      obtain rfl := id_of_batch? h
      exact ownOnly_askOwn v b _ _ f

/-- The chamber ahead is claimed, or in the last chamber there is none to claim. -/
def Batch.claimed (b : Batch) : Prop := b.target ≠ none ∨ b.dir.nextChamber b.at_ = none

theorem claimAhead_claimed (c : b.claimed) : claimAhead v id f = askAhead v id f := by
  unfold claimAhead
  simp only [h]
  split
  · next target next =>
    obtain c | c := c
    · exact absurd target c
    · rw [next] at c
      cases c
  · rfl

section Next

variable {n : Nat} (target : b.target = none) (next : b.dir.nextChamber b.at_ = some n)

include target next

theorem claimAhead_full (full : f.toPlant.occupants n ≠ [] ∨ f.toPlant.batchIn? n ≠ none) : claimAhead v id f = f := by
  unfold claimAhead
  simp only [h, target, next]
  refine if_neg fun c => ?_
  rw [List.isEmpty_iff, Option.isNone_iff_eq_none] at c
  exact full.elim (· c.1) (· c.2)

theorem claimAhead_empty (empty : f.toPlant.occupants n = []) (free : f.toPlant.batchIn? n = none) :
    claimAhead v id f = askAhead v id (tellOccupied v (setBatch id fun b => { b with target := some n }) f) := by
  unfold claimAhead
  simp only [h, target, next]
  rw [if_pos ⟨List.isEmpty_iff.mpr empty, Option.isNone_iff_eq_none.mpr free⟩]

end Next

omit h in
theorem claimOnly_claimAhead (v : Base) (id : Nat) (f : Flow) : ClaimOnly id f (claimAhead v id f) := by
  cases h : f.toPlant.batch? id with
  | none =>
    have e : claimAhead v id f = f := by
      unfold claimAhead
      simp only [h]
    rw [e]
    exact (OwnOnly.refl id f).claimOnly
  | some b =>
    by_cases c : b.claimed
    · rw [claimAhead_claimed h c]
      exact (ownOnly_askAhead v id f).claimOnly
    · obtain ⟨target, next⟩ := not_or.mp c
      obtain ⟨n, next⟩ := Option.ne_none_iff_exists'.mp next
      by_cases e : f.toPlant.occupants n = [] ∧ f.toPlant.batchIn? n = none
      · rw [claimAhead_empty h (not_not.mp target) next e.1 e.2]
        have set : OnlyRecord (fun x y => y = { x with target := some n }) id f (setBatch id (fun b => { b with target := some n }) f) :=
          ⟨rfl, rfl, rfl, rfl, fun x hx => ⟨_, batch?_setBatch_same (fn := fun b => { b with target := some n })
            (fun _ => by rfl) hx, rfl⟩⟩
        have rest := ((reduced_tellOccupied v (setBatch id fun b => { b with target := some n }) f).ownOnly id).also
          (ownOnly_askAhead v id _)
        refine set.trans (fun r s => ?_) rest
        obtain ⟨o, rfl⟩ := s
        exact ⟨o, some n, by rw [r]⟩
      · rw [claimAhead_full h (not_not.mp target) next (not_and_or.mp e)]
        exact (OwnOnly.refl id f).claimOnly

/-- The target claimed stays claimed. -/
theorem target_claimAhead {n : Nat} (target : b.target = none) (next : b.dir.nextChamber b.at_ = some n)
    (empty : f.toPlant.occupants n = []) (free : f.toPlant.batchIn? n = none) :
    ∃ y, (claimAhead v id f).toPlant.batch? id = some y ∧ y.target = some n ∧ y.step = b.step := by
  have told : (tellOccupied v (setBatch id fun b => { b with target := some n }) f).toPlant.batch? id
      = some { b with target := some n } := by
    have same := congrArg (fun p => p.batch? id) (reduced_tellOccupied v (setBatch id fun b => { b with target := some n }) f).plant
    exact same.trans (batch?_setBatch_same (fn := fun b => { b with target := some n }) (fun _ => by rfl) h)
  rw [claimAhead_empty h target next empty free]
  obtain ⟨y, hy, o, rfl⟩ := (ownOnly_askAhead v id _).batch _ told
  exact ⟨_, hy, rfl, rfl⟩

end Claim

end Sys2Proof.Machine
end

section
/-! A batch that enters a step: what it turns to, and what holds it at once (07/R119, R121, R125, R126, R129). -/

namespace Sys2Proof.Machine

/-! ## What a batch turns to -/

/-- The batch is in the step, its members, its direction and its chamber as they were. -/
def TurnsTo (b : Batch) (st : Step) (k : Flow) : Prop :=
  ∃ y, k.toPlant.batch? b.id = some y ∧ y.step = st ∧ y.members = b.members ∧ y.dir = b.dir ∧ y.chamber = b.chamber

/-- It is, or it is HELD in that step for a lost stopping signal. -/
def TurnsOrStops (b : Batch) (st : Step) (k : Flow) : Prop := TurnsTo b st k
  ∨ ∃ y, k.toPlant.batch? b.id = some y ∧ y.step = .held ∧ y.heldStep = some st ∧ y.causes.stopSignal = true

theorem turnsTo_reclaimed {b : Batch} {st : Step} {f k : Flow} (h : ClaimOnly b.id f k)
    (t : TurnsTo b st f) : TurnsTo b st k := by
  obtain ⟨y, hy, step, members, dir, chamber⟩ := t
  obtain ⟨z, hz, o, t, rfl⟩ := h.batch y hy
  exact ⟨_, hz, step, members, dir, chamber⟩

/-! ## The actions on entry -/

/-- The head of the step has lost its stopping signal. -/
def lostSignal (b : Batch) (st : Step) (f : Flow) : Bool :=
  match b.headOf st with
  | some h => (f.heads.nth h).lostRed
  | none => false

section Entry

variable {v : Base} {id : Nat} {st : Step} {f : Flow} {b : Batch} (h : f.toPlant.batch? id = some b)

include h

theorem entryActions_entering_lost (l : lostSignal b .entering f = true) :
    entryActions v id .entering f = hold v id .stopSignal f := by
  unfold entryActions
  simp only [h]
  exact if_pos l

theorem entryActions_entering_shown (l : lostSignal b .entering f = false) : entryActions v id .entering f =
    setBatch id (fun b => { b with berth := ⟨0, some v.elapsed⟩ }) f := by
  unfold entryActions
  simp only [h]
  refine if_neg fun c => ?_
  have c : lostSignal b .entering f = true := c
  rw [l] at c
  cases c

theorem entryActions_opening : entryActions v id .openingAhead f =
    if lostSignal b .openingAhead f then hold v id .stopSignal f else f := by
  unfold entryActions
  simp only [h]
  rfl

theorem entryActions_waiting : entryActions v id .waitingAhead f = claimAhead v id f := by
  unfold entryActions
  simp only [h]

theorem entryActions_shifting : entryActions v id .shifting f = if anyShifting f.toPlant b then
    setBatch id (fun x => { x with berth := ⟨x.berth.value v.elapsed, some v.elapsed⟩ }) f else f := by
  unfold entryActions
  simp only [h]

theorem entryActions_none (s : st = .sealing ∨ st = .levellingAhead ∨ st = .leaving) : entryActions v id st f = f := by
  unfold entryActions
  simp only [h]
  obtain rfl | rfl | rfl := s <;> rfl

end Entry

/-- What the entry to a step leaves of a batch that has just turned to it. -/
structure Enters (b : Batch) (st : Step) (f k : Flow) : Prop where
  heads : k.heads = f.heads
  turned : TurnsOrStops b st k
  calm : st ≠ .entering → st ≠ .openingAhead → TurnsTo b st k ∧ k.gates = f.gates

theorem enters_claimOnly {b : Batch} {st : Step} {f k : Flow} (t : TurnsTo b st f) (h : ClaimOnly b.id f k) : Enters b st f k := by
  have turned : TurnsTo b st k := turnsTo_reclaimed h t
  exact ⟨h.heads, .inl turned, fun _ _ => ⟨turned, h.gates⟩⟩

/-- A change of the berth timer. -/
theorem enters_setBerth {b : Batch} {st : Step} {f : Flow} {fn : Batch → BerthTimer} (t : TurnsTo b st f) :
    Enters b st f (setBatch b.id (fun x => { x with berth := fn x }) f) := by
  obtain ⟨y, hy, rest⟩ := t
  have turned : TurnsTo b st (setBatch b.id (fun x => { x with berth := fn x }) f) :=
    ⟨_, batch?_setBatch_same (fn := fun x => { x with berth := fn x }) (fun _ => by rfl) hy, rest⟩
  exact ⟨rfl, .inl turned, fun _ _ => ⟨turned, rfl⟩⟩

/-- A batch held as it enters the step. -/
theorem enters_hold {v : Base} {b : Batch} {st : Step} {f : Flow} (s : st = .entering ∨ st = .openingAhead)
    (t : TurnsTo b st f) : Enters b st f (hold v b.id .stopSignal f) := by
  obtain ⟨y, hy, step, -⟩ := t
  have held := heldFirst_hold (v := v) (c := .stopSignal) hy (by rw [step]; obtain rfl | rfl := s <;> decide)
  have heads := congrArg Plant.heads held.plant
  exact ⟨heads, .inr ⟨_, held.batch, rfl, congrArg some step, rfl⟩, fun e o => absurd s (not_or.mpr ⟨e, o⟩)⟩

/-- The steps that a batch is worked in. -/
def Step.worked (st : Step) : Prop := st ≠ .held ∧ st ≠ .unresolved

theorem enters_entryActions {v : Base} {b : Batch} {st : Step} {f : Flow} (w : st.worked) (t : TurnsTo b st f) :
    Enters b st f (entryActions v b.id st f) := by
  have here := t
  obtain ⟨y, hy, -⟩ := here
  have same : Enters b st f f := ⟨rfl, .inl t, fun _ _ => ⟨t, rfl⟩⟩
  cases st with
  | held => exact absurd rfl w.1
  | unresolved => exact absurd rfl w.2
  | sealing | levellingAhead | leaving =>
    rw [entryActions_none hy (by simp)]
    exact same
  | waitingAhead =>
    rw [entryActions_waiting hy]
    exact enters_claimOnly t (claimOnly_claimAhead v b.id f)
  | shifting =>
    rw [entryActions_shifting hy]
    split
    · exact enters_setBerth t
    · exact same
  | openingAhead =>
    rw [entryActions_opening hy]
    split
    · exact enters_hold (.inr rfl) t
    · exact same
  | entering =>
    cases l : lostSignal y .entering f with
    | true =>
      rw [entryActions_entering_lost hy l]
      exact enters_hold (.inl rfl) t
    | false =>
      rw [entryActions_entering_shown hy l]
      exact enters_setBerth t

/-! ## A new step -/

/-- The step entered, before its actions. -/
theorem enterStep_leaves {v : Base} {id : Nat} {st : Step} {f : Flow} {b : Batch} (h : f.toPlant.batch? id = some b) :
    (enterStep v id st f).toPlant = (setBatch id (Batch.entered v st) f).toPlant
    ∧ (enterStep v id st f).toPlant.batch? id = some (b.entered v st)
    ∧ (enterStep v id st f).out = f.out ++ [batchNow v f.toPlant (b.entered v st)] := by
  have e : enterStep v id st f = stepReport v id (setBatch id (Batch.entered v st) f) := rfl
  have found := batch?_setBatch_same (fn := Batch.entered v st) (fun _ => rfl) h
  rw [e, toPlant_stepReport, out_stepReport found, batchNow_congr v (p := (setBatch id (Batch.entered v st) f).toPlant)
    (q := f.toPlant) rfl]
  exact ⟨rfl, found, rfl⟩

theorem enters_goStep {v : Base} {b : Batch} {st : Step} {f : Flow} (w : st.worked) {y : Batch}
    (h : f.toPlant.batch? b.id = some y) (members : y.members = b.members) (dir : y.dir = b.dir) (chamber : y.chamber = b.chamber) :
    Enters b st f (goStep v b.id st f) := by
  obtain ⟨plant, found, -⟩ := enterStep_leaves (v := v) (st := st) h
  have same {α : Type} (x : Plant → α) := congrArg x plant
  have heads : (enterStep v b.id st f).heads = f.heads := same (·.heads)
  have gates : (enterStep v b.id st f).gates = f.gates := same (·.gates)
  have k := enters_entryActions (v := v) w ⟨_, found, rfl, members, dir, chamber⟩
  exact ⟨k.heads.trans heads, k.turned, fun e o => ⟨(k.calm e o).1, (k.calm e o).2.trans gates⟩⟩

end Sys2Proof.Machine
end

section
/-! The steps ENTERING and SEALING (07/R120 to R123). -/

namespace Sys2Proof.Machine

/-! ## A flow that one gate or one head has changed -/

section Looks

variable {f k : Flow}

theorem GateBecomes.batch? {g : Fin 4} {y : Gate} {rs : List Report} (h : GateBecomes g f k y rs) (id : Nat) :
    k.toPlant.batch? id = f.toPlant.batch? id := by
  have e := congrArg (fun p => p.batch? id) h.plant
  exact e

theorem GateBecomes.heads {g : Fin 4} {y : Gate} {rs : List Report} (h : GateBecomes g f k y rs) : k.heads = f.heads := by
  have e := congrArg Plant.heads h.plant
  exact e

theorem GateBecomes.channels {g : Fin 4} {y : Gate} {rs : List Report} (h : GateBecomes g f k y rs) :
    k.channels = f.channels := by
  have e := congrArg Plant.channels h.plant
  exact e

theorem HeadBecomes.gates {h : Fin 8} {x : Head} {rs : List Report} (b : HeadBecomes h f k x rs) : k.gates = f.gates := by
  have e := congrArg Plant.gates b.plant
  exact e

theorem HeadBecomes.channels {h : Fin 8} {x : Head} {rs : List Report} (b : HeadBecomes h f k x rs) :
    k.channels = f.channels := by
  have e := congrArg Plant.channels b.plant
  exact e

theorem HeadBecomes.batch? {h : Fin 8} {x : Head} {rs : List Report} (b : HeadBecomes h f k x rs) (id : Nat) :
    k.toPlant.batch? id = f.toPlant.batch? id := by
  have e := congrArg (fun p => p.batch? id) b.plant
  exact e

end Looks

/-! ## An OPEN that would be refused (07/R121, R125) -/

theorem gateFree_iff {f : Flow} {b : Batch} {g : Fin 4} : gateFree f.toPlant b g = true ↔ MayMove b.id g f := by
  simp [gateFree, MayMove]

theorem openRefused_open {f : Flow} {b : Batch} {g : Fin 4} (may : MayMove b.id g f) (closing : (f.gates.nth g).st ≠ .closing)
    (stopped : (f.gates.nth g).st ≠ .stopped) : openRefused f.toPlant b g = false := by
  unfold openRefused
  rw [gateFree_iff.mpr may]
  simp [closing, stopped]

theorem openRefused_other {f : Flow} {b : Batch} {a : Nat} {g : Fin 4} (h : (f.gates.nth g).owner = .batch a) (ne : a ≠ b.id) :
    openRefused f.toPlant b g = true := by
  have no : gateFree f.toPlant b g = false := by
    rw [← Bool.not_eq_true, gateFree_iff]
    rintro ⟨-, owner⟩
    rw [h] at owner
    simp [ne] at owner
  rw [openRefused, no]
  rfl

/-- The OPEN of a gate that is OPENING or OPEN makes it the batch's. -/
theorem gateBecomes_owned {v : Base} {b : Nat} {g : Fin 4} {f : Flow} (h : gateBarred b g f = false)
    (st : (f.gates.nth g).st = .opening ∨ (f.gates.nth g).st = .opened) :
    ∃ rs, GateBecomes g f (if (f.gates.nth g).owner = .batch b then f else (askOpen v b g f).2)
      { f.gates.nth g with owner := .batch b } rs := by
  have same := gateBecomes_refl g f
  split
  · next e =>
    rw [← e]
    exact ⟨_, same⟩
  · rw [askOpen_open h st]
    exact ⟨_, same.own v _⟩

/-! ## The seal (07/R120, R123, R126) -/

/-- A batch whose members have all berthed. -/
def Batch.unberthed (b : Batch) : Batch := { b.clearFlags with
  berth := ⟨0, none⟩, waved := false, chamber := if b.target.isSome then b.target else b.chamber, target := none }

/-- The sealing of a batch, told where the entry chamber has become empty. -/
def sealed (v : Base) (id : Nat) (h : Fin 8) (f : Flow) : Flow :=
  let f := releaseHead v id h f
  let g := setBatch id Batch.unberthed f
  if !(f.toPlant.occupants f.sched.dir.entryChamber).isEmpty && (g.toPlant.occupants f.sched.dir.entryChamber).isEmpty then
    askOpportunity g else g

theorem sealStep_eq (v : Base) (id : Nat) (h : Fin 8) (f : Flow) : sealStep v id h f = goStep v id .sealing (sealed v id h f) := rfl

theorem toPlant_sealed (v : Base) (id : Nat) (h : Fin 8) (f : Flow) :
    (sealed v id h f).toPlant = (setBatch id Batch.unberthed (releaseHead v id h f)).toPlant := by
  unfold sealed
  dsimp only
  split <;> rfl

/-- The Scheduler is told of an entry chamber that has become empty. -/
theorem opp_sealed {v : Base} {id : Nat} {h : Fin 8} {f : Flow} {n : Nat}
    (hn : (releaseHead v id h f).sched.dir.entryChamber = n) (was : (releaseHead v id h f).toPlant.occupants n ≠ [])
    (now : (setBatch id Batch.unberthed (releaseHead v id h f)).toPlant.occupants n = []) : (sealed v id h f).opp = true := by
  subst hn
  have e : sealed v id h f = askOpportunity (setBatch id Batch.unberthed (releaseHead v id h f)) := by
    refine if_pos ?_
    rw [now]
    simpa using was
  rw [e]
  rfl

/-- A change of batch records that leaves where they lie and who is in them leaves the occupant lists. -/
theorem occupants_setBatch {id : Nat} {fn : Batch → Batch} (hfn : ∀ b, (fn b).chamber = b.chamber ∧ (fn b).target = b.target
    ∧ (fn b).members = b.members) (f : Flow) (n : Nat) : (setBatch id fn f).toPlant.occupants n = f.toPlant.occupants n := by
  have each (b : Batch) : (if b.id = id then fn b else b).chamber = b.chamber
      ∧ (if b.id = id then fn b else b).target = b.target ∧ (if b.id = id then fn b else b).members = b.members := by
    split
    · exact hfn b
    · exact ⟨rfl, rfl, rfl⟩
  have found : (setBatch id fn f).toPlant.batchIn? n = (f.toPlant.batchIn? n).map fun b => if b.id = id then fn b else b := by
    rw [Plant.batchIn?, Plant.batchIn?, show (setBatch id fn f).batches = f.batches.map fun b => if b.id = id then fn b else b
      from rfl, List.find?_map]
    congr 2
    funext b
    obtain ⟨chamber, target, -⟩ := each b
    simp only [Function.comp, chamber, target]
  unfold Plant.occupants
  rw [found]
  cases f.toPlant.batchIn? n with
  | none => rfl
  | some b => exact congrArg (List.map fun m : Member => m.number) (each b).2.2

/-- A batch that seals: its record, its head, BATCH_STEP, and the Scheduler told (07/R120, R123). -/
theorem sealStep_leaves {v : Base} {id : Nat} {h : Fin 8} {f : Flow} {b : Batch} (hb : f.toPlant.batch? id = some b) :
    let k := sealStep v id h f
    let y := b.unberthed.entered v .sealing
    k.toPlant.batch? id = some y ∧ (k.heads.nth h).holder ≠ .batch id ∧ k.out.getLast? = some (batchNow v k.toPlant y)
    ∧ k.gates = f.gates ∧ k.passages = f.passages
    ∧ (f.toPlant.occupants f.sched.dir.entryChamber ≠ [] → k.toPlant.occupants f.sched.dir.entryChamber = [] → k.opp = true) := by
  intro k y
  obtain ⟨x, rs, rel, free⟩ := headBecomes_releaseHead v id h f
  have plant := toPlant_sealed v id h f
  have found : (sealed v id h f).toPlant.batch? id = some b.unberthed := by
    rw [plant]
    exact batch?_setBatch_same (fn := Batch.unberthed) (fun _ => rfl) ((rel.batch? id).trans hb)
  obtain ⟨entered, step, out⟩ := enterStep_leaves (v := v) (st := .sealing) found
  have e : k = enterStep v id .sealing (sealed v id h f) := by
    show sealStep v id h f = _
    rw [sealStep_eq, goStep, entryActions_none step (.inl rfl)]
  have same {α : Type} (x : Plant → α) := congrArg x entered
  have rest {α : Type} (x : Plant → α) := congrArg x plant
  rw [← e] at step out same
  have passages : k.passages = (releaseHead v id h f).passages := (same (·.passages)).trans (rest (·.passages))
  have heads : k.heads = (releaseHead v id h f).heads := (same (·.heads)).trans (rest (·.heads))
  have gates : k.gates = (releaseHead v id h f).gates := (same (·.gates)).trans (rest (·.gates))
  have sealedPassages : (sealed v id h f).passages = (releaseHead v id h f).passages := rest (·.passages)
  have heldPassages := congrArg Plant.passages rel.plant
  have heldPassages : (releaseHead v id h f).passages = f.passages := heldPassages
  have heldSched := congrArg Plant.sched rel.plant
  have heldSched : (releaseHead v id h f).sched = f.sched := heldSched
  have heldRooms := congrArg (fun p => p.occupants f.sched.dir.entryChamber) rel.plant
  have heldRooms : (releaseHead v id h f).toPlant.occupants f.sched.dir.entryChamber
    = f.toPlant.occupants f.sched.dir.entryChamber := heldRooms
  refine ⟨step, by rw [heads, rel.head]; exact free, ?_, gates.trans rel.gates, passages.trans heldPassages,
    fun was none => ?_⟩
  · rw [out, List.getLast?_append, batchNow_congr v (p := k.toPlant) (q := (sealed v id h f).toPlant)
      (passages.trans sealedPassages.symm)]
    rfl
  · have rooms : k.toPlant.occupants f.sched.dir.entryChamber
        = (setBatch id Batch.unberthed (releaseHead v id h f)).toPlant.occupants f.sched.dir.entryChamber := by
      rw [show k.toPlant = (setBatch id (Batch.entered v .sealing) (sealed v id h f)).toPlant from same fun p => p,
        occupants_setBatch (fn := Batch.entered v .sealing) (fun _ => ⟨rfl, rfl, rfl⟩), plant]
    have opp : k.opp = (sealed v id h f).opp := by
      rw [e]
      exact opp_stepReport v id _
    rw [opp]
    exact opp_sealed (by rw [heldSched]) (by rw [heldRooms]; exact was) (by rw [← rooms]; exact none)

/-! ## ENTERING (07/R121) -/

section Entering

variable {v : Base} {b : Batch} {h : Fin 8} {f : Flow}

theorem workStep_entering (step : b.step = .entering) (head : b.headOf .entering = some h) :
    workStep v b f = workEntering v b h f := by
  unfold workStep
  simp only [step, head]

theorem workEntering_berthed (all : b.allBerthed = true) :
    workEntering v b h f = sealStep v b.id h (withdrawOpen b.id b.behind f) := if_pos all

variable (some_ : b.allBerthed = false)

include some_

/-- Past the work at the gate a head alone changes. -/
theorem workEntering_staged : workEntering v b h f = workEntryGate v b h f
    ∨ workEntering v b h f = wantAspect v b.id h
      (if ((workEntryGate v b h f).gates.nth b.behind).st = .opened then .go else .prepare) (workEntryGate v b h f) := by
  unfold workEntering
  rw [if_neg (by rw [some_]; decide)]
  dsimp only
  split
  · exact .inl rfl
  · exact .inr rfl

theorem workEntering_keeps : (workEntering v b h f).gates = (workEntryGate v b h f).gates
    ∧ (workEntering v b h f).channels = (workEntryGate v b h f).channels
    ∧ ∀ id, (workEntering v b h f).toPlant.batch? id = (workEntryGate v b h f).toPlant.batch? id := by
  obtain e | e := workEntering_staged (v := v) (h := h) (f := f) some_ <;> rw [e]
  · exact ⟨rfl, rfl, fun _ => rfl⟩
  · obtain ⟨x, rs, w⟩ := headBecomes_wantAspect v b.id h
      (if ((workEntryGate v b h f).gates.nth b.behind).st = .opened then .go else .prepare) (workEntryGate v b h f)
    exact ⟨w.gates, w.channels, w.batch?⟩

/-- Another batch's errand owns the gate. -/
theorem workEntering_other {a : Nat} (owner : (f.gates.nth b.behind).owner = .batch a) (ne : a ≠ b.id)
    (st : (f.gates.nth b.behind).st ≠ .shut) : workEntering v b h f = f := by
  have still : workEntryGate v b h f = f := by
    unfold workEntryGate
    dsimp only
    have open_ : (if (f.gates.nth b.behind).owner = .batch b.id then f else (askOpen v b.id b.behind f).2) = f := by
      rw [askOpen_barred (barred_of_other owner ne)]
      exact ite_self _
    split
    · contradiction
    · exact open_
    · exact open_
    · rfl
  unfold workEntering
  rw [if_neg (by rw [some_]; decide), still]
  dsimp only
  rw [openRefused_other owner ne]
  rfl

section Works

variable (auto : f.regime.mode = .auto) (up : f.regime.condition ≠ .stoodDown)

include auto

include up in
/-- The ENTRY levelling asked. -/
theorem workEntering_levels (hb : f.toPlant.batch? b.id = some b) (shut : (f.gates.nth b.behind).st = .shut)
    (idle : (f.channels.nth b.behind).st = .idle) (usable : levelsUsable v b.behind (some .entry) = true) :
    ((workEntering v b h f).channels.nth b.behind).req = some .entry
    ∧ ((workEntering v b h f).channels.nth b.behind).st ≠ .idle
    ∧ (workEntering v b h f).toPlant.batch? b.id = some { b with own := some (b.behind, .entry) } := by
  obtain ⟨-, channels, batch⟩ := workEntering_keeps (v := v) (h := h) (f := f) some_
  have w := gateBecomes_withdrawOpen b.id b.behind f
  have e : workEntryGate v b h f = askOwn v b b.behind .entry (withdrawOpen b.id b.behind f) := by
    unfold workEntryGate
    simp only [shut, idle, if_true]
  have regime := w.regime
  rw [channels, batch, e]
  exact askOwn_takes ((w.batch? _).trans hb) (by rw [regime]; exact auto) (by rw [regime]; exact up)
    (by rw [w.channels]; exact idle) (by rw [w.gate, st_withdrawn]; exact shut) usable

/-- The gate levelled: its OPEN. -/
theorem workEntering_opens (may : MayMove b.id b.behind f) (shut : (f.gates.nth b.behind).st = .shut)
    (level : (f.channels.nth b.behind).st = .level) (ask : (f.gates.nth b.behind).ask ≠ some (.openFor b.id))
    (red : (f.heads.nth h).lostRed = false) : OpensFor v b.id b.behind f (workEntering v b h f) := by
  have e : workEntryGate v b h f = (askOpen v b.id b.behind f).2 := by
    unfold workEntryGate
    simp only [shut, level]
    rw [if_neg (by decide), if_neg (by simp), if_neg ask, if_neg (by rw [red]; decide)]
  have gates := (workEntering_keeps (v := v) (h := h) (f := f) some_).1
  have o := askOpen_shut (v := v) (not_barred auto may) shut
  unfold OpensFor at o ⊢
  rw [gates, e]
  exact o

include up in
/-- The gate OPEN: GO. -/
theorem workEntering_goes (hb : f.toPlant.batch? b.id = some b) (step : b.step = .entering) (may : MayMove b.id b.behind f)
    (opened : (f.gates.nth b.behind).st = .opened) (stage : MayStage b.id h f) :
    ((workEntering v b h f).gates.nth b.behind).owner = .batch b.id
    ∧ ((workEntering v b h f).gates.nth b.behind).st = .opened ∧ StagedFor b.id .go ((workEntering v b h f).heads.nth h) := by
  obtain ⟨rs, own⟩ := gateBecomes_owned (v := v) (not_barred auto may) (.inr opened)
  have gate : workEntryGate v b h f
      = if (f.gates.nth b.behind).owner = .batch b.id then f else (askOpen v b.id b.behind f).2 := by
    unfold workEntryGate
    simp only [opened]
  rw [← gate] at own
  have st : ((workEntryGate v b h f).gates.nth b.behind).st = .opened := by rw [own.gate]; exact opened
  have open_ : openRefused (workEntryGate v b h f).toPlant b b.behind = false :=
    openRefused_open ⟨by rw [st]; decide, .inr (by rw [own.gate])⟩ (by rw [st]; decide) (by rw [st]; decide)
  have here : (workEntryGate v b h f).toPlant.batch? b.id = some b := (own.batch? _).trans hb
  have e : workEntering v b h f = wantAspect v b.id h .go (workEntryGate v b h f) := by
    unfold workEntering
    rw [if_neg (by rw [some_]; decide)]
    dsimp only
    rw [open_, here, st, if_neg (by simp [step]), if_pos rfl]
  have gates := (workEntering_keeps (v := v) (h := h) (f := f) some_).1
  have regime := own.regime
  rw [gates, own.gate, e]
  refine ⟨rfl, opened, stagedFor_wantAspect v rfl (by rw [regime]; exact auto) (by rw [regime]; exact up) ?_⟩
  unfold MayStage at stage ⊢
  rw [own.heads]
  exact stage

end Works

end Entering

/-! ## SEALING (07/R123, R129) -/

section Sealing

variable {v : Base} {b : Batch} {f : Flow}

theorem workStep_sealing (step : b.step = .sealing) : workStep v b f = workSealing v b f := by
  unfold workStep
  simp only [step]

theorem workSealing_shut (hb : f.toPlant.batch? b.id = some b) (shut : (f.gates.nth b.behind).st = .shut) :
    TurnsTo b .waitingAhead (workSealing v b f) ∧ ((workSealing v b f).gates.nth b.behind).owner
      = if (f.gates.nth b.behind).owner = .batch b.id then .none else (f.gates.nth b.behind).owner := by
  obtain ⟨rs, rel⟩ := gateBecomes_releaseGate v b.id b.behind f
  have e : workSealing v b f = goStep v b.id .waitingAhead (releaseGate v b.id b.behind f) := by
    unfold workSealing
    simp only [shut, if_true]
  have k := enters_goStep (v := v) (b := b) (st := .waitingAhead) ⟨by decide, by decide⟩ ((rel.batch? _).trans hb) rfl rfl rfl
  obtain ⟨turned, gates⟩ := k.calm (by decide) (by decide)
  rw [e]
  exact ⟨turned, by rw [gates, rel.gate]⟩

theorem workSealing_asked (shut : (f.gates.nth b.behind).st ≠ .shut) (ask : (f.gates.nth b.behind).ask = some (.closeFor b.id)) :
    workSealing v b f = f := by
  unfold workSealing
  dsimp only
  rw [if_neg shut, if_pos ask]

section Asks

variable (shut : (f.gates.nth b.behind).st ≠ .shut) (ask : (f.gates.nth b.behind).ask ≠ some (.closeFor b.id))

include shut ask

theorem workSealing_barred (bar : gateBarred b.id b.behind f = true) : workSealing v b f = hold v b.id .gate f := by
  unfold workSealing
  dsimp only
  rw [if_neg shut, if_neg ask, askClose_barred bar]

theorem workSealing_taken {k : Flow} (e : askClose v b.id b.behind f = (.accepted, k)) : workSealing v b f = k := by
  unfold workSealing
  dsimp only
  rw [if_neg shut, if_neg ask, e]

end Asks

end Sealing

end Sys2Proof.Machine
end

section
/-! The steps WAITING_AHEAD, LEVELLING_AHEAD and OPENING_AHEAD (07/R124, R125). -/

namespace Sys2Proof.Machine

/-! ## Following the channel ahead (07/R124) -/

theorem effective_of_step {b : Batch} (h : b.step ≠ .held) : b.effective = b.step := by
  unfold Batch.effective
  split
  · exact if_neg h
  · rfl

/-- The channel ahead works for the batch, or is the keeper's and followed. -/
def Follows (b : Batch) (f : Flow) : Prop := b.own = some (b.ahead, .ahead b.id)
  ∨ ((f.channels.nth b.ahead).req = some .keeper
    ∧ ((f.channels.nth b.ahead).st = .level ∨ b.step = .levellingAhead))

theorem follows_iff {b : Batch} {f : Flow} (h : b.step ≠ .held) :
    (b.ownsAhead || followsKeeper b (f.channels.nth b.ahead)) = true ↔ Follows b f := by
  rw [Bool.or_eq_true, Follows, followsKeeper, effective_of_step h, Batch.ownsAhead]
  simp only [Bool.and_eq_true, Bool.or_eq_true, beq_iff_eq]

theorem unclaimed_iff {b : Batch} : (b.target.isNone = true ∧ (b.dir.nextChamber b.at_).isSome = true) ↔ ¬ b.claimed := by
  rw [Batch.claimed, not_or, not_not, Option.isNone_iff_eq_none, Option.isSome_iff_ne_none]

section Ahead

variable {v : Base} {b : Batch} {f : Flow}

theorem workStep_ahead (step : b.step = .waitingAhead ∨ b.step = .levellingAhead) : workStep v b f = workAhead v b f := by
  unfold workStep
  obtain step | step := step <;> simp only [step]

theorem workAhead_lost (mine : ¬ Follows b f) (step : b.step = .levellingAhead) :
    workAhead v b f = goStep v b.id .waitingAhead f := by
  have no := mt (follows_iff (f := f) (by rw [step]; decide)).mp mine
  unfold workAhead
  dsimp only
  rw [if_pos (by simpa using no), if_pos step]

theorem workAhead_unclaimed (step : b.step = .waitingAhead ∨ b.step = .levellingAhead) (claim : ¬ b.claimed)
    (who : Follows b f ∨ b.step = .waitingAhead) : workAhead v b f = claimAhead v b.id f := by
  have held : b.step ≠ .held := by obtain step | step := step <;> rw [step] <;> decide
  unfold workAhead
  dsimp only
  by_cases mine : Follows b f
  · rw [if_neg (by rw [(follows_iff held).mpr mine]; decide), if_pos (unclaimed_iff.mpr claim)]
  · have no := mt (follows_iff held).mp mine
    rw [if_pos (by simpa using no), if_neg (by rw [who.resolve_left mine]; decide), if_pos (unclaimed_iff.mpr claim)]

section Claimed

variable (claim : b.claimed)

include claim

theorem workAhead_waits (mine : ¬ Follows b f) (step : b.step = .waitingAhead) :
    workAhead v b f = if f.scanEnd then askAhead v b.id f else f := by
  have no := mt (follows_iff (f := f) (by rw [step]; decide)).mp mine
  unfold workAhead
  dsimp only
  rw [if_pos (by simpa using no), if_neg (by rw [step]; decide), if_neg fun c => unclaimed_iff.mp c claim]

variable (held : b.step ≠ .held) (mine : Follows b f)

include held mine

theorem workAhead_runs (st : (f.channels.nth b.ahead).st = .running ∨ (f.channels.nth b.ahead).st = .holding
    ∨ (f.channels.nth b.ahead).st = .suspended) :
    workAhead v b f = if b.step = .levellingAhead then f else goStep v b.id .levellingAhead f := by
  unfold workAhead
  dsimp only
  rw [if_neg (by rw [(follows_iff held).mpr mine]; decide), if_neg fun c => unclaimed_iff.mp c claim]
  obtain st | st | st := st <;> simp only [st]

theorem workAhead_level (st : (f.channels.nth b.ahead).st = .level) : workAhead v b f = goStep v b.id .openingAhead f := by
  unfold workAhead
  dsimp only
  rw [if_neg (by rw [(follows_iff held).mpr mine]; decide), if_neg fun c => unclaimed_iff.mp c claim]
  simp only [st]

end Claimed

end Ahead

/-! ## OPENING_AHEAD (07/R121, R125) -/

section Back

variable {v : Base} {b : Batch} {f : Flow} {y : Batch} (hb : f.toPlant.batch? b.id = some y)

include hb

/-- What leaving the gate ahead leaves: the OPEN withdrawn, the head released, the WAVED flag cleared. -/
theorem leaveAhead_leaves : (leaveAhead v b f).toPlant.batch? b.id = some { y with waved := false }
    ∧ ((leaveAhead v b f).heads.nth (b.dir.headAt b.ahead)).holder ≠ .batch b.id
    ∧ ((leaveAhead v b f).gates.nth b.ahead).ask ≠ some (.openFor b.id) := by
  have w := gateBecomes_withdrawOpen b.id b.ahead f
  obtain ⟨x, rs, rel, free⟩ := headBecomes_releaseHead v b.id (b.dir.headAt b.ahead) (withdrawOpen b.id b.ahead f)
  have e : leaveAhead v b f = setBatch b.id (fun b => { b with waved := false })
    (releaseHead v b.id (b.dir.headAt b.ahead) (withdrawOpen b.id b.ahead f)) := rfl
  have heads : (leaveAhead v b f).heads = (releaseHead v b.id (b.dir.headAt b.ahead) (withdrawOpen b.id b.ahead f)).heads := rfl
  have gates : (leaveAhead v b f).gates = (releaseHead v b.id (b.dir.headAt b.ahead) (withdrawOpen b.id b.ahead f)).gates := rfl
  refine ⟨?_, ?_, ?_⟩
  · rw [e]
    exact batch?_setBatch_same (fn := fun b => { b with waved := false }) (fun _ => by rfl)
      ((rel.batch? _).trans ((w.batch? _).trans hb))
  · rw [heads, rel.head]
    exact free
  · rw [gates, rel.gates, w.gate]
    exact ask_withdrawn _ _

/-- A step that falls back. -/
theorem goStep_back {st : Step} (s : st = .waitingAhead ∨ st = .levellingAhead) (members : y.members = b.members)
    (dir : y.dir = b.dir) (chamber : y.chamber = b.chamber) :
    let k := goStep v b.id st (leaveAhead v b f)
    TurnsTo b st k ∧ (k.heads.nth (b.dir.headAt b.ahead)).holder ≠ .batch b.id
      ∧ (k.gates.nth b.ahead).ask ≠ some (.openFor b.id) := by
  obtain ⟨found, free, ask⟩ := leaveAhead_leaves (v := v) hb
  have k := enters_goStep (v := v) (b := b) (st := st) (by obtain rfl | rfl := s <;> exact ⟨by decide, by decide⟩)
    found members dir chamber
  obtain ⟨turned, gates⟩ := k.calm (by obtain rfl | rfl := s <;> decide) (by obtain rfl | rfl := s <;> decide)
  intro m
  rw [k.heads, gates]
  exact ⟨turned, free, ask⟩

end Back

section Opening

variable {v : Base} {b : Batch} {h : Fin 8} {f : Flow}

theorem workStep_opening (step : b.step = .openingAhead) (head : b.headOf .openingAhead = some h) :
    workStep v b f = workOpening v b h f := by
  unfold workStep
  simp only [step, head]

section Shut

variable (shut : (f.gates.nth b.ahead).st = .shut)

include shut

theorem workOpening_idle (idle : (f.channels.nth b.ahead).st = .idle) :
    workOpening v b h f = goStep v b.id .waitingAhead (leaveAhead v b f) := by
  unfold workOpening
  simp only [shut, idle, if_true]

theorem workOpening_levelling (idle : (f.channels.nth b.ahead).st ≠ .idle) (level : (f.channels.nth b.ahead).st ≠ .level) :
    workOpening v b h f = goStep v b.id .levellingAhead (leaveAhead v b f) := by
  unfold workOpening
  simp only [shut]
  rw [if_neg idle, if_pos level]

variable (level : (f.channels.nth b.ahead).st = .level)

include level

theorem workOpening_lost (red : (f.heads.nth h).lostRed = true) : workOpening v b h f = hold v b.id .stopSignal f := by
  unfold workOpening
  simp only [shut, level, red]
  rfl

/-- The gate opened, PREPARE staged. -/
theorem workOpening_opens (red : (f.heads.nth h).lostRed = false) (auto : f.regime.mode = .auto)
    (up : f.regime.condition ≠ .stoodDown) (may : MayMove b.id b.ahead f)
    (ask : (f.gates.nth b.ahead).ask ≠ some (.openFor b.id)) :
    OpensFor v b.id b.ahead f (workOpening v b h f)
    ∧ (MayStage b.id h f → StagedFor b.id .prepare ((workOpening v b h f).heads.nth h)) := by
  have open_ : openRefused f.toPlant b b.ahead = false := openRefused_open may (by rw [shut]; decide) (by rw [shut]; decide)
  have e : workOpening v b h f = wantAspect v b.id h .prepare (askOpen v b.id b.ahead f).2 := by
    unfold workOpening
    simp only [shut, level]
    rw [if_neg (by decide), if_neg (by decide), if_neg (by rw [red]; decide), if_neg (by rw [open_]; decide), if_neg ask]
  have o := askOpen_shut (v := v) (not_barred auto may) shut
  obtain ⟨y, rs, own⟩ := gateBecomes_askOpen v b.id b.ahead f
  obtain ⟨x, qs, w⟩ := headBecomes_wantAspect v b.id h .prepare (askOpen v b.id b.ahead f).2
  have regime := own.regime
  rw [e]
  refine ⟨?_, fun stage => stagedFor_wantAspect v rfl (by rw [regime]; exact auto) (by rw [regime]; exact up) ?_⟩
  · unfold OpensFor at o ⊢
    rw [w.gates]
    exact o
  · unfold MayStage at stage ⊢
    rw [own.heads]
    exact stage

end Shut

/-- The gate OPEN: GO, and the members' step. -/
theorem workOpening_goes (hb : f.toPlant.batch? b.id = some b) (auto : f.regime.mode = .auto)
    (up : f.regime.condition ≠ .stoodDown) (opened : (f.gates.nth b.ahead).st = .opened) (may : MayMove b.id b.ahead f) :
    TurnsTo b (if b.ahead = b.dir.exitGate then .leaving else .shifting) (workOpening v b h f)
    ∧ ((workOpening v b h f).gates.nth b.ahead).owner = .batch b.id
    ∧ (MayStage b.id h f → StagedFor b.id .go ((workOpening v b h f).heads.nth h)) := by
  have open_ : openRefused f.toPlant b b.ahead = false := openRefused_open may (by rw [opened]; decide) (by rw [opened]; decide)
  obtain ⟨rs, own⟩ := gateBecomes_owned (v := v) (not_barred auto may) (.inr opened)
  have e : workOpening v b h f = goStep v b.id (if b.ahead = b.dir.exitGate then .leaving else .shifting)
      (wantAspect v b.id h .go (if (f.gates.nth b.ahead).owner = .batch b.id then f else (askOpen v b.id b.ahead f).2)) := by
    unfold workOpening
    simp only [opened, open_, Bool.false_eq_true, if_false]
  rw [e]
  generalize (if (f.gates.nth b.ahead).owner = .batch b.id then f else (askOpen v b.id b.ahead f).2) = m at own ⊢
  obtain ⟨x, qs, w⟩ := headBecomes_wantAspect v b.id h .go m
  have found : (wantAspect v b.id h .go m).toPlant.batch? b.id = some b := (w.batch? _).trans ((own.batch? _).trans hb)
  have step : (if b.ahead = b.dir.exitGate then Step.leaving else Step.shifting) = .leaving
      ∨ (if b.ahead = b.dir.exitGate then Step.leaving else Step.shifting) = .shifting := by
    split
    · exact .inl rfl
    · exact .inr rfl
  generalize (if b.ahead = b.dir.exitGate then Step.leaving else Step.shifting) = st at step ⊢
  have k := enters_goStep (v := v) (b := b) (st := st) (by obtain rfl | rfl := step <;> exact ⟨by decide, by decide⟩)
    found rfl rfl rfl
  obtain ⟨turned, gates⟩ := k.calm (by obtain rfl | rfl := step <;> decide) (by obtain rfl | rfl := step <;> decide)
  have regime := own.regime
  rw [gates, w.gates, own.gate, k.heads]
  refine ⟨turned, rfl, fun stage => stagedFor_wantAspect v rfl (by rw [regime]; exact auto) (by rw [regime]; exact up) ?_⟩
  unfold MayStage at stage ⊢
  rw [own.heads]
  exact stage

/-- Another batch's errand owns the gate. -/
theorem workOpening_other {a : Nat} (owner : (f.gates.nth b.ahead).owner = .batch a) (ne : a ≠ b.id)
    (st : (f.gates.nth b.ahead).st ≠ .shut) : workOpening v b h f = f := by
  unfold workOpening
  dsimp only
  rw [openRefused_other owner ne]
  split
  · rfl
  · contradiction
  · rfl
  · rfl

end Opening

end Sys2Proof.Machine
end

section
/-! The steps SHIFTING and LEAVING, and the members that move on (07/R121, R125, R126, R131). -/

namespace Sys2Proof.Machine

/-! ## The step (07/R125, R126) -/

section Passing

variable {v : Base} {b : Batch} {h : Fin 8} {f : Flow}

theorem workStep_passing (step : b.step = .shifting ∨ b.step = .leaving) (head : b.headOf b.step = some h) :
    workStep v b f = workPassing v b h f := by
  unfold workStep
  obtain step | step := step
  all_goals
    rw [step] at head
    simp only [step, head]

theorem workPassing_berthed (step : b.step = .shifting) (all : b.allBerthed = true) :
    workPassing v b h f = sealStep v b.id h f := if_pos ⟨step, all⟩

variable (going : b.step = .leaving ∨ b.allBerthed = false)

include going

theorem workPassing_going : ¬ (b.step = .shifting ∧ b.allBerthed = true) := by
  rintro ⟨step, all⟩
  obtain going | going := going
  · rw [step] at going
    cases going
  · rw [all] at going
    cases going

theorem workPassing_waits (n : (f.gates.nth b.ahead).st ≠ .opened ∨ openRefused f.toPlant b b.ahead = true) :
    workPassing v b h f = f := by
  unfold workPassing
  rw [if_neg (workPassing_going going)]
  exact if_pos n

theorem workPassing_goes (opened : (f.gates.nth b.ahead).st = .opened) (owner : (f.gates.nth b.ahead).owner = .batch b.id) :
    workPassing v b h f = passMembers v b h (wantAspect v b.id h .go f) := by
  have open_ : openRefused f.toPlant b b.ahead = false :=
    openRefused_open ⟨by rw [opened]; decide, .inr owner⟩ (by rw [opened]; decide) (by rw [opened]; decide)
  unfold workPassing
  rw [if_neg (workPassing_going going)]
  dsimp only
  rw [if_neg (by rw [opened, open_]; decide), if_pos owner]

end Passing

/-! ## The members that move (07/R125) -/

/-- Passages moved one after the other. -/
theorem changePassages_leaves {v : Base} {c : PassCause} {fn : Passage → Passage} (number : ∀ x, (fn x).number = x.number)
    (idem : ∀ x, fn (fn x) = fn x) (ms : List Member) (f : Flow) :
    let k := overAll ms (fun m => changePassage v m.number c fn) f
    OnlyPassages f k ∧ ∀ n x, f.toPlant.passage? n = some x →
      k.toPlant.passage? n = some (if ∃ m ∈ ms, m.number = n then fn x else x) := by
  induction ms generalizing f with
  | nil => exact ⟨rfl, fun n x hx => by simpa using hx⟩
  | cons m ms ih =>
    intro k
    obtain ⟨only, found⟩ := ih (changePassage v m.number c fn f)
    have e : k = overAll ms (fun m => changePassage v m.number c fn) (changePassage v m.number c fn f) := rfl
    rw [← e] at only found
    cases here : f.toPlant.passage? m.number with
    | none =>
      rw [changePassage_none here] at only found
      refine ⟨only, fun n x hx => ?_⟩
      have other : m.number ≠ n := by
        rintro rfl
        rw [here] at hx
        exact absurd hx (Option.some_ne_none x).symm
      rw [found n x hx]
      simp only [List.mem_cons, exists_eq_or_imp, other, false_or]
    | some y =>
      obtain ⟨plant, -, -⟩ := toPlant_changePassage (v := v) (c := c) number here
      have same : OnlyPassages f (changePassage v m.number c fn f) := by
        unfold OnlyPassages
        rw [plant, toPlant_setPassage]
      refine ⟨Eq.trans only (by rw [show (changePassage v m.number c fn f).toPlant = _ from same]), fun n x hx => ?_⟩
      by_cases mine : m.number = n
      · subst mine
        obtain rfl : y = x := Option.some.inj (here.symm.trans hx)
        have now : (changePassage v m.number c fn f).toPlant.passage? m.number = some (fn y) := by
          rw [plant]
          exact passage?_setPassage_same (fn := fn) number here
        rw [found _ _ now, idem, ite_self, if_pos ⟨m, List.mem_cons_self, rfl⟩]
      · have now : (changePassage v m.number c fn f).toPlant.passage? n = some x := by
          rw [plant, passage?_setPassage_other (fn := fn) number f (Ne.symm mine)]
          exact hx
        rw [found n x now]
        simp only [List.mem_cons, exists_eq_or_imp, mine, false_or]

/-- A member on its way through the gate ahead. -/
def Batch.movedOn (b : Batch) (x : Passage) : Passage :=
  if b.effective = .leaving then { x with st := .leaving } else { x with st := .shifting, chamber := b.target }

theorem number_movedOn (b : Batch) (x : Passage) : (b.movedOn x).number = x.number := by
  unfold Batch.movedOn
  split <;> rfl

theorem movedOn_movedOn (b : Batch) (x : Passage) : b.movedOn (b.movedOn x) = b.movedOn x := by
  unfold Batch.movedOn
  split <;> rfl

/-- The members berthed and not yet told so by the gate ahead. -/
def readyMembers (p : Plant) (b : Batch) : List Member :=
  b.members.filter fun m => !m.flag && p.memberSt m == some .berthed

/-- The passages of the ready members moved. -/
def movePassages (v : Base) (b : Batch) (waved : Bool) (f : Flow) : Flow :=
  overAll (readyMembers f.toPlant b) (fun m => changePassage v m.number (if waved then .waved else .movement) b.movedOn) f

/-- None of the members has moved yet: the berth timer starts. -/
def startsShift (p : Plant) (b : Batch) : Prop :=
  b.effective = .shifting ∧ anyShifting p b = false ∧ (b.members.any (·.flag)) = false

section Move

variable {v : Base} {b : Batch} {waved : Bool} {f : Flow}

theorem moveMembers_none (h : readyMembers f.toPlant b = []) : moveMembers v b waved f = f := by
  unfold moveMembers
  exact if_pos (List.isEmpty_iff.mpr h)

variable (h : readyMembers f.toPlant b ≠ [])

include h

theorem moveMembers_starts (s : startsShift f.toPlant b) : moveMembers v b waved f =
    setBatch b.id (fun x => { x with berth := ⟨0, if f.regime.mode = .auto then some v.elapsed else none⟩ })
      (movePassages v b waved f) := by
  unfold moveMembers
  refine (if_neg fun c => h (List.isEmpty_iff.mp c)).trans ?_
  exact if_pos s

theorem moveMembers_goesOn (s : ¬ startsShift f.toPlant b) : moveMembers v b waved f = movePassages v b waved f := by
  unfold moveMembers
  refine (if_neg fun c => h (List.isEmpty_iff.mp c)).trans ?_
  exact if_neg s

end Move

theorem passages_moveMembers (v : Base) (b : Batch) (waved : Bool) (f : Flow) :
    (moveMembers v b waved f).passages = (movePassages v b waved f).passages := by
  by_cases h : readyMembers f.toPlant b = []
  · rw [moveMembers_none h, movePassages, h]
    rfl
  · by_cases s : startsShift f.toPlant b
    · rw [moveMembers_starts h s]
      rfl
    · rw [moveMembers_goesOn h s]

/-- The passage with a number is a ready member's. -/
theorem ready_iff {f : Flow} {b : Batch} {n : Nat} {x : Passage} (hx : f.toPlant.passage? n = some x) :
    (∃ m ∈ readyMembers f.toPlant b, m.number = n) ↔ x.st = .berthed ∧ ∃ m ∈ b.members, m.number = n ∧ m.flag = false := by
  have st {m : Member} (e : m.number = n) : f.toPlant.memberSt m = some x.st := by
    rw [Plant.memberSt, e, hx]
    rfl
  simp only [readyMembers, List.mem_filter, Bool.and_eq_true, Bool.not_eq_true', beq_iff_eq]
  constructor
  · rintro ⟨m, ⟨hm, flag, berthed⟩, e⟩
    rw [st e] at berthed
    exact ⟨Option.some.inj berthed, m, hm, e, flag⟩
  · rintro ⟨berthed, m, hm, e, flag⟩
    exact ⟨m, ⟨hm, flag, by rw [st e, berthed]⟩, e⟩

/-- The passages after the members have moved. -/
theorem passage?_moveMembers {v : Base} {b : Batch} {waved : Bool} {f : Flow} {n : Nat} {x : Passage}
    (hx : f.toPlant.passage? n = some x) : (moveMembers v b waved f).toPlant.passage? n
      = some (if x.st = .berthed ∧ ∃ m ∈ b.members, m.number = n ∧ m.flag = false then b.movedOn x else x) := by
  obtain ⟨-, found⟩ := changePassages_leaves (v := v) (c := if waved then .waved else .movement) (number_movedOn b)
    (movedOn_movedOn b) (readyMembers f.toPlant b) f
  have at_ := found n x hx
  simp only [ready_iff hx] at at_
  rw [← at_]
  unfold Plant.passage?
  rw [passages_moveMembers]
  rfl

/-- A shift in AUTO that begins: the berth timer runs from zero. -/
theorem batch?_moveMembers {v : Base} {b : Batch} {waved : Bool} {f : Flow} (hb : f.toPlant.batch? b.id = some b)
    (shifting : b.effective = .shifting) (auto : f.regime.mode = .auto)
    (still : ∀ m ∈ b.members, m.flag = false ∧ f.toPlant.memberSt m = some .berthed) (some_ : b.members ≠ []) :
    (moveMembers v b waved f).toPlant.batch? b.id = some { b with berth := ⟨0, some v.elapsed⟩ } := by
  have all : readyMembers f.toPlant b = b.members := List.filter_eq_self.mpr fun m hm => by
    obtain ⟨flag, st⟩ := still m hm
    rw [flag, st]
    rfl
  have fresh : startsShift f.toPlant b := by
    refine ⟨shifting, List.any_eq_false.mpr fun m hm => ?_, List.any_eq_false.mpr fun m hm => ?_⟩
    · rw [(still m hm).2]
      decide
    · rw [(still m hm).1]
      decide
  have only := (changePassages_leaves (v := v) (c := if waved then .waved else .movement) (number_movedOn b)
    (movedOn_movedOn b) (readyMembers f.toPlant b) f).1
  have found := congrArg (fun p => p.batch? b.id) (show (movePassages v b waved f).toPlant = _ from only)
  rw [moveMembers_starts (by rw [all]; exact some_) fresh, if_pos auto]
  exact batch?_setBatch_same (fn := fun x => { x with berth := ⟨0, some v.elapsed⟩ }) (fun _ => by rfl) (found.trans hb)

/-- GO is shown for the batch at its OPEN gate, or the keeper has waved it. -/
def MembersGo (b : Batch) (h : Fin 8) (f : Flow) : Prop := (f.gates.nth b.ahead).st = .opened
  ∧ (((f.heads.nth h).holder = .batch b.id ∧ (f.heads.nth h).shown = .go) ∨ b.waved = true)

theorem membersGo_iff {b : Batch} {h : Fin 8} {f : Flow} : ((f.gates.nth b.ahead).st == .opened
    && (((f.heads.nth h).holder == .batch b.id && (f.heads.nth h).shown == .go) || b.waved)) = true ↔ MembersGo b h f := by
  simp only [MembersGo, Bool.and_eq_true, Bool.or_eq_true, beq_iff_eq]

theorem passMembers_stay {v : Base} {b : Batch} {h : Fin 8} {f : Flow} (n : ¬ MembersGo b h f) : passMembers v b h f = f :=
  if_neg (mt membersGo_iff.mp n)

theorem passMembers_go {v : Base} {b : Batch} {h : Fin 8} {f : Flow} (y : MembersGo b h f) :
    ∃ waved, passMembers v b h f = moveMembers v b waved f := ⟨_, if_pos (membersGo_iff.mpr y)⟩

end Sys2Proof.Machine
end

section
/-! A batch held, and the causes it meets (07/R129, R135, R136). -/

namespace Sys2Proof.Machine

/-! ## Holding (07/R129) -/

theorem has_put (s : HeldCauses) (c c' : HeldCause) (x : Bool) : (s.put c x).has c' = if c' = c then x else s.has c' := by
  cases c <;> cases c' <;> rfl

/-- A batch that meets a cause, whether HELD already or not. -/
def Batch.heldBy (v : Base) (c : HeldCause) (b : Batch) : Batch := { b with
  step := .held
  heldStep := if b.step = .held then b.heldStep else some b.step
  causes := b.causes.put c true
  stepStart := if b.step = .held then b.stepStart else v.elapsed
  berth := if c = .overdue then b.berth else ⟨b.berth.value v.elapsed, none⟩ }

/-- What a hold leaves: the record, the OPEN withdrawn, and the reports. -/
structure Holds (v : Base) (id : Nat) (c : HeldCause) (b : Batch) (f k : Flow) : Prop where
  plant : k.toPlant = { f.toPlant with gates := k.gates, batches := k.batches }
  gates : ∀ g, k.gates.nth g = (f.gates.nth g).withdrawn id
  batch : k.toPlant.batch? id = some (b.heldBy v c)
  others : ∀ i, i ≠ id → k.toPlant.batch? i = f.toPlant.batch? i
  out : k.out = f.out ++ (if b.step = .held then [] else [batchNow v f.toPlant (b.heldBy v c)]) ++ [heldNow v (b.heldBy v c)]

/-- A batch that is HELD already, put down for one cause more. -/
def Batch.heldAlso (v : Base) (c : HeldCause) (x : Batch) : Batch := { x with
  step := .held, causes := x.causes.put c true, berth := if c = .overdue then x.berth else x.berth.pause v.elapsed }

section Hold

variable {v : Base} {id : Nat} {c : HeldCause} {f : Flow} {b : Batch} (h : f.toPlant.batch? id = some b)

include h

theorem hold_known (held : b.step = .held) (has : b.causes.has c = true) : hold v id c f = f := by
  unfold hold
  simp only [h]
  exact if_pos ⟨held, has⟩

theorem hold_further (held : b.step = .held) (has : b.causes.has c = false) :
    hold v id c f = heldReport v id (withdrawAll id (setBatch id (Batch.heldAlso v c) f)) := by
  unfold hold
  simp only [h]
  rw [if_neg fun k => by rw [has] at k; exact nomatch k.2]
  simp only [held, ne_eq, not_true_eq_false, decide_false, Bool.false_eq_true, if_false]
  rfl

theorem holds_further (held : b.step = .held) (has : b.causes.has c = false) : Holds v id c b f (hold v id c f) := by
  have y : b.heldAlso v c = b.heldBy v c := by
    unfold Batch.heldBy
    rw [if_pos held, if_pos held]
    rfl
  have plant : (hold v id c f).toPlant = (withdrawAll id (setBatch id (Batch.heldAlso v c) f)).toPlant := by
    rw [hold_further h held has, toPlant_heldReport]
  have found : (withdrawAll id (setBatch id (Batch.heldAlso v c) f)).toPlant.batch? id = some (b.heldBy v c) := by
    rw [batch?_withdrawAll, ← y]
    exact batch?_setBatch_same (fn := Batch.heldAlso v c) (fun _ => rfl) h
  have batches : (hold v id c f).batches = (setBatch id (Batch.heldAlso v c) f).batches := by
    have e := congrArg Plant.batches (plant.trans (toPlant_withdrawAll id (setBatch id (Batch.heldAlso v c) f)))
    exact e
  have out := out_heldReport (v := v) found
  rw [out_withdrawAll, out_setBatch, ← hold_further h held has] at out
  refine ⟨?_, fun g => ?_, by rw [plant]; exact found, fun i hi => ?_, ?_⟩
  · rw [batches, plant]
    exact toPlant_withdrawAll id _
  · rw [plant, gates_withdrawAll, toPlant_setBatch]
  · rw [plant, batch?_withdrawAll]
    exact batch?_setBatch_other (fn := Batch.heldAlso v c) (fun _ => rfl) f hi
  · rw [out, if_pos held, List.append_nil]

theorem holds_hold (new : b.step ≠ .held ∨ b.causes.has c = false) : Holds v id c b f (hold v id c f) := by
  by_cases held : b.step = .held
  · exact holds_further h held (new.resolve_left (not_not.mpr held))
  · have first := heldFirst_hold (v := v) (c := c) h held
    have y : b.heldFor v c = b.heldBy v c := by
      unfold Batch.heldBy
      rw [if_neg held, if_neg held]
      rfl
    have batches : (hold v id c f).batches = (setBatch id (Batch.heldFor v c) f).batches := by
      have e := congrArg Plant.batches first.plant
      exact e
    have batch := first.batch
    have out := first.out
    rw [y] at batch out
    refine ⟨?_, first.gates, batch, first.others, ?_⟩
    · rw [batches]
      exact first.plant
    · rw [if_neg held, out, List.append_assoc]
      rfl

end Hold

/-! ## The causes met (07/R129) -/

/-- One cause looked at. -/
def followCause (v : Base) (id : Nat) (c : HeldCause) (f : Flow) : Flow :=
  match f.toPlant.batch? id with
  | none => f
  | some b =>
    if b.step = .unresolved then f
    else if meets f.toPlant b c then
      (if b.step = .held ∨ (trackerWorks f.toPlant ∧ b.frozen = false) then hold v id c f else f)
    else if b.step = .held ∧ b.causes.has c ∧ resolved f.toPlant b c then
      setBatch id (fun b => { b with causes := b.causes.put c false, overdue := if c = .overdue then none else b.overdue }) f
    else f

theorem followCauses_eq (v : Base) (id : Nat) (f : Flow) : followCauses v id f = overAll allCauses (followCause v id) f := rfl

section Cause

variable {v : Base} {id : Nat} {c : HeldCause} {f : Flow} {b : Batch} (h : f.toPlant.batch? id = some b)
  (open_ : b.step ≠ .unresolved)

include h open_

theorem followCause_met (met : meets f.toPlant b c = true) (works : b.step = .held ∨ (trackerWorks f.toPlant ∧ b.frozen = false)) :
    followCause v id c f = hold v id c f := by
  unfold followCause
  simp only [h]
  rw [if_neg open_, if_pos met, if_pos works]

theorem followCause_past (met : meets f.toPlant b c = false) : followCause v id c f = f
    ∨ (b.step = .held ∧ followCause v id c f = setBatch id (fun b => { b with
        causes := b.causes.put c false, overdue := if c = .overdue then none else b.overdue }) f) := by
  unfold followCause
  simp only [h]
  rw [if_neg open_, if_neg (by rw [met]; decide)]
  split
  · next k => exact .inr ⟨k.1, rfl⟩
  · exact .inl rfl

/-- A batch that the Tracker does not work keeps its step. -/
theorem followCause_idle (step : b.step ≠ .held) (idle : ¬ (trackerWorks f.toPlant = true ∧ b.frozen = false)) :
    followCause v id c f = f := by
  cases met : meets f.toPlant b c with
  | true =>
    unfold followCause
    simp only [h]
    rw [if_neg open_, if_pos met, if_neg fun k => k.elim step idle]
  | false =>
    obtain e | ⟨held, -⟩ := followCause_past (v := v) h open_ met
    · exact e
    · exact absurd held step

theorem followCauses_idle (step : b.step ≠ .held) (idle : ¬ (trackerWorks f.toPlant = true ∧ b.frozen = false)) :
    followCauses v id f = f := by
  have all (cs : List HeldCause) : overAll cs (followCause v id) f = f := by
    induction cs with
    | nil => rfl
    | cons c cs ih => rw [overAll_cons, followCause_idle h open_ step idle, ih]
  exact all allCauses

end Cause

/-- Through the causes: the channels, the heads and the regime record stand, and the state and the owner of each gate; the
batch is as it was, or HELD in the step it was in. -/
structure Caused (id : Nat) (b : Batch) (f k : Flow) (y : Batch) : Prop where
  channels : k.channels = f.channels
  heads : k.heads = f.heads
  regime : k.regime = f.regime
  gates : ∀ g, (k.gates.nth g).st = (f.gates.nth g).st ∧ (k.gates.nth g).owner = (f.gates.nth g).owner
  found : k.toPlant.batch? id = some y
  same : y.id = b.id ∧ y.dir = b.dir ∧ y.chamber = b.chamber ∧ y.own = b.own ∧ y.frozen = b.frozen
  step : y.step = b.step ∨ (y.step = .held ∧ y.heldStep = some b.step)

namespace Caused

variable {id : Nat} {b : Batch} {f k : Flow} {y : Batch} (h : Caused id b f k y)

include h

theorem effective (held : b.step ≠ .held) : y.effective = b.step := by
  obtain step | ⟨step, was⟩ := h.step
  · rw [effective_of_step (by rw [step]; exact held), step]
  · unfold Batch.effective
    rw [was, step]
    rfl

theorem places : y.behind = b.behind ∧ y.ahead = b.ahead := by
  obtain ⟨-, dir, chamber, -⟩ := h.same
  unfold Batch.behind Batch.ahead Batch.at_
  rw [dir, chamber]
  exact ⟨rfl, rfl⟩

theorem moves (st : Step) : y.moves st = b.moves st := by
  obtain ⟨behind, ahead⟩ := h.places
  unfold Batch.moves
  rw [behind, ahead]

theorem headOf (st : Step) : y.headOf st = b.headOf st := by
  obtain ⟨behind, ahead⟩ := h.places
  unfold Batch.headOf
  rw [behind, ahead, h.same.2.1]

/-- The causes that no hold changes are met as before. -/
theorem meets (held : b.step ≠ .held) {c : HeldCause} (hc : c = .gate ∨ c = .levelling ∨ c = .green) :
    Machine.meets k.toPlant y c = Machine.meets f.toPlant b c := by
  have eff := h.effective held
  obtain ⟨number, -, -, own, -⟩ := h.same
  obtain ⟨-, ahead⟩ := h.places
  unfold Machine.meets followsKeeper
  rw [eff, effective_of_step held]
  obtain rfl | rfl | rfl := hc
  · simp only [h.moves, (h.gates _).1, (h.gates _).2]
  · simp only [own, ahead, h.channels]
  · simp only [h.headOf, h.heads, number]

theorem hold (held : b.step ≠ .held) {v : Base} {c : HeldCause} (new : y.step ≠ .held ∨ y.causes.has c = false) :
    Caused id b f (Machine.hold v id c k) (y.heldBy v c) := by
  have holds := holds_hold (v := v) h.found new
  have same {α : Type} (x : Plant → α) := congrArg x holds.plant
  refine ⟨(same (·.channels)).trans h.channels, (same (·.heads)).trans h.heads, (same (·.regime)).trans h.regime, fun g => ?_,
    holds.batch, h.same, .inr ⟨rfl, ?_⟩⟩
  · rw [holds.gates g, st_withdrawn]
    refine ⟨(h.gates g).1, Eq.trans ?_ (h.gates g).2⟩
    unfold Gate.withdrawn
    split <;> rfl
  · show (if y.step = .held then y.heldStep else some y.step) = _
    obtain step | ⟨step, was⟩ := h.step
    · rw [if_neg (by rw [step]; exact held), step]
    · rw [if_pos step, was]

/-- The looking at one cause: a cause met is put down, and the others stand. -/
theorem followCause (held : b.step ≠ .held) (open_ : b.step ≠ .unresolved) (works : trackerWorks f.toPlant = true)
    (thawed : b.frozen = false) (v : Base) (c : HeldCause) : ∃ y', Caused id b f (Machine.followCause v id c k) y'
      ∧ (Machine.meets k.toPlant y c = true → y'.step = .held ∧ y'.causes.has c = true)
      ∧ ∀ c', c' ≠ c → y.step = .held ∧ y.causes.has c' = true → y'.step = .held ∧ y'.causes.has c' = true := by
  have unsettled : y.step ≠ .unresolved := by
    obtain step | ⟨step, -⟩ := h.step <;> rw [step]
    · exact open_
    · decide
  have goes : trackerWorks k.toPlant = true ∧ y.frozen = false := by
    unfold trackerWorks at works ⊢
    rw [h.regime, h.same.2.2.2.2]
    exact ⟨works, thawed⟩
  cases met : Machine.meets k.toPlant y c with
  | true =>
    rw [followCause_met h.found unsettled met (.inr goes)]
    by_cases known : y.step = .held ∧ y.causes.has c = true
    · rw [hold_known h.found known.1 known.2]
      exact ⟨y, h, fun _ => known, fun _ _ was => was⟩
    · have new : y.step ≠ .held ∨ y.causes.has c = false := by
        rw [not_and_or, Bool.not_eq_true] at known
        exact known
      refine ⟨y.heldBy v c, h.hold held new, fun _ => ⟨rfl, ?_⟩, fun c' ne was => ⟨rfl, ?_⟩⟩
      · exact (has_put _ _ _ _).trans (if_pos rfl)
      · exact ((has_put _ _ _ _).trans (if_neg ne)).trans was.2
  | false =>
    obtain e | ⟨step, e⟩ := followCause_past (v := v) h.found unsettled met
    · rw [e]
      exact ⟨y, h, nofun, fun _ _ was => was⟩
    · rw [e]
      refine ⟨_, ⟨h.channels, h.heads, h.regime, h.gates, batch?_setBatch_same (fn := fun b => { b with
        causes := b.causes.put c false, overdue := if c = .overdue then none else b.overdue }) (fun _ => by rfl) h.found,
        h.same, h.step⟩, nofun, fun c' ne was => ⟨was.1, ?_⟩⟩
      exact ((has_put _ _ _ _).trans (if_neg ne)).trans was.2

end Caused

/-- A cause met is put down, and the batch HELD in its step. -/
theorem followCauses_met {v : Base} {id : Nat} {f : Flow} {b : Batch} (h : f.toPlant.batch? id = some b) (held : b.step ≠ .held)
    (open_ : b.step ≠ .unresolved) (works : trackerWorks f.toPlant = true) (thawed : b.frozen = false) {c : HeldCause}
    (hc : c = .gate ∨ c = .levelling ∨ c = .green) (met : meets f.toPlant b c = true) :
    ∃ y, (followCauses v id f).toPlant.batch? id = some y ∧ y.step = .held ∧ y.heldStep = some b.step
      ∧ y.causes.has c = true := by
  have all (cs : List HeldCause) {k : Flow} {y : Batch} (at_ : Caused id b f k y)
      (todo : c ∈ cs ∨ (y.step = .held ∧ y.causes.has c = true)) :
      ∃ y', Caused id b f (overAll cs (followCause v id) k) y' ∧ y'.step = .held ∧ y'.causes.has c = true := by
    induction cs generalizing k y with
    | nil => exact ⟨y, at_, todo.resolve_left List.not_mem_nil⟩
    | cons d cs ih =>
      obtain ⟨y', next, now, stays⟩ := at_.followCause held open_ works thawed v d
      refine ih next ?_
      by_cases e : c = d
      · subst e
        exact .inr (now ((at_.meets held hc).trans met))
      · refine todo.imp (fun m => (List.mem_cons.mp m).resolve_left e) fun was => stays c e was
  have start : Caused id b f f b := ⟨rfl, rfl, rfl, fun _ => ⟨rfl, rfl⟩, h, ⟨rfl, rfl, rfl, rfl, rfl⟩, .inl rfl⟩
  obtain ⟨y, at_, step, has⟩ := all allCauses start (.inl (by obtain rfl | rfl | rfl := hc <;> decide))
  rw [followCauses_eq]
  refine ⟨y, at_.found, step, (at_.step.resolve_left fun e => held ?_).2, has⟩
  rw [← e, step]

end Sys2Proof.Machine
end

section
/-! A batch that re-enters its step (07/R130, R135). -/

namespace Sys2Proof.Machine

/-! ## The gates that a step needs (07/R130) -/

section Ready

variable {p : Plant} {b : Batch}

/-- The batch may work gate `g`: it is whole, and no other hand has it. -/
def Plant.Movable (p : Plant) (id : Nat) (g : Fin 4) : Prop :=
  (p.gates.nth g).st ≠ .fault ∧ ((p.gates.nth g).owner = .none ∨ (p.gates.nth g).owner = .batch id)

theorem gateFree_movable {g : Fin 4} : gateFree p b g = true ↔ p.Movable b.id g := by
  simp [gateFree, Plant.Movable]

/-- No member has moved through the gate ahead. -/
def NoneMoved (b : Batch) (p : Plant) : Prop := ∀ m ∈ b.members, m.flag = false ∧ p.memberSt m = some .berthed

theorem noneMoved_iff : noneMoved p b = true ↔ NoneMoved b p := by
  simp [noneMoved, NoneMoved]

theorem gatesReady_entering : gatesReady p b .entering = true ↔ ((p.gates.nth b.behind).st = .shut
    ∨ (p.gates.nth b.behind).st = .opening ∨ (p.gates.nth b.behind).st = .opened) ∧ p.Movable b.id b.behind := by
  show (gatesStand p b .entering && gateFree p b b.behind) = true ↔ _
  rw [Bool.and_eq_true, gateFree_movable]
  simp [gatesStand, or_assoc]

theorem gatesReady_sealing : gatesReady p b .sealing = true ↔ p.Movable b.id b.behind := by
  show (gatesStand p b .sealing && gateFree p b b.behind) = true ↔ _
  rw [Bool.and_eq_true, gateFree_movable]
  simp only [gatesStand, bne_iff_ne, and_iff_right_iff_imp]
  exact fun may => may.1

theorem gatesReady_ahead {s : Step} (h : s = .waitingAhead ∨ s = .levellingAhead) : gatesReady p b s = true ↔
    (p.gates.nth b.behind).st = .shut ∧ (p.gates.nth b.ahead).st = .shut := by
  obtain rfl | rfl := h <;> simp [gatesReady, gatesStand, Batch.moves]

theorem gatesReady_opening : gatesReady p b .openingAhead = true ↔ (p.gates.nth b.behind).st = .shut
    ∧ ((p.gates.nth b.ahead).st = .shut ∨ (p.gates.nth b.ahead).st = .opening ∨ (p.gates.nth b.ahead).st = .opened)
    ∧ p.Movable b.id b.ahead := by
  show (gatesStand p b .openingAhead && gateFree p b b.ahead) = true ↔ _
  rw [Bool.and_eq_true, gateFree_movable]
  simp [gatesStand, or_assoc, and_assoc]

theorem gatesReady_passing {s : Step} (h : s = .shifting ∨ s = .leaving) : gatesReady p b s = true ↔
    ((p.gates.nth b.ahead).st = .opened ∨ ((p.gates.nth b.ahead).st = .shut ∧ NoneMoved b p))
    ∧ p.Movable b.id b.ahead := by
  have stand : gatesReady p b s = (((p.gates.nth b.ahead).st == .opened
      || ((p.gates.nth b.ahead).st == .shut && noneMoved p b)) && gateFree p b b.ahead) := by
    obtain rfl | rfl := h <;> rfl
  rw [stand, Bool.and_eq_true, gateFree_movable, Bool.or_eq_true, Bool.and_eq_true, noneMoved_iff, beq_iff_eq, beq_iff_eq]

end Ready

/-! ## The step re-entered (07/R130, R135) -/

section Reenter

variable {v : Base} {id : Nat} {f : Flow} {b : Batch} (h : f.toPlant.batch? id = some b) (open_ : b.step ≠ .unresolved)

include h open_

theorem reenter_barred (ready : gatesReady f.toPlant b b.effective = false) : reenter v id f = hold v id .gate f := by
  unfold reenter
  simp only [h]
  rw [if_neg open_, if_pos ready]

/-- What a re-entry leads to. -/
theorem reenter_leads (ready : gatesReady f.toPlant b b.effective = true)
    (w : (reentered f.toPlant b b.effective).worked) : TurnsOrStops b (reentered f.toPlant b b.effective) (reenter v id f) := by
  obtain rfl := id_of_batch? h
  have e : reenter v b.id f =
      (let s := reentered f.toPlant b b.effective
       let k := if s = .waitingAhead ∧ b.effective ≠ s then leaveAhead v b f else f
       if b.step ≠ s then goStep v b.id s k else entryActions v b.id s k) := by
    unfold reenter
    simp only [h]
    rw [if_neg open_, if_neg (by rw [ready]; decide)]
  rw [e]
  generalize reentered f.toPlant b b.effective = s at w ⊢
  dsimp only
  obtain ⟨y, hy, step, members, dir, chamber⟩ : ∃ y,
      (if s = .waitingAhead ∧ b.effective ≠ s then leaveAhead v b f else f).toPlant.batch? b.id = some y
      ∧ y.step = b.step ∧ y.members = b.members ∧ y.dir = b.dir ∧ y.chamber = b.chamber := by
    split
    · exact ⟨_, (leaveAhead_leaves (v := v) h).1, rfl, rfl, rfl, rfl⟩
    · exact ⟨b, h, rfl, rfl, rfl, rfl⟩
  split
  · exact (enters_goStep (v := v) w hy members dir chamber).turned
  · next same =>
    exact (enters_entryActions (v := v) w ⟨y, hy, step.trans (not_not.mp same), members, dir, chamber⟩).turned

/-- A re-entry that leads to a step of work. -/
theorem reenter_to {s : Step} (ready : gatesReady f.toPlant b b.effective = true) (e : reentered f.toPlant b b.effective = s)
    (w : s.worked) : TurnsOrStops b s (reenter v id f) := by
  subst e
  exact reenter_leads h open_ ready w

end Reenter

/-- The step a re-entry leads to. -/
theorem reentered_cases (p : Plant) (b : Batch) :
    (∀ s, (s = .entering ∨ s = .sealing ∨ s = .waitingAhead) → reentered p b s = s)
    ∧ ((b.own = some (b.ahead, .ahead b.id) → reentered p b .levellingAhead = .levellingAhead)
      ∧ (b.own ≠ some (b.ahead, .ahead b.id) → reentered p b .levellingAhead = .waitingAhead))
    ∧ (((p.gates.nth b.ahead).st = .shut ∧ b.own ≠ some (b.ahead, .ahead b.id) → reentered p b .openingAhead = .waitingAhead)
      ∧ ((p.gates.nth b.ahead).st ≠ .shut ∨ b.own = some (b.ahead, .ahead b.id) → reentered p b .openingAhead = .openingAhead))
    ∧ ∀ s, (s = .shifting ∨ s = .leaving) → ((p.gates.nth b.ahead).st = .shut → reentered p b s = .waitingAhead)
      ∧ ((p.gates.nth b.ahead).st ≠ .shut → reentered p b s = s) := by
  have own : b.ownsAhead = true ↔ b.own = some (b.ahead, .ahead b.id) := beq_iff_eq
  refine ⟨fun s h => ?_, ⟨fun h => ?_, fun h => ?_⟩, ⟨fun h => ?_, fun h => ?_⟩, fun s h => ⟨fun st => ?_, fun st => ?_⟩⟩
  · obtain rfl | rfl | rfl := h <;> rfl
  · exact if_pos (own.mpr h)
  · exact if_neg (mt own.mp h)
  · exact if_pos ⟨h.1, Bool.not_eq_true _ ▸ mt own.mp h.2⟩
  · refine if_neg fun c => h.elim (· c.1) fun o => ?_
    rw [own.mpr o] at c
    exact nomatch c.2
  · obtain rfl | rfl := h <;> exact if_pos st
  · obtain rfl | rfl := h <;> exact if_neg st

end Sys2Proof.Machine
end

section
/-! A batch that ends, its gates and its close errands (07/R134). -/

namespace Sys2Proof.Machine

/-! ## One gate and its errand -/

/-- Of the blocks' state, gate `g` and its errand alone have changed. -/
structure PartStep (g : Fin 4) (f k : Flow) : Prop where
  plant : k.toPlant = { f.toPlant with gates := k.gates, errands := k.errands }
  elsewhere : ∀ j, j ≠ g → k.gates.nth j = f.gates.nth j ∧ k.errands.nth j = f.errands.nth j

theorem partStep_refl (g : Fin 4) (f : Flow) : PartStep g f f := ⟨rfl, fun _ _ => ⟨rfl, rfl⟩⟩

theorem GateBecomes.errands {g : Fin 4} {f k : Flow} {y : Gate} {rs : List Report} (h : GateBecomes g f k y rs) :
    k.errands = f.errands := by
  have e := congrArg Plant.errands h.plant
  exact e

theorem GateBecomes.partStep {g : Fin 4} {f k : Flow} {y : Gate} {rs : List Report} (h : GateBecomes g f k y rs) :
    PartStep g f k := by
  refine ⟨?_, fun j e => ?_⟩
  · rw [h.gates, h.errands]
    exact h.plant
  · rw [h.gates, h.errands, Tbl.nth_put_other _ _ _ _ e.symm]
    exact ⟨rfl, rfl⟩

theorem PartStep.trans {g : Fin 4} {f k m : Flow} (h : PartStep g f k) (j : PartStep g k m) : PartStep g f m :=
  ⟨j.plant.trans (congrArg (fun p : Plant => { p with gates := m.gates, errands := m.errands }) h.plant),
    fun i e => ⟨(j.elsewhere i e).1.trans (h.elsewhere i e).1, (j.elsewhere i e).2.trans (h.elsewhere i e).2⟩⟩

/-- An errand put down or taken off. -/
theorem partStep_errand (g : Fin 4) (o : Option Nat) (f : Flow) : PartStep g f { f with errands := f.errands.put g o } :=
  ⟨rfl, fun _ e => ⟨rfl, Tbl.nth_put_other _ _ _ _ e.symm⟩⟩

/-! ## A gate given up (07/R134) -/

/-- The gate without a request of the ended batch. -/
def Gate.unaskedBy (id : Nat) (x : Gate) : Gate :=
  if x.ask = some (.openFor id) ∨ x.ask = some (.closeFor id) then { x with ask := none } else x

theorem unaskedBy_keeps (id : Nat) (x : Gate) : (x.unaskedBy id).st = x.st ∧ (x.unaskedBy id).owner = x.owner
    ∧ (x.unaskedBy id).ask ≠ some (.openFor id) := by
  unfold Gate.unaskedBy
  split
  · exact ⟨rfl, rfl, nofun⟩
  · next h => exact ⟨rfl, rfl, fun e => h (.inl e)⟩

/-- What the end of a batch makes of a gate's record and its errand. -/
structure GivenUp (v : Base) (id : Nat) (m : Mode) (removed lit : Bool) (beam : Bool) (x y : Gate) (errand : Option Nat) : Prop where
  ask : x.ask ≠ some (.openFor id) → y.ask ≠ some (.openFor id)
  other : x.owner ≠ .batch id → y.owner = x.owner ∧ y.st = x.st
  yields : x.owner = .batch id → removed = true → y.owner = .keeper ∧ y.st = x.st
  releases : x.owner = .batch id → removed = false → x.st = .shut ∨ m = .manual → y.owner = .none ∧ y.st = x.st
  waits : x.owner = .batch id → removed = false → m = .auto → x.st = .opened → lit = true →
    y.ask = some (.closeFor id) ∧ y.owner = .batch id ∧ errand = some id
  closes : x.owner = .batch id → removed = false → m = .auto → x.st = .opened → lit = false → beam = false →
    y.st = .closing ∧ y.owner = .none

section Part

variable (v : Base) (id : Nat) (g : Fin 4) (f : Flow)

/-- A gate yielded. -/
theorem givenUp_yieldGate : PartStep g f (yieldGate v id g f) ∧ GivenUp v id f.regime.mode true (f.toPlant.gateLit g)
    (v.pins.beam.nth g) (f.gates.nth g) ((yieldGate v id g f).gates.nth g) ((yieldGate v id g f).errands.nth g) := by
  obtain ⟨rs, b⟩ := gateBecomes_yieldGate v id g f
  refine ⟨b.partStep, ?_⟩
  rw [b.gate]
  exact ⟨fun h => h, fun n => ⟨if_neg n, rfl⟩, fun o _ => ⟨if_pos o, rfl⟩, fun _ c => (nomatch c), fun _ c => (nomatch c),
    fun _ c => nomatch c⟩

variable {v id g f}

/-- A gate released as it stands. -/
theorem givenUp_release {lit beam : Bool} {m : Mode} {x y : Gate} {o : Option Nat} (still : y = { x with owner := .none })
    (st : ¬ (m = .auto ∧ x.st = .opened)) (own : x.owner = .batch id) : GivenUp v id m false lit beam x y o := by
  subst still
  exact ⟨fun h => h, fun n => absurd own n, fun _ c => (nomatch c), fun _ _ _ => ⟨rfl, rfl⟩,
    fun _ _ a s => absurd ⟨a, s⟩ st, fun _ _ a s => absurd ⟨a, s⟩ st⟩

theorem closeErrand_refused {k : Flow} (e : askClose v id g f = (.refused, k)) : closeErrand v id g f = releaseGate v id g k := by
  unfold closeErrand
  rw [e]

theorem closeErrand_accepted {k : Flow} (e : askClose v id g f = (.accepted, k)) : closeErrand v id g f =
    if (k.gates.nth g).ask = some (.closeFor id) then { k with errands := k.errands.put g (some id) }
    else releaseGate v id g k := by
  unfold closeErrand
  rw [e]

/-- A gate released after another change. -/
theorem GateBecomes.releaseGate {k : Flow} {y : Gate} {rs : List Report} (h : GateBecomes g f k y rs) :
    ∃ qs, GateBecomes g f (Machine.releaseGate v id g k)
      { y with owner := if y.owner = .batch id then .none else y.owner } qs := by
  unfold Machine.releaseGate
  rw [h.gate]
  split
  · next e => exact ⟨_, h.own v .none⟩
  · exact ⟨_, h⟩

/-- Whatever becomes of the CLOSE, the gate and its errand alone change. -/
theorem closeErrand_leaves : PartStep g f (closeErrand v id g f)
    ∧ ((f.gates.nth g).ask ≠ some (.openFor id) → ((closeErrand v id g f).gates.nth g).ask ≠ some (.openFor id)) := by
  obtain ⟨y, rs, b, ask⟩ := gateBecomes_askClose v id g f
  have kept (h : (f.gates.nth g).ask ≠ some (.openFor id)) : y.ask ≠ some (.openFor id) := by
    obtain e | e | e := ask <;> rw [e]
    · exact h
    · nofun
    · simp
  rcases e : askClose v id g f with ⟨_ | _, k⟩
  all_goals
    rw [e] at b
    obtain ⟨qs, rel⟩ := b.releaseGate (v := v) (id := id)
  · rw [closeErrand_refused e]
    exact ⟨rel.partStep, fun h => by rw [rel.gate]; exact kept h⟩
  · rw [closeErrand_accepted e]
    split
    · refine ⟨b.partStep.trans (partStep_errand g _ k), fun h => ?_⟩
      show (k.gates.nth g).ask ≠ _
      rw [show k.gates.nth g = y from b.gate]
      exact kept h
    · exact ⟨rel.partStep, fun h => by rw [rel.gate]; exact kept h⟩

/-- A gate that is closed or released. -/
theorem givenUp_partGate : PartStep g f (partGate v id g f) ∧ GivenUp v id f.regime.mode false (f.toPlant.gateLit g)
    (v.pins.beam.nth g) (f.gates.nth g) ((partGate v id g f).gates.nth g) ((partGate v id g f).errands.nth g) := by
  by_cases own : (f.gates.nth g).owner = .batch id
  case neg =>
    have e : partGate v id g f = f := if_pos own
    rw [e]
    exact ⟨partStep_refl g f, fun h => h, fun _ => ⟨rfl, rfl⟩, fun c => absurd c own, fun c => absurd c own,
      fun c => absurd c own, fun c => absurd c own⟩
  by_cases shut : (f.gates.nth g).st = .shut
  · have e : partGate v id g f = releaseGate v id g f := (if_neg (not_not.mpr own)).trans (if_pos shut)
    obtain ⟨rs, b⟩ := gateBecomes_releaseGate v id g f
    rw [e]
    refine ⟨b.partStep, givenUp_release (by rw [b.gate, if_pos own]) (fun c => ?_) own⟩
    rw [shut] at c
    exact nomatch c.2
  have e : partGate v id g f = closeErrand v id g f := (if_neg (not_not.mpr own)).trans (if_neg shut)
  obtain ⟨step, ask⟩ := closeErrand_leaves (v := v) (id := id) (g := g) (f := f)
  rw [e]
  refine ⟨step, ask, fun n => absurd own n, fun _ c => (nomatch c), fun _ _ c => ?_, fun _ _ auto opened lit => ?_,
    fun _ _ auto opened dark beam => ?_⟩
  · have manual := c.resolve_left shut
    have bar : gateBarred id g f = true := gateBarred_iff.mpr (.inl manual)
    obtain ⟨rs, b⟩ := gateBecomes_releaseGate v id g f
    rw [closeErrand_refused (askClose_barred bar), b.gate, if_pos own]
    exact ⟨rfl, rfl⟩
  · have free := not_barred auto (g := g) (b := id) ⟨by rw [opened]; decide, .inr own⟩
    obtain ⟨k, rs, taken, b⟩ := askClose_lit (v := v) free opened lit
    rw [closeErrand_accepted taken, if_pos (by rw [b.gate])]
    show (k.gates.nth g).ask = _ ∧ (k.gates.nth g).owner = _ ∧ (k.errands.put g (some id)).nth g = _
    rw [b.gate, Tbl.nth_put_same]
    exact ⟨rfl, rfl, rfl⟩
  · have free := not_barred auto (g := g) (b := id) ⟨by rw [opened]; decide, .inr own⟩
    obtain ⟨k, y, rs, taken, b, closing, owner, none⟩ := askClose_dark (v := v) free opened dark beam
    obtain ⟨qs, rel⟩ := b.releaseGate (v := v) (id := id)
    rw [closeErrand_accepted taken, if_neg (by rw [b.gate, none]; nofun), rel.gate, if_pos owner]
    exact ⟨closing, rfl⟩

end Part

/-! ## Every gate in turn -/

/-- The gates and the errands apart, the blocks stand as in `m`. -/
def PartFrame (m f : Flow) : Prop := f.toPlant = { m.toPlant with gates := f.gates, errands := f.errands }

theorem PartFrame.step {m f k : Flow} {g : Fin 4} (h : PartFrame m f) (s : PartStep g f k) : PartFrame m k :=
  s.plant.trans (congrArg (fun p : Plant => { p with gates := k.gates, errands := k.errands }) h)

/-- The gates given up, each by its own step. -/
theorem givenUp_all {v : Base} {id : Nat} {removed : Bool} {act : Fin 4 → Flow → Flow}
    (each : ∀ g f, PartStep g f (act g f) ∧ GivenUp v id f.regime.mode removed (f.toPlant.gateLit g) (v.pins.beam.nth g)
      (f.gates.nth g) ((act g f).gates.nth g) ((act g f).errands.nth g)) (m : Flow) (g : Fin 4) :
    let k := overAll allGates act m
    PartFrame m k ∧ GivenUp v id m.regime.mode removed (m.toPlant.gateLit g) (v.pins.beam.nth g) (m.gates.nth g)
      (k.gates.nth g) (k.errands.nth g) := by
  refine overAll_gates (act := act) (P := fun g f => PartFrame m f ∧ f.gates.nth g = m.gates.nth g)
    (Q := fun g f => PartFrame m f ∧ GivenUp v id m.regime.mode removed (m.toPlant.gateLit g) (v.pins.beam.nth g)
      (m.gates.nth g) (f.gates.nth g) (f.errands.nth g)) (fun g f ⟨frame, same⟩ => ?_) (fun g k f ⟨frame, _⟩ e => ?_)
    (fun g => ⟨rfl, rfl⟩) g
  · obtain ⟨step, up⟩ := each g f
    have lit := congrArg (fun p => p.gateLit g) (show f.toPlant = _ from frame)
    have mode := congrArg (fun p => p.regime.mode) (show f.toPlant = _ from frame)
    have lit : f.toPlant.gateLit g = m.toPlant.gateLit g := lit
    have mode : f.regime.mode = m.regime.mode := mode
    rw [lit, mode, same] at up
    exact ⟨frame.step step, up⟩
  · obtain ⟨gate, errand⟩ := (each g f).1.elsewhere k e
    rw [gate, errand]
    exact ⟨fun p => ⟨frame.step (each g f).1, p.2⟩, fun q => ⟨frame.step (each g f).1, q.2⟩⟩

/-! ## The end of a batch (07/R134) -/

/-- The batch's heads, its levelling and its requests given up, before its gates. -/
def released (v : Base) (id : Nat) (b : Batch) (f : Flow) : Flow := withdrawAsks id (cancelOwn v b (releaseHeads v id f))

/-- Its gates given up too. -/
def parted (v : Base) (id : Nat) (e : BatchEnd) (b : Batch) (f : Flow) : Flow :=
  if e = .removed then overAll allGates (yieldGate v id) (released v id b f)
  else overAll allGates (partGate v id) (released v id b f)

theorem endBatch_eq {v : Base} {id : Nat} {e : BatchEnd} {f : Flow} {b : Batch} (h : f.toPlant.batch? id = some b) :
    endBatch v id e f = askOpportunity (raise v .passage 0x25 (u1 id ++ u1 e.code ++ opt1 b.chamber
      ++ bits1 (gatesLeft id (released v id b f) (parted v id e b f)))
      { parted v id e b f with batches := (parted v id e b f).batches.filter fun x => x.id ≠ id }) := by
  unfold endBatch
  simp only [h]
  rfl

theorem free_releaseHeads (v : Base) (id : Nat) (f : Flow) (h : Fin 8) :
    ((releaseHeads v id f).heads.nth h).holder ≠ .batch id := by
  have all := overAll_each (act := releaseHead v id) (P := fun _ _ => True)
    (Q := fun h f => (f.heads.nth h).holder ≠ .batch id) (fun h f _ => by
      obtain ⟨x, rs, b, free⟩ := headBecomes_releaseHead v id h f
      rw [b.head]
      exact free) (fun h k f _ e => ⟨fun _ => trivial, fun free => by
      obtain ⟨x, rs, b, -⟩ := headBecomes_releaseHead v id h f
      rw [b.heads, Tbl.nth_put_other _ _ _ _ e.symm]
      exact free⟩) nodup_allHeads (f := f) (fun _ _ => trivial) (fun h no => absurd (mem_allHeads h) no) h
  unfold releaseHeads
  exact all

theorem headsOnly_releaseHeads (v : Base) (id : Nat) (f : Flow) : HeadsOnly f (releaseHeads v id f) :=
  headsOnly_overAll (fun h f => headsOnly_ite (headsOnly_changeHead v h _ f)) _ f

/-- What is left before the gates are given up. -/
theorem released_leaves (v : Base) (id : Nat) (b : Batch) (f : Flow) : let m := released v id b f
    (∀ h, (m.heads.nth h).holder ≠ .batch id) ∧ m.regime = f.regime
    ∧ (∀ g, m.gates.nth g = (f.gates.nth g).unaskedBy id)
    ∧ (∀ g p, b.own = some (g, p) → (f.channels.nth g).req = some p → (f.channels.nth g).st ≠ .idle →
      m.channels.nth g = Channel.idle) := by
  intro m
  have free := free_releaseHeads v id f
  have only := headsOnly_releaseHeads v id f
  have water := watery_cancelOwn (Watery.refl (releaseHeads v id f)) v b
  have plant := toPlant_overAll_setGate (Gate.unaskedBy id) allGates (cancelOwn v b (releaseHeads v id f))
  have gates := gates_overAll_setGate (fn := Gate.unaskedBy id) (fun x => by
    unfold Gate.unaskedBy
    split <;> simp [*]) (cancelOwn v b (releaseHeads v id f))
  have e : m = overAll allGates (fun g => setGate g (Gate.unaskedBy id)) (cancelOwn v b (releaseHeads v id f)) := rfl
  rw [← e] at plant gates
  have idle : ∀ g p, b.own = some (g, p) → ((releaseHeads v id f).channels.nth g).req = some p →
      ((releaseHeads v id f).channels.nth g).st ≠ .idle →
      (cancelOwn v b (releaseHeads v id f)).channels.nth g = Channel.idle := by
    intro g p own req st
    unfold cancelOwn
    rw [own]
    dsimp only
    rw [cancelFor_own req]
    exact (cancelChannel_leaves st).1
  obtain ⟨wgates, wheads, -, -, -, -, -, -, wregime⟩ := water.water
  have channels : (releaseHeads v id f).channels = f.channels := only.same (·.channels) fun _ _ => rfl
  have hgates : (releaseHeads v id f).gates = f.gates := only.same (·.gates) fun _ _ => rfl
  rw [channels] at idle
  generalize cancelOwn v b (releaseHeads v id f) = c at *
  have mheads : m.heads = c.heads := (congrArg Plant.heads plant).trans rfl
  have mregime : m.regime = c.regime := (congrArg Plant.regime plant).trans rfl
  have mchannels : m.channels = c.channels := (congrArg Plant.channels plant).trans rfl
  refine ⟨fun h => ?_, mregime.trans (wregime.trans only.regime), fun g => ?_, fun g p own req st => ?_⟩
  · rw [mheads, show c.heads = _ from wheads]
    exact free h
  · rw [gates, show c.gates = _ from wgates, hgates]
  · rw [mchannels]
    exact idle g p own req st

/-- What the end leaves of the gates. -/
theorem parted_leaves (v : Base) (id : Nat) (e : BatchEnd) (b : Batch) (f : Flow) (g : Fin 4) :
    let m := released v id b f
    let k := parted v id e b f
    PartFrame m k ∧ GivenUp v id m.regime.mode (decide (e = .removed)) (m.toPlant.gateLit g) (v.pins.beam.nth g)
      (m.gates.nth g) (k.gates.nth g) (k.errands.nth g) := by
  unfold parted
  generalize released v id b f = m
  by_cases r : e = .removed
  · have all := givenUp_all (act := yieldGate v id) (id := id) (removed := true) (fun g f => givenUp_yieldGate v id g f) m g
    rw [decide_eq_true r, if_pos r]
    exact all
  · have all := givenUp_all (act := partGate v id) (id := id) (removed := false) (fun g f => givenUp_partGate) m g
    rw [decide_eq_false r, if_neg r]
    exact all

/-! ## The errands (07/R134) -/

/-- One errand looked at. -/
def lookErrand (v : Base) (g : Fin 4) (f : Flow) : Flow :=
  match f.errands.nth g with
  | none => f
  | some id =>
    if (f.gates.nth g).ask = some (.closeFor id) then f
    else releaseGate v id g { f with errands := f.errands.put g none }

theorem errandRound_eq (v : Base) (f : Flow) : errandRound v f = overAll allGates (lookErrand v) f := rfl

/-- What a look at an errand makes of the gate and of the errand. -/
structure Errand (x : Gate) (e : Option Nat) (y : Gate) (e' : Option Nat) : Prop where
  free : e = none → e' = none ∧ y = x
  waits : ∀ id, e = some id → x.ask = some (.closeFor id) → e' = some id ∧ y = x
  ends : ∀ id, e = some id → x.ask ≠ some (.closeFor id) →
    e' = none ∧ y.owner = if x.owner = .batch id then .none else x.owner

theorem errand_look (v : Base) (g : Fin 4) (f : Flow) : PartStep g f (lookErrand v g f)
    ∧ Errand (f.gates.nth g) (f.errands.nth g) ((lookErrand v g f).gates.nth g) ((lookErrand v g f).errands.nth g) := by
  cases e : f.errands.nth g with
  | none =>
    have still : lookErrand v g f = f := by
      unfold lookErrand
      simp only [e]
    rw [still, e]
    exact ⟨partStep_refl g f, fun _ => ⟨rfl, rfl⟩, nofun, nofun⟩
  | some id =>
    by_cases ask : (f.gates.nth g).ask = some (.closeFor id)
    · have still : lookErrand v g f = f := by
        unfold lookErrand
        simp only [e]
        exact if_pos ask
      rw [still, e]
      exact ⟨partStep_refl g f, nofun, fun i h _ => ⟨h, rfl⟩, fun i h n => absurd (Option.some.inj h ▸ ask) n⟩
    · have ends : lookErrand v g f = releaseGate v id g { f with errands := f.errands.put g none } := by
        unfold lookErrand
        simp only [e]
        exact if_neg ask
      obtain ⟨rs, b⟩ := gateBecomes_releaseGate v id g { f with errands := f.errands.put g none }
      have step := (partStep_errand g none f).trans b.partStep
      rw [ends, b.gate, b.errands]
      refine ⟨step, nofun, fun i h c => absurd (Option.some.inj h ▸ c) ask, fun i h _ => ?_⟩
      obtain rfl := Option.some.inj h
      exact ⟨Tbl.nth_put_same _ _ _, rfl⟩

/-- Every errand in turn. -/
theorem errand_round (v : Base) (f : Flow) (g : Fin 4) :
    Errand (f.gates.nth g) (f.errands.nth g) ((errandRound v f).gates.nth g) ((errandRound v f).errands.nth g) := by
  rw [errandRound_eq]
  refine overAll_gates (act := lookErrand v)
    (P := fun g k => k.gates.nth g = f.gates.nth g ∧ k.errands.nth g = f.errands.nth g)
    (Q := fun g k => Errand (f.gates.nth g) (f.errands.nth g) (k.gates.nth g) (k.errands.nth g))
    (fun g k ⟨gate, errand⟩ => ?_) (fun g j k _ e => ?_) (fun _ => ⟨rfl, rfl⟩) g
  · have looked := (errand_look v g k).2
    rw [gate, errand] at looked
    exact looked
  · obtain ⟨gate, errand⟩ := (errand_look v g k).1.elsewhere j e
    rw [gate, errand]
    exact ⟨id, id⟩

end Sys2Proof.Machine
end

section
/-! The Tracker's steps: the settlement (07/R119, R121 to R126, R129, R130, R134, R135). -/

namespace Sys2Proof.Machine

/-! ## One batch examined (07/R129, R135) -/

theorem trackerWorks_iff {f : Flow} :
    trackerWorks f.toPlant = true ↔ f.regime.mode = .auto ∧ f.regime.condition ≠ .stoodDown := by
  rw [trackerWorks, Bool.and_eq_true, beq_iff_eq, bne_iff_ne]

section Examine

variable {v : Base} {id : Nat} {f : Flow} {b : Batch} (h : f.toPlant.batch? id = some b)
  (calm : followCauses v id (followWaved id (followOwn id f)) = f) (thawed : b.frozen = false) (auto : f.regime.mode = .auto)
  (up : f.regime.condition ≠ .stoodDown)

include h calm thawed auto up

theorem examineBatch_works (held : b.step ≠ .held) : examineBatch v id f = workStep v b f := by
  unfold examineBatch
  rw [calm]
  simp only [h]
  rw [if_neg (by rw [thawed]; simpa using up), if_neg (by rw [auto]; decide), if_neg held]

theorem examineBatch_resumes (held : b.step = .held) (none : b.causes = HeldCauses.none) :
    examineBatch v id f = reenter v id f := by
  unfold examineBatch
  rw [calm]
  simp only [h]
  rw [if_neg (by rw [thawed]; simpa using up), if_neg (by rw [auto]; decide), if_pos held, if_pos none]

end Examine

/-! ## The causes by name (07/R129) -/

theorem meets_gate {f : Flow} {b : Batch} {g : Fin 4} (h : b.moves b.effective = some g)
    (c : (f.gates.nth g).st = .fault ∨ (f.gates.nth g).owner = .keeper) : meets f.toPlant b .gate = true := by
  unfold meets
  simpa only [h, Bool.or_eq_true, beq_iff_eq] using c

theorem meets_own {f : Flow} {b : Batch} {g : Fin 4} {p : Purpose} (h : b.own = some (g, p))
    (st : (f.channels.nth g).st = .failed) (req : (f.channels.nth g).req = some p) : meets f.toPlant b .levelling = true := by
  unfold meets
  simp [h, st, req]

theorem meets_keepers {f : Flow} {b : Batch} (h : b.own = none) (eff : b.effective = .levellingAhead)
    (st : (f.channels.nth b.ahead).st = .failed) (req : (f.channels.nth b.ahead).req = some .keeper) :
    meets f.toPlant b .levelling = true := by
  unfold meets followsKeeper
  simp [h, st, req, eff]

theorem meets_green {f : Flow} {b : Batch} {k : Fin 8} (h : b.headOf b.effective = some k)
    (holder : (f.heads.nth k).holder = .batch b.id) (pending : (f.heads.nth k).pending = true)
    (gn : (f.heads.nth k).good.gn = false) (waved : (f.heads.nth k).waved = false) : meets f.toPlant b .green = true := by
  unfold meets
  simp [h, holder, pending, gn, waved]

/-! ## The end of a batch (07/R134) -/

section End

variable {v : Base} {id : Nat} {e : BatchEnd} {f : Flow} {b : Batch} (h : f.toPlant.batch? id = some b)

include h

/-- The end takes the batch from what its parting left. -/
theorem toPlant_endBatch : ∃ batches, (endBatch v id e f).toPlant =
    { (parted v id e b f).toPlant with batches := batches } := by
  rw [endBatch_eq h]
  generalize parted v id e b f = k
  exact ⟨_, rfl⟩

/-- The heads and the channels after the end. -/
theorem endBatch_frees : (∀ k, ((endBatch v id e f).heads.nth k).holder ≠ .batch id)
    ∧ (∀ g p, b.own = some (g, p) → (f.channels.nth g).req = some p → (f.channels.nth g).st ≠ .idle →
      (endBatch v id e f).channels.nth g = Channel.idle) := by
  obtain ⟨free, -, -, idle⟩ := released_leaves v id b f
  have frame := (parted_leaves v id e b f 0).1
  obtain ⟨bs, plant⟩ := toPlant_endBatch (v := v) (e := e) h
  generalize endBatch v id e f = k at *
  generalize parted v id e b f = n at *
  generalize released v id b f = m at *
  have kheads := congrArg Plant.heads plant
  have nheads := congrArg Plant.heads frame
  have kchannels := congrArg Plant.channels plant
  have nchannels := congrArg Plant.channels frame
  have heads : k.heads = m.heads := kheads.trans nheads
  have channels : k.channels = m.channels := kchannels.trans nchannels
  rw [heads, channels]
  exact ⟨free, idle⟩

/-- A gate after the end. -/
theorem endBatch_gate (g : Fin 4) : GivenUp v id f.regime.mode (decide (e = .removed)) ((endBatch v id e f).toPlant.gateLit g)
    (v.pins.beam.nth g) ((f.gates.nth g).unaskedBy id) ((endBatch v id e f).gates.nth g) ((endBatch v id e f).errands.nth g) := by
  obtain ⟨-, regime, gates, -⟩ := released_leaves v id b f
  obtain ⟨frame, up⟩ := parted_leaves v id e b f g
  obtain ⟨bs, plant⟩ := toPlant_endBatch (v := v) (e := e) h
  generalize endBatch v id e f = k at *
  generalize parted v id e b f = n at *
  generalize released v id b f = m at *
  have lit : n.toPlant.gateLit g = m.toPlant.gateLit g := (congrArg (fun p => p.gateLit g) frame).trans rfl
  have klit := congrArg (fun p => p.gateLit g) plant
  have kgates := congrArg Plant.gates plant
  have kerrands := congrArg Plant.errands plant
  have kgates : k.gates = n.gates := kgates
  have kerrands : k.errands = n.errands := kerrands
  have klit : k.toPlant.gateLit g = n.toPlant.gateLit g := klit
  rw [regime, gates, ← lit, ← klit, ← kgates, ← kerrands] at up
  exact up

/-- BATCH_ENDED comes last. -/
theorem endBatch_told : ∃ left, (endBatch v id e f).out.getLast? =
    some (reportNow v .passage 0x25 (u1 id ++ u1 e.code ++ opt1 b.chamber ++ bits1 left)) := by
  refine ⟨gatesLeft id (released v id b f) (parted v id e b f), ?_⟩
  rw [endBatch_eq h, out_askOpportunity, out_raise]
  exact List.getLast?_concat

end End

/-- Settles O54: one batch examined; the steps in their order; HELD and the way back; the ends and the errands. -/
theorem trackerWorksTheSteps : Obligations.TrackerWorksTheSteps := by
  unfold Obligations.TrackerWorksTheSteps
  intro turnsTo turnsOrStops works mayMove mayStage staged opens
  refine ⟨?examine, ?entering, ?seals, ?sealing, ?claim, ?ask, ?ahead, ?opening, ?passing, ?members, ?hold, ?causes, ?ready,
    ?reenter, ?ends, ?errands⟩
  case examine =>
    exact fun v id f b hb calm thawed w =>
      ⟨examineBatch_works hb calm thawed w.1 w.2, examineBatch_resumes hb calm thawed w.1 w.2⟩
  case entering =>
    intro v b f h step head hb g k
    have e : k = workEntering v b h f := workStep_entering step head
    rw [e]
    refine ⟨fun all => ?_, fun all w => ⟨fun shut idle usable => ?_, fun shut level may ask red => ?_, fun opened may stage => ?_,
      fun a owner ne st => ?_⟩⟩
    · have w := gateBecomes_withdrawOpen b.id g f
      obtain ⟨-, -, -, gates, -⟩ := sealStep_leaves (v := v) (h := h) ((w.batch? b.id).trans hb)
      rw [workEntering_berthed all, gates, w.gate]
      exact ⟨rfl, ask_withdrawn _ _⟩
    · exact workEntering_levels all w.1 w.2 hb shut idle usable
    · exact workEntering_opens all w.1 may shut level ask red
    · exact workEntering_goes all w.1 w.2 hb step may opened stage
    · exact workEntering_other all owner ne st
  case seals => exact fun v id h f b hb => sealStep_leaves hb
  case sealing =>
    intro v b f step hb g x k
    have e : k = workSealing v b f := workStep_sealing step
    rw [e]
    refine ⟨fun shut => workSealing_shut hb shut, fun shut ask => workSealing_asked shut ask, fun shut ask =>
      ⟨fun bar => workSealing_barred shut ask bar, fun free opened lit => ?_, fun free opened dark beam => ?_⟩⟩
    · obtain ⟨m, rs, taken, becomes⟩ := askClose_lit (v := v) free opened lit
      rw [workSealing_taken shut ask taken, becomes.gate]
      exact ⟨rfl, opened⟩
    · obtain ⟨m, y, rs, taken, becomes, closing, owner, -⟩ := askClose_dark (v := v) free opened dark beam
      rw [workSealing_taken shut ask taken, becomes.gate]
      exact ⟨closing, owner⟩
  case claim =>
    exact fun v id f b hb => ⟨fun n target next => ⟨claimAhead_full hb target next, target_claimAhead hb target next⟩,
      claimAhead_claimed hb⟩
  case ask =>
    intro v id f b hb k c
    refine ⟨fun own => askAhead_has hb (.inl own), fun level keeper => askAhead_has hb (.inr ⟨level, keeper⟩),
      fun own w idle shut usable => ?_⟩
    have asks : k = askOwn v b b.ahead (.ahead id) f := askAhead_asks hb own fun l => by
      have level : c.st = .level := l.1
      rw [level] at idle
      cases idle
    obtain rfl := id_of_batch? hb
    rw [asks]
    exact askOwn_takes hb w.1 w.2 idle shut usable
  case ahead =>
    intro v b f step hb c k mine claimed
    have e : k = workAhead v b f := workStep_ahead step
    have held : b.step ≠ .held := by obtain step | step := step <;> rw [step] <;> decide
    rw [e]
    have go {st : Step} (w : st.worked) := enters_goStep (v := v) (b := b) (st := st) w hb rfl rfl rfl
    refine ⟨fun m c st => ⟨fun step => ?_, fun step => ?_⟩, fun m c st => ?_, fun m step => ?_, fun c who => ?_, fun m c step => ?_⟩
    · rw [workAhead_runs c held m st, if_neg (by rw [step]; decide)]
      exact ((go ⟨by decide, by decide⟩).calm (by decide) (by decide)).1
    · rw [workAhead_runs c held m st, if_pos step]
    · rw [workAhead_level c held m st]
      exact (go ⟨by decide, by decide⟩).turned
    · rw [workAhead_lost m step]
      exact ((go ⟨by decide, by decide⟩).calm (by decide) (by decide)).1
    · exact workAhead_unclaimed step c who
    · exact workAhead_waits c m step
  case opening =>
    intro v b f h step head hb g x c k
    have e : k = workOpening v b h f := workStep_opening step head
    have at_ : b.dir.headAt b.ahead = h := Option.some.inj head
    rw [e]
    refine ⟨fun shut idle => ?_, fun shut idle level => ?_, fun shut level red => workOpening_lost shut level red,
      fun shut level red w may ask => workOpening_opens shut level red w.1 w.2 may ask,
      fun opened w may => workOpening_goes hb w.1 w.2 opened may, fun a owner ne st => workOpening_other owner ne st⟩
    · have back := goStep_back (v := v) (b := b) hb (.inl rfl) rfl rfl rfl
      rw [workOpening_idle shut idle, ← at_]
      exact back
    · obtain ⟨turned, free, -⟩ := goStep_back (v := v) (b := b) hb (.inr rfl) rfl rfl rfl
      rw [workOpening_levelling shut idle level, ← at_]
      exact ⟨turned, free⟩
  case passing =>
    intro v b f h step head x k
    have e : k = workPassing v b h f := workStep_passing step head
    rw [e]
    exact ⟨workPassing_berthed, fun going st => workPassing_waits going (.inl st),
      fun a going owner ne => workPassing_waits going (.inr (openRefused_other owner ne)),
      fun going opened owner => workPassing_goes going opened owner⟩
  case members =>
    intro v b h f y goes k ready
    refine ⟨passMembers_stay, fun n x go hx => ?_, fun go hb shifting auto still some_ => ?_⟩
    · obtain ⟨waved, e⟩ := passMembers_go (v := v) go
      have at_ := passage?_moveMembers (v := v) (b := b) (waved := waved) hx
      rw [← e] at at_
      exact ⟨fun n => at_.trans (by rw [if_neg n]), fun r => at_.trans (by rw [if_pos r]; rfl)⟩
    · obtain ⟨waved, e⟩ := passMembers_go (v := v) go
      show (passMembers v b h f).toPlant.batch? b.id = _
      rw [e]
      exact batch?_moveMembers hb shifting auto still some_
  case hold =>
    intro v id c f b hb k held y
    refine ⟨fun h has => hold_known hb h has, fun new => ?_⟩
    have holds := holds_hold (v := v) (c := c) hb new
    have same {α : Type} (x : Plant → α) := congrArg x holds.plant
    refine ⟨holds.batch, holds.others, fun g => ?_, same (·.channels), same (·.heads), same (·.passages), holds.out⟩
    show ((Machine.hold v id c f).gates.nth g).ask ≠ _ ∧ ((Machine.hold v id c f).gates.nth g).st = _
    rw [holds.gates g, st_withdrawn]
    exact ⟨ask_withdrawn _ _, rfl⟩
  case causes =>
    intro v id f b hb held open_ k met
    have eff := effective_of_step held
    refine ⟨fun idle => followCauses_idle hb open_ held fun ⟨w, thawed⟩ => ?_, fun thawed w => ?_⟩
    · rw [trackerWorks_iff] at w
      obtain frozen | no := idle
      · rw [frozen] at thawed
        cases thawed
      · exact no w
    · have put {c : HeldCause} (hc : c = .gate ∨ c = .levelling ∨ c = .green) (m : meets f.toPlant b c = true) :=
        followCauses_met (v := v) hb held open_ (trackerWorks_iff.mpr w) thawed hc m
      exact ⟨fun g mv c => put (.inl rfl) (meets_gate (by rw [eff]; exact mv) c),
        fun g p own st req => put (.inr (.inl rfl)) (meets_own own st req),
        fun own step st req => put (.inr (.inl rfl)) (meets_keepers own (by rw [eff]; exact step) st req),
        fun h head holder pending gn waved => put (.inr (.inr rfl)) (meets_green (by rw [eff]; exact head) holder pending gn waved)⟩
  case ready =>
    intro p b s st moved still
    exact ⟨gatesReady_entering (p := p), gatesReady_sealing (p := p), gatesReady_ahead (p := p), gatesReady_opening (p := p),
      gatesReady_passing (p := p)⟩
  case reenter =>
    intro v id f b hb open_ s shut own leadsTo
    obtain ⟨plain, levelling, opening, passing⟩ := reentered_cases f.toPlant b
    obtain rfl := id_of_batch? hb
    refine ⟨fun no => reenter_barred hb open_ no, fun ready => ?_⟩
    have led {st : Step} (e : reentered f.toPlant b s = st) (w : st.worked) : leadsTo st := reenter_to hb open_ ready e w
    refine ⟨fun h => ?_, fun h => ?_, fun h => ?_, fun h => ?_⟩
    · exact led (plain s h) (by obtain h | h | h := h <;> rw [h] <;> exact ⟨by decide, by decide⟩)
    · rw [h] at led ⊢
      exact ⟨fun o => led (levelling.1 o) ⟨by decide, by decide⟩, fun o => led (levelling.2 o) ⟨by decide, by decide⟩⟩
    · rw [h] at led ⊢
      exact ⟨fun o => led (opening.1 o) ⟨by decide, by decide⟩, fun o => led (opening.2 o) ⟨by decide, by decide⟩⟩
    · exact ⟨fun o => led ((passing s h).1 o) ⟨by decide, by decide⟩,
        fun o => led ((passing s h).2 o) (by obtain h | h := h <;> rw [h] <;> exact ⟨by decide, by decide⟩)⟩
  case ends =>
    intro v id e f b hb k
    have ended := ended_endBatch (v := v) (e := e) hb
    have gone := batch?_deleted (p := f.toPlant) ended.batches
    obtain ⟨free, idle⟩ := endBatch_frees (v := v) (e := e) hb
    refine ⟨(gone id).trans (if_pos rfl), fun i ne => (gone i).trans (if_neg ne), ended.opp, free, ended.passages, idle,
      fun g => ?_, endBatch_told hb⟩
    intro x y
    have up := endBatch_gate (v := v) (e := e) hb g
    obtain ⟨st, owner, ask⟩ := unaskedBy_keeps id x
    have removed : decide (e = .removed) = true ↔ e = .removed := decide_eq_true_iff
    refine ⟨up.ask ask, fun o => ?_, fun o r => ?_, fun o r c => ?_, fun o r auto opened lit => ?_, fun o r auto opened dark beam => ?_⟩
    · have u := up.other (by rw [owner]; exact o)
      rw [owner, st] at u
      exact u
    · have u := up.yields (owner.trans o) (decide_eq_true r)
      rw [st] at u
      exact u
    · have u := up.releases (owner.trans o) (decide_eq_false r) (by rw [st]; exact c)
      rw [st] at u
      exact u
    · exact up.waits (owner.trans o) (decide_eq_false r) auto (st.trans opened) lit
    · exact up.closes (owner.trans o) (decide_eq_false r) auto (st.trans opened) dark beam
  case errands =>
    intro v f g k
    have round := errand_round v f g
    exact ⟨fun h => round.free h, fun id h => ⟨fun ask => round.waits id h ask, fun ask => round.ends id h ask⟩⟩

end Sys2Proof.Machine
end
